-- ==== Sys2Proof/Word.lean ====
section
/-!
DEFINITION. The plain words of the model: bytes, byte strings and tables indexed by a number.
-/
namespace Sys2Proof

/-- One byte. -/
abbrev Byte := BitVec 8

/-- A string of bytes, lowest address first (R5). -/
abbrev Bytes := List Byte

/-- A table from numbers to values, held as pairs with rising numbers; an unlisted number holds the table's default. -/
abbrev Sparse (α : Type) := List (Nat × α)

end Sys2Proof
end

