-- ==== Sys2Proof/Syntax.lean ====
section
/-!
DEFINITION. The commands of the block: operand forms, and one constructor for each row of the table.
-/
namespace Sys2Proof

/-- The guard of a control-core instruction (R246). -/
inductive Guard where
  | always
  | when (p : Fin 4)
  | unless (p : Fin 4)
deriving DecidableEq, Repr

/-- A due cycle: an immediate, or a counter plus a signed immediate (R250). -/
inductive Due where
  | imm (d : BitVec 16)
  | rel (c : Fin 8) (i : BitVec 16)
deriving DecidableEq, Repr

/-- The second source of a scalar instruction: a register or an immediate (R248). -/
inductive Src where
  | reg (s : Fin 16)
  | imm (i : BitVec 16)
deriving DecidableEq, Repr

/-- The source of cset and the second source of cadd: a counter or an immediate (R248). -/
inductive CSrc where
  | reg (c : Fin 8)
  | imm (i : BitVec 32)
deriving DecidableEq, Repr

/-- The engines, in the order of the unit codes 1 to 7 (Table TL-9). -/
inductive Engine where
  | cg | vu | sfu | ix | fu | mv | dg
deriving DecidableEq, Repr

/-- What a wait instruction waits for (Table CC-5): a completion count, a signal count or a notice. -/
inductive WaitKind where
  | mq | sig | mbx
deriving DecidableEq, Repr

/-- What the receiver of a training frame measures and meets (R344, R375): its own equaliser requests for its two lanes, and
the errors of each codeword. -/
structure FrameReport where
  request0 : Fin 64
  request1 : Fin 64
  errors : List Nat
deriving DecidableEq, Repr

/-- A resource that firmware clears after its assignment (R565): a group, an HBM channel or a capacity channel. -/
inductive Resource where
  | group (g : Fin 84)
  | hbm (c : Fin 256)
  | cap (c : Fin 16)
deriving DecidableEq, Repr

/-- What a configuration request writes (R580, R581, R600): Bus Master Enable of a function, MSI-X Enable and Function Mask of
one, or NumVFs. -/
inductive ConfigWrite where
  | busMaster (f : Fin 17) (b : Bool)
  | msix (f : Fin 17) (enable mask : Bool)
  | numVfs (n : Fin 17)
deriving DecidableEq, Repr

/-- A JTAG instruction: the two that always act, and any other by number (R682). -/
inductive TapInstr where
  | bypass
  | idcode
  | other (n : Nat)
deriving DecidableEq, Repr

/-- The principals of the object dictionary (R609): host admin, the host principal of a partition, the board manager and
firmware. -/
inductive Principal where
  | hostAdmin
  | host (k : Fin 16)
  | board
  | firmware
deriving DecidableEq, Repr

/-- How an Object Access Protocol frame reaches firmware (R609, R624, R628): the mailbox of a function, which holds the frame,
or the management port, with the source address (16 bytes) and UDP port (2 bytes) of the frame. -/
inductive OapPath where
  | mailbox (f : Fin 17)
  | port (source : Bytes) (multicast : Bool) (frame : Bytes)
deriving DecidableEq, Repr

/-- What a write without a row of its own goes to (R583, R614): a register of a function, the mailbox bytes of a function, or an
entry of the object dictionary with the type code and bytes of the value. -/
inductive WriteTarget where
  | register (f : Fin 17) (off value : Nat)
  | mailbox (f : Fin 17) (off : Nat) (d : Bytes)
  | entry (who : Principal) (ix sub ty : Nat) (d : Bytes)
deriving DecidableEq, Repr

/-- The commands of the block: one constructor for each row of the table. Tiles are `t`, partitions `k`, links `l`, functions `f`,
rings `r`, memory channels `c`, packets at a sink `id`. -/
inductive Instr where
  /-- NEXT_EPOCH_WRITE (R43). -/
  | nextEpochWrite (who : Principal) (v : BitVec 64)
  /-- RESYNC (R44). -/
  | resync (who : Principal)
  /-- EPOCH_EDGE (R43). -/
  | epochEdge (edges : Nat)
  /-- EPOCH_WRAP (R42). -/
  | epochWrap
  /-- REFCLK_LOSS (R45). -/
  | refclkLoss
  /-- STINT_BOUNDARY (R52). -/
  | stintBoundary (k : Fin 16)
  /-- SLIP_END (R55). -/
  | slipEnd (k : Fin 16)
  /-- TRANSFER_DEADLINE (R57). -/
  | transferDeadline (k : Fin 16)
  /-- HOLD_NOTICE (R59). -/
  | holdNotice
  /-- FREEZE (R60). -/
  | freeze (k : Fin 16)
  /-- CLEAR (R411). -/
  | clear
  /-- TREE_RESUME (R63). -/
  | treeResume
  /-- RESUME_EDGE (R63). -/
  | resumeEdge (k : Fin 16)
  /-- HOLD_LIMIT_EXPIRY (R65). -/
  | holdLimitExpiry (k : Fin 16)
  /-- DECISION_POINT (R68). -/
  | decisionPoint (k : Fin 16)
  /-- VOTE_UP (R411). -/
  | voteUp
  /-- VOTE_DOWN (R411). -/
  | voteDown
  /-- REGION_STOP (R67). -/
  | regionStop (k : Fin 16)
  /-- REGION_STOP_LOCK_CHECK (R94). -/
  | regionStopLockCheck (t : Fin 672) (locked : Bool)
  /-- DECISION_WORD (R315). -/
  | decisionWord (k : Fin 16)
  /-- REGION_STOP_END (R92). -/
  | regionStopEnd (k : Fin 16)
  /-- COUNTERS_CLEAR (R73). -/
  | countersClear (who : Principal) (ix : BitVec 16)
  /-- DROOP (R78). -/
  | droop (t : Fin 672) (eighths periods : Nat)
  /-- DEFICIT_LIMIT (R80). -/
  | deficitLimit (t : Fin 672)
  /-- JITTER_TRIP (R81). -/
  | jitterTrip (t : Fin 672) (ps : Nat)
  /-- DUTY_TRIP (R82). -/
  | dutyTrip (t : Fin 672) (permille : Nat)
  /-- LOSS_OF_LOCK (R83). -/
  | lossOfLock (t : Fin 672) (errs : List Nat)
  /-- CROSSING_FORWARD (R88). -/
  | crossingForward (t : Fin 672) (port : Fin 4)
  /-- READ_WAIT (R89). -/
  | readWait (t : Fin 672) (port : Fin 4)
  /-- WRITE_WAIT (R90). -/
  | writeWait (t : Fin 672)
  /-- ADD (R248). -/
  | add (t : Fin 672) (g : Guard) (a b : Fin 16) (x : Src)
  /-- SUB (R248). -/
  | sub (t : Fin 672) (g : Guard) (a b : Fin 16) (x : Src)
  /-- MUL (R248). -/
  | mul (t : Fin 672) (g : Guard) (a b : Fin 16) (x : Src)
  /-- AND (R248). -/
  | and (t : Fin 672) (g : Guard) (a b : Fin 16) (x : Src)
  /-- OR (R248). -/
  | or (t : Fin 672) (g : Guard) (a b : Fin 16) (x : Src)
  /-- XOR (R248). -/
  | xor (t : Fin 672) (g : Guard) (a b : Fin 16) (x : Src)
  /-- SHL (R248). -/
  | shl (t : Fin 672) (g : Guard) (a b : Fin 16) (x : Src)
  /-- SHR (R248). -/
  | shr (t : Fin 672) (g : Guard) (a b : Fin 16) (x : Src)
  /-- SAR (R248). -/
  | sar (t : Fin 672) (g : Guard) (a b : Fin 16) (x : Src)
  /-- SET (R248). -/
  | set (t : Fin 672) (g : Guard) (a : Fin 16) (v : BitVec 32)
  /-- CMP_EQ (R248). -/
  | cmpEq (t : Fin 672) (g : Guard) (n : Fin 4) (a : Fin 16) (x : Src)
  /-- CMP_NE (R248). -/
  | cmpNe (t : Fin 672) (g : Guard) (n : Fin 4) (a : Fin 16) (x : Src)
  /-- CMP_LT (R248). -/
  | cmpLt (t : Fin 672) (g : Guard) (n : Fin 4) (a : Fin 16) (x : Src)
  /-- CMP_LTU (R248). -/
  | cmpLtu (t : Fin 672) (g : Guard) (n : Fin 4) (a : Fin 16) (x : Src)
  /-- CMP_GE (R248). -/
  | cmpGe (t : Fin 672) (g : Guard) (n : Fin 4) (a : Fin 16) (x : Src)
  /-- CMP_GEU (R248). -/
  | cmpGeu (t : Fin 672) (g : Guard) (n : Fin 4) (a : Fin 16) (x : Src)
  /-- PAND (R248). -/
  | pand (t : Fin 672) (g : Guard) (n m k : Fin 4)
  /-- POR (R248). -/
  | por (t : Fin 672) (g : Guard) (n m k : Fin 4)
  /-- PNOT (R248). -/
  | pnot (t : Fin 672) (g : Guard) (n m : Fin 4)
  /-- PSET (R245). -/
  | pset (t : Fin 672) (g : Guard) (n k : Fin 4)
  /-- CSET (R248). -/
  | cset (t : Fin 672) (g : Guard) (a : Fin 8) (x : CSrc)
  /-- CADD (R248). -/
  | cadd (t : Fin 672) (g : Guard) (a b : Fin 8) (x : CSrc)
  /-- DBNZ (R248). -/
  | dbnz (t : Fin 672) (g : Guard) (a : Fin 8) (target : Nat)
  /-- CMOV (R248). -/
  | cmov (t : Fin 672) (g : Guard) (a : Fin 16) (b : Fin 8)
  /-- CMOVH (R248). -/
  | cmovh (t : Fin 672) (g : Guard) (a : Fin 16) (b : Fin 8)
  /-- KSET (R245). -/
  | kset (t : Fin 672) (g : Guard) (n : Fin 4) (src : Fin 8) (rel : Fin 4) (ref : Fin 8)
  /-- BR (R248). -/
  | br (t : Fin 672) (g : Guard) (target : Nat)
  /-- BR_P (R248). -/
  | brP (t : Fin 672) (g : Guard) (n : Fin 4) (neg : Bool) (target : Nat)
  /-- BR_K (R248). -/
  | brK (t : Fin 672) (g : Guard) (n : Fin 4) (target : Nat)
  /-- CALL (R248). -/
  | call (t : Fin 672) (g : Guard) (target : Nat)
  /-- RET (R248). -/
  | ret (t : Fin 672) (g : Guard)
  /-- RD_SYS (R253). -/
  | rdSys (t : Fin 672) (g : Guard) (a code : Fin 16)
  /-- LD_B (R254). -/
  | ldB (t : Fin 672) (g : Guard) (a b : Fin 16) (off : BitVec 16) (due : Due)
  /-- LD_H (R254). -/
  | ldH (t : Fin 672) (g : Guard) (a b : Fin 16) (off : BitVec 16) (due : Due)
  /-- LD_W (R254). -/
  | ldW (t : Fin 672) (g : Guard) (a b : Fin 16) (off : BitVec 16) (due : Due)
  /-- LD_D (R254). -/
  | ldD (t : Fin 672) (g : Guard) (a b : Fin 16) (off : BitVec 16) (due : Due)
  /-- ST_B (R254). -/
  | stB (t : Fin 672) (g : Guard) (a b : Fin 16) (off : BitVec 16) (due : Due)
  /-- ST_H (R254). -/
  | stH (t : Fin 672) (g : Guard) (a b : Fin 16) (off : BitVec 16) (due : Due)
  /-- ST_W (R254). -/
  | stW (t : Fin 672) (g : Guard) (a b : Fin 16) (off : BitVec 16) (due : Due)
  /-- ST_D (R254). -/
  | stD (t : Fin 672) (g : Guard) (a b : Fin 16) (off : BitVec 16) (due : Due)
  /-- ISSUE (R106). -/
  | issue (t : Fin 672) (g : Guard) (e : Engine) (slot : Fin 512) (adj : List (Fin 4 × Fin 16)) (due : Due)
  /-- QUEUE_FULL_STALL (R110). -/
  | queueFullStall (t : Fin 672) (e : Engine)
  /-- PACE (R106). -/
  | pace (t : Fin 672) (g : Guard) (due : Due)
  /-- WAIT_MQ (R256). -/
  | waitMq (t : Fin 672) (g : Guard) (n : Fin 8) (b : Fin 16) (due : Due)
  /-- WAIT_SIG (R256). -/
  | waitSig (t : Fin 672) (g : Guard) (j b : Fin 16) (due : Due)
  /-- WAIT_MBX (R256). -/
  | waitMbx (t : Fin 672) (g : Guard) (due : Due)
  /-- WAIT_COMPLETION (R106). -/
  | waitCompletion (t : Fin 672) (kind : WaitKind)
  /-- STINT_END (R262). -/
  | stintEnd (t : Fin 672) (g : Guard) (due : Due)
  /-- STINT_NAP (R264). -/
  | stintNap (t : Fin 672) (g : Guard) (due : Due) (a : Fin 8) (b : Fin 16)
  /-- TILE_WAKE (R566). -/
  | tileWake (t : Fin 672)
  /-- WAKE_SELF_CHECK (R567). -/
  | wakeSelfCheck (t : Fin 672) (locked : Bool)
  /-- TILE_REJOIN (R265). -/
  | tileRejoin (t : Fin 672)
  /-- LANDING_WRITE (R118). -/
  | landingWrite (t : Fin 672)
  /-- CG_MM (R199). -/
  | cgMm (t : Fin 672)
  /-- VU_EW (R203). -/
  | vuEw (t : Fin 672)
  /-- VU_RED (R204). -/
  | vuRed (t : Fin 672)
  /-- VU_QUANT (R205). -/
  | vuQuant (t : Fin 672)
  /-- VU_CHK (R206). -/
  | vuChk (t : Fin 672)
  /-- VU_STOW (R208). -/
  | vuStow (t : Fin 672)
  /-- VU_JOIN (R207). -/
  | vuJoin (t : Fin 672)
  /-- VU_FIN (R207). -/
  | vuFin (t : Fin 672)
  /-- SFU_FN (R210). -/
  | sfuFn (t : Fin 672)
  /-- IX_GATHER (R214). -/
  | ixGather (t : Fin 672)
  /-- IX_SCATTER (R215). -/
  | ixScatter (t : Fin 672)
  /-- IX_SEGRED (R216). -/
  | ixSegred (t : Fin 672)
  /-- MV_COPY (R217). -/
  | mvCopy (t : Fin 672)
  /-- MV_SEND (R218). -/
  | mvSend (t : Fin 672)
  /-- MV_LAND (R219). -/
  | mvLand (t : Fin 672)
  /-- MV_MQ_READ (R285). -/
  | mvMqRead (t : Fin 672)
  /-- MV_MQ_WRITE (R287). -/
  | mvMqWrite (t : Fin 672)
  /-- MV_MQ_GATHER (R285). -/
  | mvMqGather (t : Fin 672)
  /-- MV_MQ_SCATTER (R285). -/
  | mvMqScatter (t : Fin 672)
  /-- MV_MQ_MOVE (R285). -/
  | mvMqMove (t : Fin 672)
  /-- MQ_FULL_WAIT (R288). -/
  | mqFullWait (t : Fin 672) (channel : Fin 2)
  /-- MV_LINK_PLANNED (R379). -/
  | mvLinkPlanned (t : Fin 672)
  /-- MV_LINK_WRITE (R379). -/
  | mvLinkWrite (t : Fin 672)
  /-- MV_LINK_WRITE_C (R379). -/
  | mvLinkWriteC (t : Fin 672)
  /-- MV_LINK_READ (R379). -/
  | mvLinkRead (t : Fin 672)
  /-- MV_LINK_BARRIER (R413). -/
  | mvLinkBarrier (t : Fin 672)
  /-- MV_LINK_SIGNAL (R422). -/
  | mvLinkSignal (t : Fin 672)
  /-- MV_LINK_NOTICE (R429). -/
  | mvLinkNotice (t : Fin 672)
  /-- MV_IMEM (R221). -/
  | mvImem (t : Fin 672)
  /-- DG_OPEN (R222). -/
  | dgOpen (t : Fin 672)
  /-- DG_SCAN (R224). -/
  | dgScan (t : Fin 672)
  /-- DG_TAKE (R225). -/
  | dgTake (t : Fin 672)
  /-- FU_LOAD (R231). -/
  | fuLoad (t : Fin 672)
  /-- FU_FEAT (R232). -/
  | fuFeat (t : Fin 672)
  /-- FU_EVAL (R237). -/
  | fuEval (t : Fin 672)
  /-- FU_NSAMPLE (R240). -/
  | fuNsample (t : Fin 672)
  /-- CHANNEL_SLOT (R280). -/
  | channelSlot (c : Fin 272)
  /-- PAGE_DECODE (R537). -/
  | pageDecode (c : Fin 272)
  /-- MQ_COMPLETION (R290). -/
  | mqCompletion (t : Fin 672) (n : Fin 8)
  /-- SCRUB (R548). -/
  | scrub (f : Fin 17)
  /-- SCRUB_COMPLETE (R552). -/
  | scrubComplete
  /-- INJECT_ARM (R555). -/
  | injectArm (who : Principal)
  /-- PLAN_IMAGE (R322). -/
  | planImage (f : Fin 17)
  /-- PLAN_ABORT (R323). -/
  | planAbort (f : Fin 17)
  /-- SUCCESSOR_STAGE (R330). -/
  | successorStage (k : Fin 16)
  /-- LINK_ENABLE_WRITE (R341). -/
  | linkEnableWrite (who : Principal) (l : Fin 64) (v : Bool)
  /-- DETECT_LOCK (R344). -/
  | detectLock (l : Fin 64)
  /-- TRAINING_FRAME (R344). -/
  | trainingFrame (l : Fin 64) (frame : Bytes) (report : FrameReport)
  /-- TRAIN_TIMEOUT (R341). -/
  | trainTimeout (l : Fin 64)
  /-- MEASURE_COMPLETE (R347). -/
  | measureComplete (l : Fin 64) (far : Bool)
  /-- REMEASURE (R349). -/
  | remeasure (who : Principal) (l : Fin 64)
  /-- FLIT_TRANSMIT (R386). -/
  | flitTransmit (l : Fin 64) (sub : Fin 25)
  /-- FLIT_RECEIVE (R355). -/
  | flitReceive (l : Fin 64) (sub : Fin 25) (flit : Bytes) (shared : Bool) (errors : List Nat)
  /-- REPLAY_TIMEOUT (R358). -/
  | replayTimeout (l : Fin 64)
  /-- LANE_LOCK_LOSS (R368). -/
  | laneLockLoss (l : Fin 64)
  /-- STALL_TIMEOUT (R368). -/
  | stallTimeout (l : Fin 64)
  /-- LINK_RETRAIN (R373). -/
  | linkRetrain (l : Fin 64)
  /-- RESP_TIMEOUT (R370). -/
  | respTimeout (die : Fin 2) (ix : Fin 2048)
  /-- BE_PACKET_INJECT (R379). -/
  | bePacketInject (t : Fin 672)
  /-- PLANNED_ENQUEUE (R388). -/
  | plannedEnqueue (l : Fin 64)
  /-- PLANNED_FORWARD (R389). -/
  | plannedForward (id : Nat)
  /-- PLANNED_PACKET_ARRIVAL (R392). -/
  | plannedPacketArrival (id : Nat)
  /-- BE_FORWARD (R396). -/
  | beForward (id : Nat)
  /-- CREDIT_SEND (R396). -/
  | creditSend (l : Fin 64) (vc : Fin 6)
  /-- WRITE (R381). -/
  | write (id : Nat)
  /-- WRITE_C (R381). -/
  | writeC (id : Nat)
  /-- READ (R381). -/
  | read (id : Nat)
  /-- RESPONSE (R379). -/
  | response (id : Nat)
  /-- NOTICE (R430). -/
  | notice (id : Nat)
  /-- NOTICE_RETRY (R430). -/
  | noticeRetry (die : Fin 2) (ix : Fin 2048)
  /-- SIGNAL (R424). -/
  | signal (id : Nat)
  /-- REMOTE_WRITE_COMPLETE (R423). -/
  | remoteWriteComplete (id : Nat)
  /-- SIGNAL_RELEASE (R424). -/
  | signalRelease (id : Nat)
  /-- MGMT (R398). -/
  | mgmt (id : Nat)
  /-- STALE_DROP (R399). -/
  | staleDrop (id : Nat)
  /-- ANCHOR_CHANGE (R384). -/
  | anchorChange (l : Fin 64)
  /-- FENCE_TAG_WRITE (R405). -/
  | fenceTagWrite (who : Principal) (k : Fin 16) (tag : BitVec 16)
  /-- TAG_COOLDOWN_EXPIRY (R401). -/
  | tagCooldownExpiry (tag : BitVec 16)
  /-- LINK_RECHECK (R402). -/
  | linkRecheck (l : Fin 64)
  /-- BARRIER_ENTRY (R414). -/
  | barrierEntry (t : Fin 672)
  /-- BAR_REPORT (R416). -/
  | barReport
  /-- BAR_DONE (R417). -/
  | barDone
  /-- BARRIER_ENTER (R419). -/
  | barrierEnter (f : Fin 17)
  /-- BARRIER_WATCH (R419). -/
  | barrierWatch (f : Fin 17)
  /-- BOW_START (R435). -/
  | bowStart (f : Fin 17)
  /-- BOW (R436). -/
  | bow
  /-- BOW_ACK (R437). -/
  | bowAck
  /-- BOW_ACK_DEADLINE (R437). -/
  | bowAckDeadline (k : Fin 16)
  /-- START (R439). -/
  | start
  /-- BOW_START_EDGE (R439). -/
  | bowStartEdge (k : Fin 16)
  /-- ABORT (R440). -/
  | abort
  /-- CONFIG (R447). -/
  | config (f : Fin 17)
  /-- GRAMMAR_WRITE (R446). -/
  | grammarWrite (f : Fin 17)
  /-- GRAMMAR_COMMIT (R464). -/
  | grammarCommit (f : Fin 17)
  /-- REQUEST (R445). -/
  | request (f : Fin 17)
  /-- RESUME (R473). -/
  | resume (f : Fin 17)
  /-- PARK (R471). -/
  | park (f : Fin 17)
  /-- CANCEL (R475). -/
  | cancel (f : Fin 17)
  /-- INITIAL_PASS (R450). -/
  | initialPass (k : Fin 16)
  /-- DRAFT_PASS (R458). -/
  | draftPass (k : Fin 16) (draft : Nat)
  /-- FINAL_PASS (R451). -/
  | finalPass (k : Fin 16)
  /-- PASS_COMPLETE (R454). -/
  | passComplete (k : Fin 16)
  /-- PARK_COMPLETE (R471). -/
  | parkComplete (k : Fin 16) (e : Fin 512)
  /-- RESUME_COMPLETE (R474). -/
  | resumeComplete (k : Fin 16) (e : Fin 512)
  /-- END_DIGEST_COMPLETE (R472). -/
  | endDigestComplete (k : Fin 16) (e : Fin 512)
  /-- WCONFIG (R482). -/
  | wconfig (f : Fin 17)
  /-- WMANIFEST (R486). -/
  | wmanifest (f : Fin 17)
  /-- WDATA (R489). -/
  | wdata (f : Fin 17)
  /-- WMIRROR (R491). -/
  | wmirror (f : Fin 17)
  /-- WCLEAR (R494). -/
  | wclear (f : Fin 17)
  /-- WARM (R496). -/
  | warm (f : Fin 17)
  /-- WDISARM (R498). -/
  | wdisarm (f : Fin 17)
  /-- PUB_KEY_WRITE (R487). -/
  | pubKeyWrite (who : Principal) (k n : Fin 16) (key : BitVec 768)
  /-- RUN_RECORD (R523). -/
  | runRecord (k : Fin 16)
  /-- CBG_OUTPUT_READ (R527). -/
  | cbgOutputRead (who : Principal)
  /-- PART_GROUPS_WRITE (R561). -/
  | partGroupsWrite (who : Principal) (k : Fin 16) (m : BitVec 88)
  /-- HBM_CHANNELS_WRITE (R274). -/
  | hbmChannelsWrite (who : Principal) (k : Fin 16) (m : BitVec 256)
  /-- CAP_CHANNELS_WRITE (R278). -/
  | capChannelsWrite (who : Principal) (k : Fin 16) (m : BitVec 16)
  /-- CLEARING_COMPLETE (R565). -/
  | clearingComplete (r : Resource)
  /-- BOOST_ENABLE_WRITE (R568). -/
  | boostEnableWrite (who : Principal) (k : Fin 16) (v : Bool)
  /-- POWER_EVALUATION (R569). -/
  | powerEvaluation (pm : Nat) (tj : Int) (sensor : Fin 92) (th : Int)
  /-- GRANT_BIT_FALL (R570). -/
  | grantBitFall (k : Fin 16)
  /-- FUSE_REQUEST (R574). -/
  | fuseRequest (who : Principal) (g : BitVec 8)
  /-- FIELD_FUSE_PROGRAM (R574). -/
  | fieldFuseProgram (g : Fin 84)
  /-- THERMTRIP (R681). -/
  | thermtrip (tj : Option Int)
  /-- SQ_DOORBELL (R585). -/
  | sqDoorbell (f : Fin 17) (v : BitVec 32) (packets : List Bytes)
  /-- PROTO_SELECT_WRITE (R584). -/
  | protoSelectWrite (f : Fin 17) (v : BitVec 32)
  /-- RING_ENABLE (R596). -/
  | ringEnable (f : Fin 17) (r : Fin 4) (v : BitVec 32)
  /-- RING_HEAD_WRITE (R596). -/
  | ringHeadWrite (f : Fin 17) (r : Fin 4) (v : BitVec 64)
  /-- RING_DROPS_READ (R599). -/
  | ringDropsRead (f : Fin 17) (r : Fin 4)
  /-- REGISTER_WRITE (R583). -/
  | registerWrite (w : WriteTarget)
  /-- RING_POST (R597). -/
  | ringPost (f : Fin 17) (r : Fin 4)
  /-- INTERRUPT_HOLDOFF (R600). -/
  | interruptHoldoff (f : Fin 17) (r : Fin 4)
  /-- MBX_OBJECT_ACCESS (R601). -/
  | mbxObjectAccess (f : Fin 17) (v : BitVec 32)
  /-- MBX_NOTICE (R601). -/
  | mbxNotice (f : Fin 17) (v : BitVec 32)
  /-- PCIE_FUNDAMENTAL_RESET (R678). -/
  | pcieFundamentalReset
  /-- FUNCTION_LEVEL_RESET (R602). -/
  | functionLevelReset (f : Fin 17)
  /-- PCIE_LINK_LOSS (R602). -/
  | pcieLinkLoss
  /-- NOP (R588). -/
  | nop (f : Fin 17)
  /-- MEM_WRITE (R592). -/
  | memWrite (f : Fin 17)
  /-- MEM_READ (R592). -/
  | memRead (f : Fin 17)
  /-- JOB_MAP (R593). -/
  | jobMap (f : Fin 17)
  /-- ROUTE_TABLE (R394). -/
  | routeTable (f : Fin 17)
  /-- TREE_RECORD (R409). -/
  | treeRecord (f : Fin 17)
  /-- LOAD_PARAMS (R593). -/
  | loadParams (f : Fin 17)
  /-- LINK_MEASURES (R594). -/
  | linkMeasures (f : Fin 17)
  /-- PART_STOP (R595). -/
  | partStop (f : Fin 17)
  /-- PART_RESET (R595). -/
  | partReset (f : Fin 17)
  /-- PART_RESET_EXECUTE (R595). -/
  | partResetExecute (k : Fin 16)
  /-- PERST_N_RELEASE (R678). -/
  | perstNRelease
  /-- FUNCTION_LEVEL_RESET_DONE (R602). -/
  | functionLevelResetDone (f : Fin 17)
  /-- CONFIGURATION_REQUEST (R581). -/
  | configurationRequest (w : ConfigWrite)
  /-- DEVICE_RESET_KEY (R602). -/
  | deviceResetKey (f : Fin 17) (v : BitVec 32)
  /-- DEVICE_RESET (R677). -/
  | deviceReset (pwrgd resetN : Bool)
  /-- FW_SEGMENT (R604). -/
  | fwSegment (f : Fin 17)
  /-- FW_START (R605). -/
  | fwStart (f : Fin 17)
  /-- BOOT_ROM (R576). -/
  | bootRom (slot : Fin 8)
  /-- FW_INIT_DONE (R603). -/
  | fwInitDone
  /-- MEM_TRAIN_DONE (R276). -/
  | memTrainDone (hbm : Bool) (cap : List (Option Nat)) (hbmStacks : List (Nat × Bytes))
  /-- LINK_TRAIN_DONE (R606). -/
  | linkTrainDone
  /-- SELFTEST_DONE (R607). -/
  | selftestDone (fails : List (Nat × Nat))
  /-- TAP_INSTRUCTION (R682). -/
  | tapInstruction (j : TapInstr)
  /-- REFCLK_RETURN (R45). -/
  | refclkReturn
  /-- THERMTRIP_RELEASE (R681). -/
  | thermtripRelease (tj : Int)
  /-- VDD_AUX_LOSS (R673). -/
  | vddAuxLoss
  /-- VERIFY_DONE (R605). -/
  | verifyDone
  /-- OAP_READ (R619). -/
  | oapRead (p : OapPath)
  /-- OAP_WRITE (R619). -/
  | oapWrite (p : OapPath)
  /-- OAP_DISCOVER (R625). -/
  | oapDiscover (p : OapPath)
  /-- OAP_RESPONSE_EXPIRY (R626). -/
  | oapResponseExpiry
  /-- DEVICE_ID_WRITE (R631). -/
  | deviceIdWrite (who : Principal) (v : BitVec 32)
  /-- HEALTH_EVALUATION (R633). -/
  | healthEvaluation
  /-- HEALTH_RESTORE (R635). -/
  | healthRestore (who : Principal) (v : BitVec 144)
  /-- ERROR_HANDLING (R644). -/
  | errorHandling
  /-- FATAL_LINK_DISABLE (R640). -/
  | fatalLinkDisable (l : Fin 64)
  /-- DUMP_FETCH (R655). -/
  | dumpFetch (f : Fin 17)
  /-- DUMP_COMPLETE (R653). -/
  | dumpComplete
  /-- LG_CLEAR (R650). -/
  | lgClear (who : Principal)
deriving DecidableEq, Repr

end Sys2Proof
end

