-- ==== Sys2Proof/Decode.lean ====
section
/-!
DEFINITION. The command that a word spells by the bits of the table: no row of the table gives bits.
-/
namespace Sys2Proof

/-- The command of a word, by the table's bits: the commands reach the block as register writes, packets and pin events,
and the table numbers no bits for any of them. -/
def decodeTableWord (_nbits _w : Nat) : Option Instr := none

end Sys2Proof
end

