-- ==== Sys2Proof/Machine/Bits.lean ====
section
/-!
DEFINITION. Bit fields, little-endian byte strings (R4, R5), two's-complement readings and tables by number.
-/
namespace Sys2Proof

/-- The field of `n` bits of `v` whose lowest bit is bit `lo` (R4). -/
def bits (v lo n : Nat) : Nat := v / 2 ^ lo % 2 ^ n

/-- Bit `i` of `v` (R4). -/
def bit (v i : Nat) : Bool := v / 2 ^ i % 2 == 1

/-- `v` with bit `i` set to `b`. -/
def setBit (v i : Nat) (b : Bool) : Nat :=
  if bit v i == b then v else if b then v + 2 ^ i else v - 2 ^ i

/-- The number 1 or 0 that a Boolean stands for. -/
def boolNat (b : Bool) : Nat := if b then 1 else 0

/-- `n` bytes of `v`, least significant first (R5). -/
def leBytes : Nat → Nat → Bytes
  | 0, _ => []
  | n + 1, v => BitVec.ofNat 8 v :: leBytes n (v / 256)

/-- The number a little-endian byte string spells (R5). -/
def leNat : Bytes → Nat
  | [] => 0
  | b :: t => b.toNat + 256 * leNat t

/-- `n` bytes of `l` from offset `o`; bytes past the end read 0. -/
def slice (l : Bytes) (o n : Nat) : Bytes :=
  let t := (l.drop o).take n
  t ++ List.replicate (n - t.length) 0

/-- The little-endian field of `n` bytes at offset `o`. -/
def leAt (l : Bytes) (o n : Nat) : Nat := leNat ((l.drop o).take n)

/-- The byte at offset `o`, as a number; 0 past the end. -/
def byteAt (l : Bytes) (o : Nat) : Nat := (l.getD o 0).toNat

/-- `n` zero bytes. -/
def zeros (n : Nat) : Bytes := List.replicate n 0

/-- `l` cut or filled with zeros to `n` bytes. -/
def padTo (n : Nat) (l : Bytes) : Bytes := slice l 0 n

/-- `l` with `d` written over it at offset `o`; nothing is written past the end of `l`. -/
def overlay (l : Bytes) (o : Nat) (d : Bytes) : Bytes :=
  l.take o ++ d.take (l.length - o) ++ l.drop (o + d.length)

/-- The two's-complement reading of the low `n` bits of `v`. -/
def toSigned (n v : Nat) : Int :=
  let u := v % 2 ^ n
  if u < 2 ^ (n - 1) then (u : Int) else (u : Int) - 2 ^ n

/-- The low `n` bits of an integer, as a number. -/
def ofSigned (n : Nat) (i : Int) : Nat := (i % 2 ^ n).toNat

/-- The ceiling of `a / b`. -/
def ceilDiv (a b : Nat) : Nat := (a + b - 1) / b

/-- `f` applied `n` times. -/
def iter {α : Type} : Nat → (α → α) → α → α
  | 0, _, a => a
  | n + 1, f, a => iter n f (f a)

/-- The value a table gives for a number: the first pair's, or the default. -/
def Sparse.get {α : Type} (d : α) : Sparse α → Nat → α
  | [], _ => d
  | (k, v) :: t, q => if q = k then v else Sparse.get d t q

/-- Insert a pair in rising order, replacing a pair of the same number. -/
def Sparse.insert {α : Type} : Sparse α → Nat → α → Sparse α
  | [], k, v => [(k, v)]
  | (k', v') :: t, k, v =>
    if k < k' then (k, v) :: (k', v') :: t
    else if k = k' then (k, v) :: t
    else (k', v') :: Sparse.insert t k v

/-- Drop every pair of a number. -/
def Sparse.erase {α : Type} (m : Sparse α) (k : Nat) : Sparse α := m.filter (fun p => p.1 != k)

/-- Set the value of a number; the default is held by listing nothing. -/
def Sparse.set {α : Type} [DecidableEq α] (d : α) (m : Sparse α) (k : Nat) (v : α) : Sparse α :=
  if v = d then Sparse.erase m k else Sparse.insert m k v

/-- Change the value of a number. -/
def Sparse.update {α : Type} [DecidableEq α] (d : α) (m : Sparse α) (k : Nat) (f : α → α) : Sparse α :=
  Sparse.set d m k (f (Sparse.get d m k))

/-- Change every listed value of a table by its number; the change leaves the default alone. -/
def Sparse.mapKeys {α : Type} [DecidableEq α] (d : α) : Sparse α → (Nat → α → α) → Sparse α
  | [], _ => []
  | (k, v) :: t, f => if f k v = d then Sparse.mapKeys d t f else (k, f k v) :: Sparse.mapKeys d t f

/-- Change every listed value of a table whose default the change leaves alone. -/
def Sparse.mapVals {α : Type} [DecidableEq α] (d : α) (m : Sparse α) (f : α → α) : Sparse α :=
  Sparse.mapKeys d m (fun _ => f)

/-- The optional value a table without a default gives for a number. -/
def Sparse.find {α : Type} : Sparse α → Nat → Option α
  | [], _ => none
  | (k, v) :: t, q => if q = k then some v else Sparse.find t q

/-- Rising numbers, and no pair that holds the default. -/
def Sparse.wf {α : Type} [DecidableEq α] (d : α) : Sparse α → Bool
  | [] => true
  | [(_, v)] => decide (v ≠ d)
  | (k, v) :: (k', v') :: t => decide (k < k') && decide (v ≠ d) && Sparse.wf d ((k', v') :: t)

/-- Element `i` of a list of optional slots set to `v`; a list too short is filled with the filler. -/
def setAt {α : Type} (fill : α) : List α → Nat → α → List α
  | [], 0, v => [v]
  | [], n + 1, v => fill :: setAt fill [] n v
  | _ :: t, 0, v => v :: t
  | a :: t, n + 1, v => a :: setAt fill t n v

end Sys2Proof
end

