-- ==== Sys2Proof/Machine/Num.lean ====
section
/-!
DEFINITION. Number formats and rounding (05): exact values, decoding, and the one rounding into a stored format.
-/
namespace Sys2Proof.Machine

/-- A non-negative exact magnitude, `n / d`. -/
structure Mag where
  n : Nat
  d : Nat
deriving DecidableEq, Repr

/-- An exact value: a NaN, an infinity with its sign, or a finite value with sign and magnitude (signed zeros, R135). -/
inductive Val where
  | nan
  | inf (neg : Bool)
  | fin (neg : Bool) (m : Mag)
deriving DecidableEq, Repr

/-- The magnitude zero. -/
def Mag.zero : Mag := ⟨0, 1⟩
/-- A whole magnitude. -/
def Mag.ofNat (n : Nat) : Mag := ⟨n, 1⟩
/-- The product of two magnitudes. -/
def Mag.mul (a b : Mag) : Mag := ⟨a.n * b.n, a.d * b.d⟩
/-- The quotient of two magnitudes, the divisor not zero. -/
def Mag.div (a b : Mag) : Mag := ⟨a.n * b.d, a.d * b.n⟩
/-- `a < b`. -/
def Mag.lt (a b : Mag) : Bool := a.n * b.d < b.n * a.d
/-- `a = b` as numbers. -/
def Mag.eq (a b : Mag) : Bool := a.n * b.d == b.n * a.d
/-- The magnitude scaled by a power of two. -/
def Mag.scale (a : Mag) (e : Int) : Mag :=
  if 0 ≤ e then ⟨a.n * 2 ^ e.toNat, a.d⟩ else ⟨a.n, a.d * 2 ^ (-e).toNat⟩
/-- Whether the magnitude is zero. -/
def Mag.isZero (a : Mag) : Bool := a.n == 0
/-- The floor of the base-two logarithm of a magnitude that is not zero. -/
def Mag.log2 (a : Mag) : Int :=
  let e : Int := (Nat.log2 a.n : Int) - (Nat.log2 a.d : Int)
  if Mag.lt a (Mag.scale ⟨1, 1⟩ e) then e - 1 else e

/-- The signed whole number behind a dyadic or rational value, over a common denominator. -/
def sgn (neg : Bool) (n : Nat) : Int := if neg then -(n : Int) else n

/-- A finite value from a signed numerator and a denominator; an exact zero takes the given sign. -/
def Val.ofFrac (zeroNeg : Bool) (n : Int) (d : Nat) : Val :=
  if n = 0 then .fin zeroNeg .zero else .fin (n < 0) ⟨n.natAbs, d⟩

/-- The exact value of a whole number. -/
def Val.ofInt (i : Int) : Val := Val.ofFrac false i 1

/-- Positive zero. -/
def Val.pzero : Val := .fin false .zero
/-- Negative zero. -/
def Val.nzero : Val := .fin true .zero

/-- The exact sum: NaN for infinities of both signs; −0 only for two negative zeros (R160, R164). -/
def Val.add : Val → Val → Val
  | .nan, _ => .nan
  | _, .nan => .nan
  | .inf a, .inf b => if a == b then .inf a else .nan
  | .inf a, _ => .inf a
  | _, .inf b => .inf b
  | .fin a m, .fin b k =>
    Val.ofFrac (a && b) (sgn a m.n * k.d + sgn b k.n * m.d) (m.d * k.d)

/-- The exact product: 0 × ∞ is NaN (R159). DESIGN CHOICE (assumption 83): a zero product with an integer operand takes
the exclusive or of the operands' signs, as one of floating operands does (0 × −5 is −0). -/
def Val.mul : Val → Val → Val
  | .nan, _ => .nan
  | _, .nan => .nan
  | .inf a, .inf b => .inf (a != b)
  | .inf a, .fin b k => if k.isZero then .nan else .inf (a != b)
  | .fin a m, .inf b => if m.isZero then .nan else .inf (a != b)
  | .fin a m, .fin b k => .fin (a != b) (m.mul k)

/-- The opposite value; a NaN stays NaN. -/
def Val.neg : Val → Val
  | .nan => .nan
  | .inf a => .inf (!a)
  | .fin a m => .fin (!a) m

/-- The absolute value. -/
def Val.abs : Val → Val
  | .nan => .nan
  | .inf _ => .inf false
  | .fin _ m => .fin false m

/-- The exact value scaled by a power of two. -/
def Val.scale (v : Val) (e : Int) : Val :=
  match v with
  | .fin a m => .fin a (m.scale e)
  | x => x

/-- `a < b` as extended reals; false when either is NaN; zeros compare equal (R135). -/
def Val.lt : Val → Val → Bool
  | .nan, _ => false
  | _, .nan => false
  | .inf a, .inf b => a && !b
  | .inf a, .fin _ _ => a
  | .fin _ _, .inf b => !b
  | .fin a m, .fin b k => sgn a m.n * k.d < sgn b k.n * m.d

/-- Whether a value is NaN. -/
def Val.isNan : Val → Bool
  | .nan => true
  | _ => false
/-- Whether a value is an infinity. -/
def Val.isInf : Val → Bool
  | .inf _ => true
  | _ => false
/-- Whether a value is a zero of either sign. -/
def Val.isZero : Val → Bool
  | .fin _ m => m.isZero
  | _ => false
/-- The sign of a value; a NaN counts as positive. -/
def Val.isNeg : Val → Bool
  | .nan => false
  | .inf a => a
  | .fin a _ => a

/-- A floating-point format: exponent bits, fraction bits, bias; whether the top exponent field holds infinities and
NaNs as in IEEE formats, only NaN at its last fraction (E4M3), or ordinary numbers (R133, R134). -/
structure FpFormat where
  eb : Nat
  fb : Nat
  bias : Nat
  /-- 0: infinities and NaNs; 1: one NaN per sign, no infinity (E4M3); 2: no special encodings. -/
  top : Nat
deriving DecidableEq, Repr

/-- FP32 (R132). -/
def fp32 : FpFormat := ⟨8, 23, 127, 0⟩
/-- BF16 (R132). -/
def bf16 : FpFormat := ⟨8, 7, 127, 0⟩
/-- FP16 (R132). -/
def fp16 : FpFormat := ⟨5, 10, 15, 0⟩
/-- FP8 E4M3 (R132). -/
def e4m3 : FpFormat := ⟨4, 3, 7, 1⟩
/-- FP8 E5M2 (R132). -/
def e5m2 : FpFormat := ⟨5, 2, 15, 0⟩
/-- FP6 E2M3 (R132). -/
def e2m3 : FpFormat := ⟨2, 3, 1, 2⟩
/-- FP6 E3M2 (R132). -/
def e3m2 : FpFormat := ⟨3, 2, 3, 2⟩
/-- FP4 E2M1 (R132). -/
def e2m1 : FpFormat := ⟨2, 1, 1, 2⟩

/-- Bits of an encoding. -/
def FpFormat.width (f : FpFormat) : Nat := 1 + f.eb + f.fb

/-- The value of an encoding (R133, R134). -/
def FpFormat.decode (f : FpFormat) (w : Nat) : Val :=
  let neg := bit w (f.eb + f.fb)
  let e := bits w f.fb f.eb
  let fr := bits w 0 f.fb
  let emax := 2 ^ f.eb - 1
  if e = emax ∧ f.top = 0 then (if fr = 0 then .inf neg else .nan)
  else if e = emax ∧ f.top = 1 ∧ fr = 2 ^ f.fb - 1 then .nan
  else if e = 0 then .fin neg ((Mag.ofNat fr).scale (1 - (f.bias : Int) - f.fb))
  else .fin neg ((Mag.ofNat (2 ^ f.fb + fr)).scale ((e : Int) - f.bias - f.fb))

/-- The code, without sign, of the largest finite value (R134). -/
def FpFormat.maxCode (f : FpFormat) : Nat :=
  match f.top with
  | 0 => (2 ^ f.eb - 1) * 2 ^ f.fb - 1
  | 1 => 2 ^ (f.eb + f.fb) - 2
  | _ => 2 ^ (f.eb + f.fb) - 1

/-- The canonical NaN (R136). -/
def FpFormat.nanCode (f : FpFormat) : Nat :=
  match f.top with
  | 0 => if f.eb = 5 ∧ f.fb = 2 then 0x7F else (2 ^ f.eb - 1) * 2 ^ f.fb + 2 ^ (f.fb - 1)
  | _ => 2 ^ (f.eb + f.fb) - 1

/-- The code of infinity, without sign. -/
def FpFormat.infCode (f : FpFormat) : Nat := (2 ^ f.eb - 1) * 2 ^ f.fb

/-- The exponent of the largest normal value (R134). -/
def FpFormat.emax (f : FpFormat) : Int :=
  (2 ^ f.eb - 1 : Int) - f.bias - (if f.top = 0 then 1 else 0)

/-- Rounding modes (R143). -/
inductive RMode where
  | rne
  | rz
  | sr (u : Nat)
deriving DecidableEq, Repr

/-- Choose between `q` and `q + 1` for the exact quotient `(q * d + r) / d` (R144). -/
def roundPick (mode : RMode) (q r d : Nat) : Nat :=
  if r = 0 then q else
  match mode with
  | .rne => if 2 * r < d then q else if 2 * r > d then q + 1 else if q % 2 = 0 then q else q + 1
  | .rz => q
  | .sr u => if u % 2 ^ 32 < r * 2 ^ 32 / d then q + 1 else q

/-- What one rounding yields: the encoding, and which event of R146 it counts. -/
structure Rounded where
  code : Nat
  saturated : Bool := false
  nanResult : Bool := false
  intNanZero : Bool := false
deriving DecidableEq, Repr

/-- Round a positive magnitude into a format's grid without an upper limit: the code of the chosen value, continued past
the largest finite code in the same code order (R144). -/
def FpFormat.gridCode (f : FpFormat) (mode : RMode) (m : Mag) : Nat :=
  if m.isZero then 0 else
  let emin : Int := 1 - f.bias
  let e := max m.log2 emin
  let u := m.scale (f.fb - e)
  let q := roundPick mode (u.n / u.d) (u.n % u.d) u.d
  if q < 2 ^ f.fb then q
  else ((e - emin).toNat) * 2 ^ f.fb + q

/-- Round an exact value into a floating-point format under R144 and R146. -/
def FpFormat.round (f : FpFormat) (mode : RMode) (sat : Bool) (v : Val) : Rounded :=
  let signBit (neg : Bool) := if neg then 2 ^ (f.eb + f.fb) else 0
  match v with
  | .nan => ⟨f.nanCode, false, true, false⟩
  | .inf neg =>
    if f.top = 0 ∧ ¬ sat then ⟨signBit neg + f.infCode, false, false, false⟩
    else ⟨signBit neg + f.maxCode, true, false, false⟩
  | .fin neg m =>
    let c := f.gridCode mode m
    if c ≤ f.maxCode then ⟨signBit neg + c, false, false, false⟩
    else if f.top = 0 ∧ mode = .rne ∧ ¬ sat then ⟨signBit neg + f.infCode, false, false, false⟩
    else ⟨signBit neg + f.maxCode, true, false, false⟩

/-- Round an exact value into an integer format of `n` bits (R144, R146). -/
def roundInt (n : Nat) (mode : RMode) (v : Val) : Rounded :=
  let top : Nat := 2 ^ (n - 1) - 1
  match v with
  | .nan => ⟨0, false, false, true⟩
  | .inf neg => ⟨if neg then 2 ^ (n - 1) else top, true, false, false⟩
  | .fin neg m =>
    let q := roundPick mode (m.n / m.d) (m.n % m.d) m.d
    if neg then
      if q ≤ 2 ^ (n - 1) then ⟨(2 ^ n - q) % 2 ^ n, false, false, false⟩ else ⟨2 ^ (n - 1), true, false, false⟩
    else if q ≤ top then ⟨q, false, false, false⟩ else ⟨top, true, false, false⟩

/-- The FP32 value nearest to an exact value (RNE, no saturation), as an exact value: one internal FP32 step (R164). -/
def rn32 (v : Val) : Val := fp32.decode (fp32.round .rne false v).code

/-- The number an E8M0 scale stands for: the exponent, or none for the scale NaN (R139). -/
def e8m0 (x : Nat) : Option Int := if x % 256 = 255 then none else some ((x % 256 : Nat) - 127 : Int)

/-- An FP32 addition under RNE. -/
def add32 (a b : Val) : Val := rn32 (a.add b)
/-- An FP32 multiplication under RNE. -/
def mul32 (a b : Val) : Val := rn32 (a.mul b)

/-- Whether an FP32 word is a positive normal value, as a per-tensor scale must be (R141). -/
def goodSigma (w : Nat) : Bool := 0 < bits w 23 8 && bits w 23 8 < 255 && w < 2 ^ 31

/-- Format codes of Table TO-3. -/
inductive Fmt where
  | absent | f32 | bf | fh | p43 | p52 | m43 | m52 | m23 | m32 | m21 | i8 | i4 | idx | byte | narrow | wide
deriving DecidableEq, Repr

/-- The form a format code names (R184); none for a code not in the table. -/
def Fmt.ofCode : Nat → Option Fmt
  | 0x00 => some .absent | 0x01 => some .f32 | 0x02 => some .bf | 0x03 => some .fh | 0x04 => some .p43
  | 0x05 => some .p52 | 0x06 => some .m43 | 0x07 => some .m52 | 0x08 => some .m23 | 0x09 => some .m32
  | 0x0A => some .m21 | 0x0B => some .i8 | 0x0C => some .i4 | 0x10 => some .idx | 0x11 => some .byte
  | 0x12 => some .narrow | 0x13 => some .wide | _ => none

/-- Bits of an element. -/
def Fmt.width : Fmt → Nat
  | .absent => 0 | .f32 => 32 | .bf => 16 | .fh => 16 | .p43 => 8 | .p52 => 8 | .m43 => 8 | .m52 => 8
  | .m23 => 6 | .m32 => 6 | .m21 => 4 | .i8 => 8 | .i4 => 4 | .idx => 32 | .byte => 8 | .narrow => 128 | .wide => 640

/-- Whether the form is microscaled (R140). -/
def Fmt.isMx : Fmt → Bool
  | .m43 | .m52 | .m23 | .m32 | .m21 => true
  | _ => false

/-- Whether the form carries a per-tensor scale (R141). -/
def Fmt.hasSigma : Fmt → Bool
  | .p43 | .p52 | .i8 | .i4 => true
  | _ => false

/-- Whether the form is a number format of Table NF-1. -/
def Fmt.isNum : Fmt → Bool
  | .absent | .idx | .byte | .narrow | .wide => false
  | _ => true

/-- The floating-point format of a form, where it has one. -/
def Fmt.fp : Fmt → Option FpFormat
  | .f32 => some fp32 | .bf => some bf16 | .fh => some fp16 | .p43 => some e4m3 | .m43 => some e4m3
  | .p52 => some e5m2 | .m52 => some e5m2 | .m23 => some e2m3 | .m32 => some e3m2 | .m21 => some e2m1
  | _ => none

/-- The value of an element's encoding, without scales (R133 to R138). -/
def Fmt.element (f : Fmt) (w : Nat) : Val :=
  match f.fp with
  | some p => p.decode w
  | none => match f with
    | .i8 => Val.ofInt (toSigned 8 w)
    | .i4 => Val.ofInt (toSigned 4 w)
    | _ => Val.ofInt (w : Int)

/-- Round into a plain form: the value divided by σ for scaled forms, then rounded once (R147). -/
def Fmt.round (f : Fmt) (sigma : Val) (mode : RMode) (sat : Bool) (v : Val) : Rounded :=
  let y := if f.hasSigma then
      (match v, sigma with
       | .fin a m, .fin _ k => Val.fin a (m.div k)
       | x, _ => x)
    else v
  match f with
  | .i8 => roundInt 8 mode y
  | .i4 => roundInt 4 mode y
  | _ => match f.fp with
    | some p => p.round mode sat y
    | none => ⟨0, false, false, false⟩

end Sys2Proof.Machine
end

