-- ==== Sys2Proof/Machine/Accum.lean ====
section
/-!
DEFINITION. Fast and exact accumulation (06): block sums, exact accumulators with their flags, the final stage, joins; the
residue channels modulo 7 (18).
-/
namespace Sys2Proof.Machine

/-- The residue of an integer modulo 7 (R544). -/
def residue (i : Int) : Nat := (i % 7).toNat

/-- The residue of a value that is shifted by 2^k (R544). -/
def shiftResidue (r : Nat) (k : Int) : Nat := r * 2 ^ (k % 3).toNat % 7

/-- The integer significand of a finite value; 0 for a special value, which the channels do not cover (Table IN-2). -/
def Val.significand : Val → Int
  | .fin neg m => sgn neg m.n
  | _ => 0
/-- The exponent of the unit of a finite value's significand. -/
def Val.unit : Val → Int
  | .fin _ m => -(Nat.log2 m.d : Int)
  | _ => 0

/-- The residue of a value in units of 2^u (R544). -/
def Val.residue (u : Int) (v : Val) : Nat := shiftResidue (Machine.residue v.significand) (v.unit - u)

/-- The residue that the channel forms for a product, `alter` added by an injected fault (R544, R555). -/
def channelProduct (alter : Nat) (a b : Val) : Nat := (residue a.significand * residue b.significand + alter) % 7

/-- One block of 32 positions of an operand: its E8M0 scale byte where the form has one, and the element values. -/
structure OpBlock where
  scale : Option Nat
  elems : List Val
deriving DecidableEq, Repr

/-- The exponent of a block: none when a scale of the block is the scale NaN (R157, R169). -/
def blockExp (a b : OpBlock) : Option Int :=
  let one (s : Option Nat) : Option Int := match s with | none => some 0 | some x => e8m0 x
  match one a.scale, one b.scale with
  | some x, some y => some (x + y)
  | _, _ => none

/-- The products of a block (R156), without scales. -/
def blockProducts (a b : OpBlock) : List Val := List.zipWith Val.mul a.elems b.elems

/-- One level of the fixed binary tree of FP32 additions: results 2i and 2i + 1. -/
def treeLevel : List Val → List Val
  | a :: b :: t => add32 a b :: treeLevel t
  | l => l

/-- The root of a tree of `n` levels over 2^n values. -/
def treeSum (n : Nat) (l : List Val) : Val := (iter n treeLevel l).headD .nzero

/-- The block sum of fast mode (R161); `rounded` when an operand is BF16 or FP16. Padded positions contribute −0. -/
def fastBlockSum (rounded : Bool) (a b : OpBlock) : Val :=
  match blockExp a b with
  | none => .nan
  | some e =>
    let ps := blockProducts a b
    if rounded then
      let qs := ps.map (fun p => rn32 (p.scale e))
      treeSum 5 (qs ++ List.replicate (32 - qs.length) .nzero)
    else rn32 ((ps.foldl Val.add .nzero).scale e)

/-- The partial of one tile's share of K (R162). -/
def fastDot (rounded : Bool) (a b : List OpBlock) : Val :=
  (List.zipWith (fastBlockSum rounded) a b).foldl add32 .nzero

/-- The state of an exact accumulator, or a partial record (R175). -/
structure AccRec where
  acc : Int := 0
  nan : Bool := false
  posInf : Bool := false
  negInf : Bool := false
  nonneg : Bool := false
  window : Bool := false
  overflow : Bool := false
  /-- The residue register (R544). -/
  reg : Nat := 0
deriving DecidableEq, Repr

/-- The check of an accumulator's residue register at a check point (R544, R545): an overflow is no value to check. -/
def AccRec.checked (r : AccRec) : Bool := r.overflow || residue r.acc == r.reg

/-- Bits of the accumulator of a path (Table XA-2). -/
def accBits (wide : Bool) : Nat := if wide then 608 else 112

/-- The exponent of the unit of an accumulator (R168, R171). -/
def accUnit (wide : Bool) (f : Int) : Int := if wide then -266 else f - 32

/-- Whether a sum lies in the accumulator's two's-complement range (R172). -/
def accFits (wide : Bool) (i : Int) : Bool := -(2 ^ (accBits wide - 1) : Int) ≤ i && i < 2 ^ (accBits wide - 1)

/-- The exact multiple of the unit that a finite value is. -/
def inUnits (u : Int) (v : Val) : Int :=
  match v.scale (-u) with
  | .fin neg m => sgn neg (m.n / m.d)
  | _ => 0

/-- Add an integer into an accumulator: outside the range OVERFLOW is set and the register wraps (R172). -/
def AccRec.addInt (wide : Bool) (r : AccRec) (i : Int) : AccRec :=
  let s := r.acc + i
  if accFits wide s then { r with acc := s }
  else { r with acc := toSigned (accBits wide) (ofSigned (accBits wide) s), overflow := true }

/-- Whether a product is −0. -/
def isNegZero (v : Val) : Bool := v.isNeg && v.isZero

/-- Accumulate one scaled product: flags for special values, exact addition for finite ones (R172, Table XA-7). -/
def AccRec.addProduct (wide : Bool) (u e : Int) (r : AccRec) (p : Val) : AccRec :=
  let r := if isNegZero p then r else { r with nonneg := true }
  match p with
  | .nan => { r with nan := true }
  | .inf true => { r with negInf := true }
  | .inf false => { r with posInf := true }
  | .fin _ _ => { r.addInt wide (inUnits u (p.scale e)) with reg := (r.reg + (p.scale e).residue u) % 7 }

/-- Accumulate one block; a block with finite nonzero products outside the window is a window exception (R169). DESIGN
CHOICE (assumption 83): a block whose scale is 0xFF sets NAN, no POS_INF or NEG_INF from its infinite products, and NONNEG
if some unscaled product is not −0; the products of a block outside the window set NONNEG as others do. -/
def AccRec.addBlock (wide : Bool) (f : Int) (r : AccRec) (a b : OpBlock) : AccRec :=
  let ps := blockProducts a b
  let finite := ps.any (fun p => match p with | .fin _ m => !m.isZero | _ => false)
  match blockExp a b with
  | none =>
    { r with nan := true, nonneg := r.nonneg || ps.any (fun p => !isNegZero p) }
  | some e =>
    if !wide && finite && (e < f || f + 16 < e) then
      ps.foldl (fun r p => match p with
        | .fin _ _ => { r with window := true, nonneg := r.nonneg || !isNegZero p }
        | _ => r.addProduct wide (accUnit wide f) e p) r
    else ps.foldl (AccRec.addProduct wide (accUnit wide f) e) r

/-- Accumulate a share of K exactly. -/
def exactDot (wide : Bool) (f : Int) (a b : List OpBlock) : AccRec :=
  (List.zip a b).foldl (fun r p => r.addBlock wide f p.1 p.2) {}

/-- The sum S that a record stands for (R177): NaN, an infinity, −0 for an empty one, or its exact value. -/
def AccRec.value (wide : Bool) (f : Int) (r : AccRec) : Val :=
  if r.nan || r.window || r.overflow || (r.posInf && r.negInf) then .nan
  else if r.posInf then .inf false
  else if r.negInf then .inf true
  else if r.acc = 0 then (if r.nonneg then .pzero else .nzero)
  else (Val.ofInt r.acc).scale (accUnit wide f)

/-- The exact y of the final stage: S × σA × σB + c (R158 to R160). -/
def finalValue (s sa sb c : Val) : Val := ((s.mul sa).mul sb).add c

/-- The residue check of an exact final stage: the residue of the rounded result plus that of the exact remainder equals that
of y (Table IN-2). Special values are not covered. -/
def finalChecked (y r : Val) : Bool :=
  match y, r with
  | .fin _ _, .fin _ _ => (r.residue 0 + (y.add r.neg).residue 0) % 7 == y.residue 0
  | _, _ => true

/-- The flags byte of Table XA-7. -/
def AccRec.flags (r : AccRec) : Nat :=
  boolNat r.nan + 2 * boolNat r.posInf + 4 * boolNat r.negInf + 8 * boolNat r.nonneg
    + 16 * boolNat r.window + 32 * boolNat r.overflow

/-- The bytes of a partial record (Table XA-6). -/
def AccRec.toBytes (wide : Bool) (r : AccRec) : Bytes :=
  if wide then leBytes 76 (ofSigned 608 r.acc) ++ leBytes 4 r.flags
  else leBytes 14 (ofSigned 112 r.acc) ++ leBytes 2 r.flags

/-- The record that bytes spell (Table XA-6). -/
def AccRec.ofBytes (wide : Bool) (l : Bytes) : AccRec :=
  let n := if wide then 76 else 14
  let fl := byteAt l n
  { acc := toSigned (8 * n) (leAt l 0 n), reg := residue (toSigned (8 * n) (leAt l 0 n)), nan := bit fl 0, posInf := bit fl 1, negInf := bit fl 2,
    nonneg := bit fl 3, window := bit fl 4, overflow := bit fl 5 }

/-- The join of two records (R176); the second component tells whether this join itself overflowed. -/
def AccRec.join (wide : Bool) (a b : AccRec) : AccRec × Bool :=
  let s := a.acc + b.acc
  let spills := !accFits wide s
  ({ acc := if spills then toSigned (accBits wide) (ofSigned (accBits wide) s) else s,
     nan := a.nan || b.nan, posInf := a.posInf || b.posInf, negInf := a.negInf || b.negInf,
     nonneg := a.nonneg || b.nonneg, window := a.window || b.window,
     overflow := a.overflow || b.overflow || spills, reg := (a.reg + b.reg) % 7 }, spills)

end Sys2Proof.Machine
end

