-- ==== Sys2Proof/Machine/Cbg.lean ====
section
/-!
DEFINITION. CBG-4x32, the generator of every random word (R517 to R519).
-/
namespace Sys2Proof.Machine

/-- The generator's four state words. -/
structure CbgWords where
  x0 : BitVec 32
  x1 : BitVec 32
  x2 : BitVec 32
  x3 : BitVec 32
deriving DecidableEq, Repr

/-- The lane mix of one word with its multiplier (R518). -/
def cbgMix (m x : BitVec 32) : BitVec 32 :=
  let a := x ^^^ (x >>> 17)
  let b := a * m
  b ^^^ (b >>> 11)

/-- Round `r` of CBG-4x32 (R518). -/
def cbgRound (k0 k1 : BitVec 32) (r : Nat) (w : CbgWords) : CbgWords :=
  let a0 := cbgMix 0x9C3B52E5#32 (w.x0 + (k0 + BitVec.ofNat 32 r * 0x7F4A2C91#32))
  let a1 := cbgMix 0xD16E07A3#32 w.x1
  let a2 := cbgMix 0xB54F9E2D#32 (w.x2 ^^^ (k1 + BitVec.ofNat 32 r * 0x58E3B6D7#32))
  let a3 := cbgMix 0xE7A13C69#32 w.x3
  let b1 := a1 ^^^ a0
  let b3 := a3 ^^^ a2
  let b0 := a0 + b3.rotateLeft 7
  let b2 := a2 + b1.rotateLeft 19
  ⟨b1, b2, b3, b0⟩

/-- Rounds `r`, `r + 1`, … for a number of rounds. -/
def cbgRounds (k0 k1 : BitVec 32) : Nat → Nat → CbgWords → CbgWords
  | 0, _, w => w
  | n + 1, r, w => cbgRounds k0 k1 n (r + 1) (cbgRound k0 k1 r w)

/-- The state words loaded from counter value, tensor ID and step value (R517). -/
def cbgLoad (t tau n : Nat) : CbgWords :=
  ⟨BitVec.ofNat 32 n, BitVec.ofNat 32 (n / 2 ^ 32 % 2 ^ 16 + tau % 2 ^ 16 * 2 ^ 16),
   BitVec.ofNat 32 t, BitVec.ofNat 32 (t / 2 ^ 32)⟩

/-- The output block for a stream key and a 48-bit counter value (R517, R518). -/
def cbgBlock (seed t tau n : Nat) : CbgWords :=
  cbgRounds (BitVec.ofNat 32 seed) (BitVec.ofNat 32 (seed / 2 ^ 32)) 10 0 (cbgLoad t tau n)

/-- Word `j mod 4` of an output block. -/
def CbgWords.word (w : CbgWords) (j : Nat) : Nat :=
  match j % 4 with
  | 0 => w.x0.toNat
  | 1 => w.x1.toNat
  | 2 => w.x2.toNat
  | _ => w.x3.toNat

/-- The random word of the element with canonical index `i` (R145, R519). -/
def randomWord (seed t tau i : Nat) : Nat := (cbgBlock seed t tau (i / 4 % 2 ^ 48)).word (i % 4)

end Sys2Proof.Machine
end

