-- ==== Sys2Proof/Machine/Crc.lean ====
section
/-!
DEFINITION. The CRC-64 of R351 and the digest polynomial arithmetic of R513.
-/
namespace Sys2Proof.Machine

/-- The ECMA-182 polynomial without its top term (R351). -/
def crcPoly : Nat := 0x42F0E1EBA9EA3693

/-- Multiply a residue by x modulo G. -/
def gfTimesX (r : Nat) : Nat :=
  if bit r 63 then ((r * 2) % 2 ^ 64) ^^^ crcPoly else r * 2

/-- One byte through the CRC register, most significant bit first (R351). -/
def crcByte (r : Nat) (b : Byte) : Nat := iter 8 gfTimesX (r ^^^ (b.toNat * 2 ^ 56))

/-- The CRC register after a string, from a start value. -/
def crcRun (r : Nat) (l : Bytes) : Nat := l.foldl crcByte r

/-- The CRC-64 of R351: start at all ones, final inversion. -/
def crc64 (l : Bytes) : Nat := (crcRun (2 ^ 64 - 1) l) ^^^ (2 ^ 64 - 1)

/-- The product of two residues modulo G; the first argument is the number of bits taken. -/
def gfMulAux : Nat → Nat → Nat → Nat → Nat
  | 0, _, _, acc => acc
  | n + 1, a, b, acc => gfMulAux n (gfTimesX a) (b / 2) (if b % 2 = 1 then acc ^^^ a else acc)

/-- The product of two residues modulo G. -/
def gfMul (a b : Nat) : Nat := gfMulAux 64 a b 0

/-- Square and multiply over the low `n` bits of an exponent. -/
def gfPowAux : Nat → Nat → Nat → Nat → Nat
  | 0, _, _, acc => acc
  | n + 1, base, k, acc => gfPowAux n (gfMul base base) (k / 2) (if k % 2 = 1 then gfMul acc base else acc)

/-- x to the power `k`, modulo G; `k` below 2^80. -/
def gfPowX (k : Nat) : Nat := gfPowAux 80 2 k 1

/-- A polynomial of `n` bits reduced modulo G, highest coefficient first. -/
def gfReduce : Nat → Nat → Nat
  | 0, _ => 0
  | n + 1, v => gfTimesX (gfReduce n (v / 2)) ^^^ (v % 2)

/-- The contribution of one element: its encoding over `e` bytes at canonical index `i` (R513). -/
def digestTerm (e i v : Nat) : Nat := gfMul (gfReduce (8 * e) (v % 2 ^ (8 * e))) (gfPowX (8 * e * i + 64))

end Sys2Proof.Machine
end

