-- ==== Sys2Proof/Parts/Power.lean ====
section
/-!
DEFINITION. Power, thermal state, clearing, grades and fuses (19), as plain data.
-/
namespace Sys2Proof.Machine

/-- A partition's grant (Table PP-8). -/
structure PartPower where
  boostEnable : Bool
  boostPriority : Nat
  /-- GRANT_STATE: 0 none, 1 granted, 2 withdrawing, 3 not eligible. -/
  grantState : Nat
  grantBit : Bool
  /-- The grant is in force (R569). -/
  inForce : Bool
  /-- BC of the evaluation that withdrew the grant (R570). -/
  withdrawnAt : Option Nat
  /-- The bit becomes 0 at the next beat edge (R568). -/
  fallNext : Bool
  grants : Nat
  withdrawals : Nat
  wakes : Nat
deriving DecidableEq, Repr

/-- These at their defaults. -/
def PartPower.reset : PartPower := ⟨false, 8, 0, false, false, none, false, 0, 0, 0⟩

/-- Power and thermal state of the device (Tables PP-7, PP-9 to PP-12). -/
structure Power where
  powerLimit : Nat
  packagePower : Nat
  grantMargin : Nat
  boostTjMax : Nat
  paceTj : Nat
  tjHottest : Int
  tjSensor : Nat
  hbmHottest : Int
  thermalState : Nat
  /-- Successive evaluations with the trigger of the present state 3 °C below its threshold, and at the stop thresholds. -/
  coolRuns : Nat
  hotRuns : Nat
  powerPacing : Bool
  /-- BC of the last evaluation (R569). -/
  evaluatedAt : Option Nat
  paceBeats : Nat
  thermalStops : Nat
  fuseCandidates : Nat
  regrades : Nat
  clearingGroups : Nat
  clearingHbm : Nat
  clearingCap : Nat
  thermtrip : Bool
deriving DecidableEq, Repr

/-- These at their defaults. -/
def Power.reset : Power :=
  { powerLimit := 2400, packagePower := 0, grantMargin := 40, boostTjMax := 95, paceTj := 100, tjHottest := 0,
    tjSensor := 0, hbmHottest := 0, thermalState := 0, coolRuns := 0, hotRuns := 0, powerPacing := false,
    evaluatedAt := none, paceBeats := 0, thermalStops := 0, fuseCandidates := 0, regrades := 0, clearingGroups := 0, clearingHbm := 0,
    clearingCap := 0, thermtrip := false }

/-- The fuse block: what is programmed in this device (R576, R605; assumption 8). -/
structure Fuses where
  factoryGrade : Nat
  factoryBad : Nat
  fieldFused : Nat
  keySlots : List Bytes
  revoked : Nat
  fwMinVersion : Nat
  serial : Bytes
  mac : Bytes
  /-- Lot, wafer, column and row of each die: CD0 to CD3, ND0, ND1 (Table MG-10). -/
  dies : List (Bytes × Nat × Int × Int)
deriving DecidableEq, Repr

end Sys2Proof.Machine
end

