-- ==== Sys2Proof/Machine/Grades.lean ====
section
/-!
DEFINITION. Fuses and grades (19): good, enabled and spare groups.
-/
namespace Sys2Proof.Machine

/-- Good groups (R576). -/
def Fuses.good (f : Fuses) : List Nat := (List.range 84).filter (fun g => !bit f.factoryBad g && !bit f.fieldFused g)

/-- The grade that the fuses give: the highest of Table PP-5 that the good groups reach, never above FACTORY_GRADE; 0xFF
none (R576). -/
def Fuses.grade (f : Fuses) : Nat :=
  let n := f.good.length
  if n < 72 then 0xFF else max f.factoryGrade (if 80 ≤ n then 0 else if 76 ≤ n then 1 else 2)

/-- Enabled groups of a grade (Table PP-5). -/
def gradeGroups (g : Nat) : Nat := match g with | 0 => 80 | 1 => 76 | 2 => 72 | _ => 0

/-- The enabled groups: the lowest-numbered good groups (R576). -/
def Fuses.enabled (f : Fuses) : Nat := (f.good.take (gradeGroups f.grade)).foldl (fun m g => m + 2 ^ g) 0

/-- Good groups left over (R576). -/
def Fuses.spare (f : Fuses) : Nat := (f.good.drop (gradeGroups f.grade)).foldl (fun m g => m + 2 ^ g) 0

/-- SPARE_PENALTY: 0 while there is a spare good group, otherwise 100 (R633). -/
def sparePenalty (spare : Nat) : Nat := if spare = 0 then 100 else 0

end Sys2Proof.Machine
end

