-- ==== Sys2Proof/Config.lean ====
section
/-!
DEFINITION. What the manual leaves open, as constants without a body, and the few numbers that several files share.
-/
namespace Sys2Proof

/-- The free value number `n`: some number, of which nothing is known (assumption 6). -/
opaque Config.freeValue : Nat → Nat

/-- The byte at address `a` of a range whose contents were lost at free number `n` (R323; assumption 6). -/
opaque Config.lostByte : Nat → Nat → BitVec 8

/-- The state that firmware core `i` shows in a last-gasp record or dump at free number `n` (R650; assumption 6). -/
opaque Config.coreState : Nat → Nat → Nat

/-- Byte `i` of section `sec` of the dump written at free number `n`: the records whose inner layout is not given (R653;
assumption 6). -/
opaque Config.dumpByte : Nat → Nat → Nat → Nat

/-- The digest in key slot `i` of the fuse block, as the maker has fused it (R605; assumption 8). -/
opaque Config.keySlot : Nat → Nat

/-- The ends of the range of tap `i` of a link's transmitters, in steps from preset (Table LK-1a; assumption 54). -/
opaque Config.tapLow : Nat → Int
/-- The upper end. -/
opaque Config.tapHigh : Nat → Int

end Sys2Proof
end

