-- ==== Sys2Proof/Machine/Rates.lean ====
section
/-!
DEFINITION. The clock plan of the three operating points (Table OV-5, Table CK-1).
-/
namespace Sys2Proof

/-- Planned cycles per beat of an operating point: OP-L, OP-N, OP-B (Table OV-5). -/
def Config.cyclesPerBeat : Nat → Nat
  | 0 => 6
  | 1 => 8
  | _ => 9

/-- The capacity period Tp in 408ths of a picosecond (Table CK-1). -/
def Config.capacityPeriod : Nat → Nat
  | 0 => 255000
  | 1 => 192000
  | _ => 170000

/-- The idle tail of a beat in 408ths of a picosecond (Table CK-1). -/
def Config.idleTail : Nat → Nat
  | 0 => 102000
  | 1 => 96000
  | _ => 102000

/-- DEFICIT_LIMIT, 4,000 ps, in 408ths of a picosecond (R80). -/
def Config.deficitLimit : Nat := 1632000

end Sys2Proof
end

