-- ==== Sys2Proof/Parts/Device.lean ====
section
/-!
DEFINITION. Device-wide state (02, 03, 04, 05, 06, 07, 08, 09, 11, 17): the timebase, clock configuration, totals, and
what each principal selects.
-/
namespace Sys2Proof.Machine

/-- The timebase (Table BT-2, R36 to R45). -/
structure Timebase where
  bc : Nat
  nextEpoch : Nat
  /-- SYNC_STATE: 0 UNSYNCED, 1 ARMED, 2 SYNCED, 3 LOST. -/
  sync : Nat
  /-- The epoch number written since the last epoch edge in SYNCED (R43). -/
  expected : Option Nat
  mismatches : Nat
  missed : Nat
  /-- REFCLK is present (R45). -/
  refclk : Bool
  /-- A SYNC_N pulse has fallen on the present edge (R42). -/
  pulse : Bool
  /-- BC has wrapped to 0 in its low 20 bits at the present edge, and no pulse has been counted missing for it (R42). -/
  wrapOpen : Bool
deriving DecidableEq, Repr

/-- The timebase at reset release (R40). -/
def Timebase.reset : Timebase := ⟨0, 0, 0, none, 0, 0, true, false, false⟩

/-- Clock configuration (Table CK-6). -/
structure ClockConfig where
  jitterLimit : Nat
  dutyMin : Nat
  dutyMax : Nat
  tripThreshold : Nat
deriving DecidableEq, Repr

/-- Clock configuration at its defaults. -/
def ClockConfig.reset : ClockConfig := ⟨25, 450, 550, 4096⟩

/-- Clock health totals (Table CK-7). -/
structure ClockTotals where
  stretches : Nat
  gaps : Nat
  readWaits : Nat
  writeWaits : Nat
  jitterTrips : Nat
  dutyTrips : Nat
  escalations : Nat
  lastEscTile : Nat
  lastEscCause : Nat
  lastEscBc : Nat
deriving DecidableEq, Repr

/-- Clock totals at their defaults. -/
def ClockTotals.reset : ClockTotals := ⟨0, 0, 0, 0, 0, 0, 0, 0xFFFF, 0, 0⟩

/-- Tile health totals (Table TL-8). -/
structure TileTotals where
  queueFullStalls : Nat
  latePeriods : Nat
  bankConflicts : Nat
  conflictPeriods : Nat
  orderFaults : Nat
  engineOverlaps : Nat
  writeCollisions : Nat
  lastFaultTile : Nat
  lastFaultBc : Nat
deriving DecidableEq, Repr

/-- Tile totals at their defaults. -/
def TileTotals.reset : TileTotals := ⟨0, 0, 0, 0, 0, 0, 0, 0xFFFF, 0⟩

/-- Format, accumulation, operation, forest, control-core, plan and audit totals (Tables NF-7, XA-10, TO-13, FR-9, CC-8,
PI-15, DA-9). -/
structure OpTotals where
  saturations : Nat
  nanResults : Nat
  nanBlocks : Nat
  intNanZeros : Nat
  formatFaults : Nat
  windowExceptions : Nat
  accOverflows : Nat
  exactDots : Nat
  fastDots : Nat
  descriptorFaults : Nat
  feedFaults : Nat
  indexRange : Nat
  digestRewrites : Nat
  forestWalks : Nat
  depthOverruns : Nat
  nodeRange : Nat
  featureRange : Nat
  layoutEvents : Nat
  samples : Nat
  ccFaults : Nat
  waitPeriods : Nat
  naps : Nat
  lateRejoins : Nat
  imemRefusals : Nat
  planRefusals : Nat
  sealWaitBeats : Nat
  lastRefusedTile : Nat
  runRecords : Nat
  tableFaults : Nat
  incompleteRecords : Nat
  reproFastFaults : Nat
deriving DecidableEq, Repr

/-- These totals at their defaults. -/
def OpTotals.reset : OpTotals :=
  ⟨0, 0, 0, 0, 0, 0, 0, 0, 0, 0, 0, 0, 0, 0, 0, 0, 0, 0, 0, 0, 0, 0, 0, 0, 0, 0, 0xFFFF, 0, 0, 0, 0⟩

/-- What a principal selects or writes for itself alone (R95, R527, SY-12). -/
structure Selections where
  region : Nat
  cbgSeed : Nat
  cbgStep : Nat
  cbgTensor : Nat
  cbgCounter : Nat
  barrier : Nat
deriving DecidableEq, Repr

/-- Selections at their defaults. -/
def Selections.reset : Selections := ⟨0, 0, 0, 0, 0, 0⟩

end Sys2Proof.Machine
end

