-- ==== Sys2Proof/Parts/Errors.lean ====
section
/-!
DEFINITION. The error log, the dump and the last-gasp record (22), as plain data.
-/
namespace Sys2Proof.Machine

/-- An error-log entry (Table ER-2). -/
structure LogEntry where
  seq : Nat
  cls : Nat
  origin : Nat
  event : Nat
  bc : Nat
  pbc : Nat
  part : Option Nat
  nested : Bool
  escalated : Bool
  unsync : Bool
  rep : Bool
  tile : Option Nat
  fence : Nat
  causeSeq : Option Nat
  repeats : Nat
  detail : Bytes
deriving DecidableEq, Repr

/-- The error log and its counters (R641 to R648, Table ER-8). -/
structure ErrLog where
  /-- The 64 most recent entries, newest first. -/
  entries : List LogEntry
  /-- SEQ numbers of the pending entries in the order of handling; the head is the entry in handling (R644 to R647). -/
  queue : List Nat
  lastSeq : Nat
  overflows : Nat
  nestedErrors : Nat
  escalations : Nat
  correctedLogged : Nat
  contained : Nat
  jobFatal : Nat
  deviceFatal : Nat
  /-- The entry that travels in the dump header only (R648). -/
  headerEntry : Option LogEntry
deriving DecidableEq, Repr

/-- The error log after reset. -/
def ErrLog.reset : ErrLog := ⟨[], [], 0, 0, 0, 0, 0, 0, 0, 0, none⟩

/-- The dump (Table ER-10, Table ER-4). -/
structure Dump where
  /-- DUMP_STATE: 0 none, 1 writing, 2 complete. -/
  state : Nat
  bytes : Nat
  triggerSeq : Nat
  bc : Nat
  digest : Bytes
  /-- The log entry of the trigger, and whether it came from R648. -/
  trigger : Option LogEntry
  fromHeader : Bool
  /-- Dump bytes written so far, counted from offset 4,096 (R653). -/
  written : Nat
deriving DecidableEq, Repr

/-- No dump. -/
def Dump.reset : Dump := ⟨0, 0, 0, 0, [], none, false, 0⟩

/-- The last-gasp area of ND0 SRAM and what firmware published of it (R650, Table ER-10). -/
structure LastGasp where
  /-- The 4 KiB area; empty where it holds zeros. -/
  area : Bytes
  valid : Bool
  bc : Nat
deriving DecidableEq, Repr

/-- An empty last-gasp area. -/
def LastGasp.reset : LastGasp := ⟨[], false, 0⟩

end Sys2Proof.Machine
end

