-- ==== Sys2Proof/Parts/Host.lean ====
section
/-!
DEFINITION. The host interface (20), as plain data: functions, rings, mailboxes, command packets, streams.
-/
namespace Sys2Proof.Machine

/-- A ring of a function (Table HI-2, Table HI-4). -/
structure Ring where
  base : Nat
  enable : Bool
  sizeLog2 : Nat
  vector : Nat
  modCount : Nat
  modUs : Nat
  head : Nat
  tail : Nat
  shadow : Nat
  drops : Nat
  /-- Entries posted since the ring's last interrupt, and the BC of the first of them (R600). -/
  unsignalled : Nat
  unsignalledBc : Nat
deriving DecidableEq, Repr

/-- A ring after reset (Table HI-4). -/
def Ring.reset : Ring := ⟨0, false, 16, 0, 1, 0, 0, 0, 0, 0, 0, 0⟩

/-- What waits in a function's backlog (R599): an entry, or, where `count` is not 0, the run of `count` dropped entries of
its kind, which is posted as a GAP entry and takes no room. -/
structure Waiting where
  ring : Nat
  kind : Nat
  body : Bytes
  count : Nat
  bcFirst : Nat
  bcLast : Nat
deriving DecidableEq, Repr

/-- An open stream of a function (R591). PLAN_IMAGE streams are kept by the partition too. -/
structure Stream where
  opcode : Nat
  part : Nat
  data : Bytes
deriving DecidableEq, Repr

/-- One function: its registers, rings, backlog, submission window and mailbox (Table HI-2). -/
structure HostFn where
  busMaster : Bool
  err : Nat
  proto : Nat
  produced : Nat
  consumed : Nat
  sqShadow : Nat
  rings : List Ring
  bulkBase : List Nat
  bulkSize : List Nat
  mbxIn : Bytes
  /-- A frame that firmware has not taken: kind and bytes. -/
  mbxFrame : Option (Nat × Bytes)
  backlog : List Waiting
  /-- Packets announced and not yet copied (R585, R599). -/
  window : List Bytes
  /-- Packets of this function accepted whose response is still owed. -/
  owed : Nat
  streams : List Stream
  /-- A function-level reset is being carried out (R602). -/
  clearing : Bool
  /-- Counts function resets: responses of commands accepted before one are dropped. -/
  gen : Nat
  /-- MSI-X (R582, R600): enabled, and the whole function masked, both in configuration space; masked vectors, pending bits,
  address and data of each vector's table entry, and messages sent by vector. -/
  msixOn : Bool
  allMasked : Bool
  masked : Nat
  pba : Nat
  msix : Sparse (Nat × Nat)
  messages : Sparse Nat
deriving DecidableEq, Repr

/-- A function after reset (Table HI-2). PRESUMED (assumption 88), as PCI Express has it: MSI-X is off and every vector is
masked. -/
def HostFn.reset : HostFn :=
  { busMaster := false, err := 0, proto := 0, produced := 0, consumed := 0, sqShadow := 0,
    rings := List.replicate 4 .reset, bulkBase := [0, 0], bulkSize := [0, 0], mbxIn := [], mbxFrame := none,
    backlog := [], window := [], owed := 0, streams := [], clearing := false, gen := 0, msixOn := false,
    allMasked := false, masked := 2 ^ 32 - 1, pba := 0, msix := [], messages := [] }

/-- A command packet that the device has copied and whose header it has accepted (R585 to R587). -/
structure Cmd where
  /-- The model's own number of the command. -/
  id : Nat
  fn : Nat
  gen : Nat
  opcode : Nat
  partition : Nat
  flags : Nat
  len : Nat
  tag : Nat
  arg0 : Nat
  arg1 : Nat
  arg2 : Nat
  streamOffset : Nat
  seq : Nat
  accepted : Nat
  payload : Bytes
  /-- It has taken effect and waits for its completion. -/
  started : Bool
  /-- Parts of its work still to be completed, and the COMMAND_STATUS and DETAIL of its response. -/
  left : Nat
  status : Nat
  detail : Nat
deriving DecidableEq, Repr

/-- Totals of the host interface (Table HI-13). -/
structure HostTotals where
  ringDrops : Nat
  headerRejects : Nat
  commands : Nat
  readyBc : Nat
  bootAttempts : Nat
deriving DecidableEq, Repr

/-- These at their defaults. -/
def HostTotals.reset : HostTotals := ⟨0, 0, 0, 0, 0⟩

/-- The PCIe link as the endpoint sees it (R581, R602, R678). -/
structure Pcie where
  linkUp : Bool
  perst : Bool
  numVfs : Nat
deriving DecidableEq, Repr

/-- No link while reset is asserted (Table HI-10). -/
def Pcie.reset : Pcie := ⟨false, false, 0⟩

/-- A link measurement of the job (Table HI-7b). -/
structure LinkMeasure where
  rank : Nat
  link : Nat
  peerLink : Nat
  dlp : Nat
  peerRank : Nat
  latency : Nat
  roundTrip : Nat
deriving DecidableEq, Repr

/-- What host software has loaded for a partition's job (R593, R594): device IDs by rank, load parameters, measurements. -/
structure JobObjects where
  jobMap : Option (List Nat)
  params : Option (List Nat)
  measures : Option (List LinkMeasure)
deriving DecidableEq, Repr

/-- Nothing loaded. -/
def JobObjects.reset : JobObjects := ⟨none, none, none⟩

end Sys2Proof.Machine
end

