-- ==== Sys2Proof/Parts/Mgmt.lean ====
section
/-!
DEFINITION. Management (21): identity conflict, health score, the Object Access Protocol's counters and kept responses; the
start-up sequence and the pins (20, 23), as plain data.
-/
namespace Sys2Proof.Machine

/-- A response kept for a source (R626): source address and UDP port as bytes, request ID, the BC at which it was sent. -/
structure Kept where
  source : Bytes
  request : Nat
  sent : Nat
  frame : Bytes
deriving DecidableEq, Repr

/-- Management state (Tables MG-12, MG-15 to MG-17). -/
structure Mgmt where
  enable : Bool
  notifyTarget : Bytes
  /-- REQUEST_ID of the next NOTIFY (Table MG-5). -/
  notifyCount : Nat
  failureDomain : Nat
  idConflict : Bool
  idConflicts : Nat
  watch : Nat
  expel : Nat
  hysteresis : Nat
  minIncidents : Nat
  window : Nat
  /-- Penalties by bit (Table MG-13). -/
  penalties : List Nat
  /-- BC at which each incident of the window began, newest first (R632, R633). -/
  incidents : List Nat
  /-- First BC and causes of the last incident. -/
  lastBc : Option Nat
  lastCauses : Nat
  score : Nat
  raw : Nat
  advice : Nat
  inWindow : Nat
  lastEval : Nat
  requests : Nat
  refusals : Nat
  duplicates : Nat
  malformed : Nat
  discards : Nat
  kept : List Kept
  /-- Frames that the management port holds until firmware serves them (R621): source, multicast, frame. -/
  waiting : List (Bytes × Bool × Bytes)
  /-- The last frame sent on the management port: destination address and port, and the frame. -/
  sent : Option (Bytes × Bytes)
deriving DecidableEq, Repr

/-- Management state after a restart: the score starts from SPARE_PENALTY (R635). -/
def Mgmt.reset (sparePenalty : Nat) : Mgmt :=
  { enable := true, notifyTarget := List.replicate 16 0, notifyCount := 0, failureDomain := 0xFFFF, idConflict := false,
    idConflicts := 0, watch := 700, expel := 400, hysteresis := 100, minIncidents := 3, window := 600
    penalties := List.replicate 8 0, incidents := [], lastBc := none, lastCauses := 0, score := 1000 - sparePenalty
    raw := 1000 - sparePenalty, advice := 0, inWindow := 0, lastEval := 0, requests := 0, refusals := 0, duplicates := 0
    malformed := 0, discards := 0, kept := [], waiting := [], sent := none }

/-- Start-up and pins (R603 to R607, R673, R677 to R682). -/
structure Boot where
  /-- The firmware image as received, and whether its stream is closed. -/
  image : Bytes
  closed : Bool
  /-- The FW_START command that VERIFY answers. -/
  starting : Option Nat
  keySlot : Nat
  /-- BC at which the stage in force began. -/
  since : Nat
  /-- Spare good groups found at the start (R576). -/
  spare : Nat
  /-- Grade and enabled groups before the last restart (R577). -/
  before : Option (Nat × Nat)
  sledSlot : Nat
  /-- Vendor and serial that each HBM stack reported (R630). -/
  hbmStacks : List (Nat × Bytes)
  pwrgd : Bool
  resetN : Bool
  vddAux : Bool
  /-- The instruction the TAP acts on (R682). -/
  tap : TapInstr
  /-- HI_STATUS of each function before a halt (R651). -/
  frozen : List Nat
deriving DecidableEq, Repr

/-- While reset is asserted; the TAP holds BYPASS. -/
def Boot.reset : Boot :=
  { image := [], closed := false, starting := none, keySlot := 0xFF, since := 0, spare := 0, before := none, sledSlot := 0
    hbmStacks := List.replicate 8 (0, List.replicate 16 0), pwrgd := true, resetN := false, vddAux := true, tap := .bypass, frozen := [] }

end Sys2Proof.Machine
end

