-- ==== Sys2Proof/Parts/Net.lean ====
section
/-!
DEFINITION. Links (12), packets and the router (13), barriers, signals, notices and the bow (14), as plain data.
-/
namespace Sys2Proof.Machine

/-- A packet with its header fields (Table FB-1). -/
structure Packet where
  dest : Nat
  kind : Nat
  flow : Nat
  planned : Bool
  vc : Nat
  src : Nat
  srcId : Nat
  addr : Nat
  fence : Nat
  len : Nat
  lastRank : Nat
  mid : Nat
  phase : Nat
  rtag : Nat
  status : Nat
  xfer : Nat
  hop : Nat
  route : Nat
  payload : Bytes
deriving DecidableEq, Repr

/-- The part of a DATA flit that is fixed at its first transmission: FLIT_KIND and the 216 payload bytes (R350). -/
structure Flit where
  kind : Nat
  payload : Bytes
deriving DecidableEq, Repr

/-- A flit in the replay buffer (R356, R361). -/
structure HeldFlit where
  seq : Nat
  flit : Flit
  replays : Nat
  /-- It has been sent at least once (R359). -/
  sent : Bool
deriving DecidableEq, Repr

/-- The hold notice that a link sends and repeats (R354): bytes 18 to 31, and the flit times since its first copy. -/
structure HoldSend where
  body : Bytes
  flits : Nat
deriving DecidableEq, Repr

/-- Link counters (Tables LK-13, FB-9). -/
structure LinkCounters where
  cwCorrected : Nat
  symbolsCorrected : Nat
  cwUncorrectable : Nat
  crcErrors : Nat
  nakReplays : Nat
  timeoutReplays : Nat
  replayedFlits : Nat
  duplicates : Nat
  stallFlits : Nat
  noticesSent : Nat
  droppedPackets : Nat
  synthCompletions : Nat
  orphanResponses : Nat
  linkDowns : Nat
  probesSent : Nat
  maxReplays : Nat
  plannedFlits : Nat
  beFlits : Nat
  fenceDrops : Nat
  queuePeak : Nat
deriving DecidableEq, Repr

/-- Counters at 0. -/
def LinkCounters.reset : LinkCounters := ⟨0, 0, 0, 0, 0, 0, 0, 0, 0, 0, 0, 0, 0, 0, 0, 0, 0, 0, 0, 0⟩

/-- One link. -/
structure LinkState where
  enable : Bool
  /-- LINK_ENABLE has been written since the device reset (R341). -/
  written : Bool
  /-- LINK_STATE (Table LK-1). -/
  st : Nat
  /-- DLP_VERSION. -/
  dlp : Nat
  peerDev : Nat
  peerLink : Nat
  peerGen : Nat
  /-- SYNC_STATE of the far end (R343). -/
  peerSync : Nat
  wasUp : Bool
  downCause : Nat
  gen : Nat
  lastDownBc : Nat
  latency : Nat
  roundTrip : Nat
  latValid : Bool
  long : Bool
  replayTimeout : Nat
  replayLimit : Nat
  /-- Training (R344): phase, consecutive good frames at this phase or later, versions the end offers, the FIR taps of the
  two lanes in steps from preset, and EQ_STATUS of the two lanes. -/
  phase : Nat
  goodRun : Nat
  offers : Nat
  taps : List Int
  eqStatus : List Nat
  /-- Training frames sent since the link entered TRAIN, the FRAME_COUNT after which it changes rate, and the frames still to
  send in CONFIRM (R344). -/
  frames : Nat
  rateAt : Nat
  tail : Option Nat
  /-- VC_BUFFERS of the far end (R343, R365). -/
  peerBuffers : List Nat
  /-- Whether the codeword in which the last flit or frame received ends is uncorrectable (R339). -/
  cwBad : Bool
  /-- MEASURE or REMEASURE (R347, R349): running, probes sent, samples, stamps of probes not yet echoed, an echo owed. -/
  measuring : Bool
  probes : Nat
  latMax : Nat
  latCount : Nat
  rttMax : Nat
  rttCount : Nat
  stamps : List Nat
  echoDue : Bool
  /-- Transmit side (R356 to R366). -/
  nextSeq : Nat
  held : List HeldFlit
  /-- The sequence number a replay goes on from. -/
  replayAt : Option Nat
  /-- The last replay begun on a NAK: its number and BC (R357). -/
  lastNak : Option (Nat × Nat)
  /-- BC at which the replay timer restarted (R358). -/
  timer : Nat
  /-- BC at which a stall began (R360). -/
  stall : Option Nat
  credits : List Nat
  lastCredit : List Nat
  plannedQ : List Flit
  /-- Best-effort flits waiting for their first transmission, by virtual channel. -/
  beQ : List (List Flit)
  /-- Notices in order: the first 16 are the FIFO, the others are held by the units that made them (R354). Each is NKIND and
  bytes 18 to 31. -/
  notices : List (Nat × Bytes)
  /-- Copies of the head notice already sent. -/
  copies : Nat
  /-- The hold notices being sent, one for each episode (R354). -/
  holds : List HoldSend
  /-- Hold notices already sent in their episodes: fence tag, serial and smallest Ph. -/
  holdSent : List (Nat × Nat × Nat)
  /-- DOWN flits still to send (R369). -/
  downFlits : Nat
  /-- The last flit sent. -/
  lastTx : Bytes
  /-- Receive side (R355). -/
  expected : Nat
  nakPending : Bool
  anyAccepted : Bool
  freed : List Nat
  /-- Flits of packets not yet whole: planned (6) or virtual channel 0–5, with the flits so far. -/
  asm : Sparse (List Bytes)
  badRun : Nat
  /-- The last notice acted on other than a hold notice: NKIND, body, last copy number, and whether a hold notice has come since
  (R354). -/
  lastNotice : Option (Nat × Bytes × Nat × Bool)
  /-- The body of the last hold notice and its last copy number (R354). -/
  lastHold : Option (Bytes × Nat)
  /-- Reserved slots that passed during a stall with a planned flit waiting (R359, R360). -/
  missed : Nat
  /-- ANCHOR (Table FB-9): anchored to the owner's PBC. -/
  anchorPbc : Bool
  /-- BC of the last reverse flit with acknowledgement, for DLP 1.3: flit times without a DATA flit (Table LK-9). -/
  quiet : Nat
  cnt : LinkCounters
deriving DecidableEq, Repr

/-- A link after reset. -/
def LinkState.reset : LinkState :=
  { enable := false, written := false, st := 0, dlp := 0, peerDev := 0xFFFFF, peerLink := 0xFF, peerGen := 0,
    peerSync := 0, wasUp := false, downCause := 0, gen := 0, lastDownBc := 0, latency := 0, roundTrip := 0,
    latValid := false, long := false, replayTimeout := 32, replayLimit := 8, phase := 0, goodRun := 0, offers := 0,
    taps := List.replicate 10 0, eqStatus := [0, 0], frames := 0, rateAt := 0, tail := none,
    peerBuffers := List.replicate 6 32, cwBad := false, measuring := false, probes := 0, latMax := 0, latCount := 0,
    rttMax := 0, rttCount := 0, stamps := [], echoDue := false, nextSeq := 0, held := [], replayAt := none,
    lastNak := none, timer := 0, stall := none, credits := List.replicate 6 32, lastCredit := List.replicate 6 0,
    plannedQ := [], beQ := List.replicate 6 [], notices := [], copies := 0, holds := [], holdSent := [],
    downFlits := 0, lastTx := [], expected := 0, nakPending := false, anyAccepted := false,
    freed := List.replicate 6 0, asm := [], badRun := 0, lastNotice := none, lastHold := none, missed := 0, anchorPbc := false,
    quiet := 0, cnt := .reset }

/-- A packet that this device has accepted or made and has not finished with. `link` is none for its own packets; `buf` is
the virtual channel whose buffers its flits hold. -/
structure InPacket where
  id : Nat
  link : Option Nat
  buf : Nat
  flits : Nat
  since : Nat
  pkt : Packet
  /-- Flits handed to the transmitter, of a packet that crosses the bridge (R126, R397). -/
  handed : Nat
  /-- It had been accepted, and had passed the fence, when its link went down (R369). -/
  passed : Bool
deriving DecidableEq, Repr

/-- What a tile has posted on its way to a network die (R379, R388, R413, R422, R429). -/
inductive PostedItem where
  /-- A best-effort packet, with the signal count of its completion and the landing address of a READ. -/
  | packet (p : Packet) (j land : Nat)
  | planned (link : Nat) (p : Packet)
  | barrier (id round e j : Nat)
deriving DecidableEq, Repr

/-- A posted item: the partition and tile, and the beat edge at which it arrives (R686). -/
structure Posting where
  part : Nat
  tile : Nat
  due : Nat
  item : PostedItem
deriving DecidableEq, Repr

/-- What a requester waits for (R370, R379, R430). -/
inductive OrtOwner where
  /-- A tile's WRITE_C or READ: partition, tile, signal count. -/
  | tile (part t j : Nat)
  /-- A tile's NOTICE, which is sent again on BUSY. -/
  | notice (part t j : Nat)
  /-- A packet of chunk `chunk` of mirror job `job` (R491). -/
  | mirror (part job chunk : Nat)
  /-- Firmware. -/
  | firmware
deriving DecidableEq, Repr

/-- An outstanding-request entry (R370). -/
structure OrtEntry where
  die : Nat
  ix : Nat
  link : Option Nat
  owner : OrtOwner
  part : Nat
  /-- Landing address and length of a READ; the length is 0 for any other request. -/
  land : Nat
  len : Nat
  opened : Nat
  /-- A NOTICE's packet, kept for retries, and the BC at which it is sent again. -/
  again : Option Packet
  retryAt : Option Nat
  /-- BC at which the link on which the request left went down: the synthetic completion follows at the next beat edge. -/
  lost : Option Nat
deriving DecidableEq, Repr

/-- A remote write being performed: it is recorded in its data path's landed count in order (R423). -/
structure RemoteWrite where
  id : Nat
  part : Nat
  /-- Data path: source device, source partition and flow. -/
  path : Nat
  len : Nat
  /-- Parts of the write that are not complete yet. -/
  left : Nat
  /-- The packet that wants a RESPONSE once the write is complete (WRITE_C). -/
  answer : Option Packet
  /-- Link, virtual channel and number of the inbound buffers that it holds while its channel accesses wait (R281). -/
  held : Option (Nat × Nat × Nat)
deriving DecidableEq, Repr

/-- A remote read being served: the packet, and its parts still to be read. -/
structure RemoteRead where
  id : Nat
  pkt : Packet
  left : Nat
  /-- Link, virtual channel and number of the inbound buffers that it holds while it waits (R281). -/
  held : Option (Nat × Nat × Nat)
deriving DecidableEq, Repr

/-- A signal in the hold table (R424). -/
structure HeldSignal where
  id : Nat
  die : Nat
  part : Nat
  path : Nat
  s : Nat
  tile : Nat
  j : Nat
  since : Nat
deriving DecidableEq, Repr

/-- A control-plane write in the park buffer (R382). -/
structure ParkedWrite where
  tile : Nat
  off : Nat
  data : Bytes
  /-- The remote write it completes, where it came on a link or from its own device. -/
  owes : Option Nat
deriving DecidableEq, Repr

/-- The router and its totals (13). -/
structure Router where
  /-- Best-effort packets not yet judged by R396, planned packets accepted, packets at their sink, packets that wait for a
  credit with their outbound link. -/
  ingress : List InPacket
  plannedIn : List InPacket
  sink : List InPacket
  out : List (Nat × InPacket)
  /-- Flits in the die-to-die bridge, by packet number, BC at which they entered it, and number (R126, R397). -/
  bridge : List (Nat × Nat × Nat)
  posted : List Posting
  ort : List OrtEntry
  writes : List RemoteWrite
  holds : List HeldSignal
  parked : List ParkedWrite
  reads : List RemoteRead
  /-- Responses of READs whose data are landing: number, tile, signal count. -/
  landingReads : List (Nat × Nat × Nat)
  fwInbox : List Bytes
  /-- Cooling fence tags with the BC at which each cooled (R401). -/
  cooling : List (Nat × Nat)
  fenceDrops : Nat
  badKind : Nat
  unroutable : Nat
  rankDrops : Nat
  staleDrops : Nat
  parkRejects : Nat
  mgmtDrops : Nat
  plannedDrops : Nat
  plannedOverflows : Nat
  remoteFails : Nat
  linkDowns : Nat
  replays : Nat
  uncorrectable : Nat
  respTimeouts : Nat
  ortFullWaits : Nat
  dlpAllow : Nat
  respTimeout : Nat
  tagCooldown : Nat
deriving DecidableEq, Repr

/-- The router after reset. -/
def Router.reset : Router :=
  { ingress := [], plannedIn := [], sink := [], out := [], bridge := [], posted := [], ort := [], writes := [], holds := [],
    parked := [], reads := [], landingReads := [], fwInbox := [], cooling := [], fenceDrops := 0, badKind := 0,
    unroutable := 0, rankDrops := 0, staleDrops := 0, parkRejects := 0, mgmtDrops := 0, plannedDrops := 0,
    plannedOverflows := 0, remoteFails := 0, linkDowns := 0, replays := 0, uncorrectable := 0, respTimeouts := 0,
    ortFullWaits := 0, dlpAllow := 3, respTimeout := 262144, tagCooldown := 4194304 }

/-- A loaded route table (Table FB-3). -/
structure RouteTable where
  ranks : Nat
  thisRank : Nat
  salt : Nat
  openLinks : Nat
  linkRank : List Nat
  next : List Nat
deriving DecidableEq, Repr

/-- A generation slot of a barrier (R412). -/
structure BarrierSlot where
  count : Nat
  e : Option Nat
  j : Option Nat
  entrants : List Nat
  children : List Nat
  /-- The report has been sent up (R416). -/
  reported : Bool
  /-- Host functions that entered, one for each command. -/
  hosts : List Nat
deriving DecidableEq, Repr

/-- An empty slot. -/
def BarrierSlot.reset : BarrierSlot := ⟨0, none, none, [], [], false, []⟩

/-- A barrier's counter (R412) with the watches of rounds to come. -/
structure Barrier where
  n : Nat
  even : BarrierSlot
  odd : BarrierSlot
  /-- Watches: round and function (R419). -/
  watches : List (Nat × Nat)
deriving DecidableEq, Repr

/-- A barrier at round 0. -/
def Barrier.reset : Barrier := ⟨0, .reset, .reset, []⟩

/-- A vote under way (R68, R331, R411): kind, decision PBC, own bit once sampled, the children's values, sent up. -/
structure Vote where
  kind : Nat
  pbc : Nat
  own : Option Bool
  children : List (Nat × Bool)
  sent : Bool
  result : Option Bool
deriving DecidableEq, Repr

/-- The bow of a partition (R435 to R440). -/
structure Bow where
  /-- BOW_STATE. -/
  state : Nat
  serial : Nat
  /-- A: the crown's deadline, or the ACK_BY of this device. -/
  ackBy : Nat
  failDev : Nat
  failCause : Nat
  failLinks : Nat
  startBc : Nat
  /-- Children that sent OK, with their COUNT. -/
  oks : List (Nat × Nat)
  /-- Failures of the subtree known of. -/
  fails : Nat
  /-- A FAIL has been sent or decided; an OK has been sent; START has been sent or received, with its BC0. -/
  failed : Bool
  okSent : Bool
  bc0 : Option Nat
deriving DecidableEq, Repr

/-- No bow. -/
def Bow.reset : Bow := ⟨0, 0, 0, 0xFFFFF, 0, 0, 0, [], 0, false, false, none⟩

/-- What a partition holds of 13 and 14. -/
structure Net where
  plannedLinks : Nat
  routeState : Nat
  route : Option RouteTable
  /-- Links of the route table that are open now (R402). -/
  openLinks : Nat
  treeState : Nat
  parentLink : Nat
  childLinks : Nat
  barriers : Sparse Barrier
  votes : List Vote
  parity : Bool
  bow : Bow
  /-- Send path table: (destination device, flow) and the 48-bit count (R421). -/
  sendPaths : List ((Nat × Nat) × Nat)
  /-- Receive path table: path key and landed count (R423). -/
  recvPaths : List (Nat × Nat)
deriving DecidableEq, Repr

/-- These at their defaults. -/
def Net.reset : Net := ⟨0, 0, none, 0, 0, 0xFF, 0, [], [], false, .reset, [], []⟩

/-- Synchronisation configuration and totals (Tables SY-10, SY-12). -/
structure SyncTotals where
  bowWindow : Nat
  noticeRetry : Nat
  rounds : Nat
  overruns : Nat
  mismatches : Nat
  staleTree : Nat
  signalsDelivered : Nat
  signalHoldBeats : Nat
  rejectedSignals : Nat
  pathOverflows : Nat
  noticesDelivered : Nat
  noticeBusy : Nat
  noticeFails : Nat
  bowAborts : Nat
deriving DecidableEq, Repr

/-- These at their defaults. -/
def SyncTotals.reset : SyncTotals := ⟨262144, 256, 0, 0, 0, 0, 0, 0, 0, 0, 0, 0, 0, 0⟩

/-- A notice received on a link and not yet acted on (R354, R410): link, NKIND, bytes 18 to 31. -/
structure NoticeIn where
  link : Nat
  kind : Nat
  body : Bytes
deriving DecidableEq, Repr

end Sys2Proof.Machine
end

