-- ==== Sys2Proof/Parts/Plan.lean ====
section
/-!
DEFINITION. A loaded plan and the plan state of a partition (11), its plan time (02), its audit entries (17).
-/
namespace Sys2Proof.Machine

/-- A step record (Table PI-6). -/
structure StepRec where
  op : Nat
  stop : Bool
  switch : Bool
  stageOpen : Bool
  stints : Nat
  first : Nat
  boostFirst : Nat
  decision : Nat
deriving DecidableEq, Repr

/-- A stint record (Table PI-7). -/
structure StintRec where
  length : Nat
  swap : Bool
  swapSet : Nat
deriving DecidableEq, Repr

/-- A link record (R316). -/
structure LinkRec where
  link : Nat
  peerRank : Nat
  peerLink : Nat
  slots : Nat
  ownerRank : Nat
deriving DecidableEq, Repr

/-- A transfer record (Table PI-8). -/
structure TransferRec where
  step : Nat
  sendLast : Nat
  use : Nat
  path : List Nat
  bytes : Nat
  replayAllow : Nat
  destTile : Nat
  aOff : Nat
  w : Nat
deriving DecidableEq, Repr

/-- A patch record (Table PI-10). -/
structure PatchRec where
  kind : Nat
  width : Nat
  shift : Nat
  sec : Nat
  off : Nat
  arg : Nat
  addend : Int
deriving DecidableEq, Repr

/-- A section table entry (Table PI-4). -/
structure Section where
  type : Nat
  target : Nat
  offset : Nat
  length : Nat
  dest : Nat
deriving DecidableEq, Repr

/-- The image header (Table PI-3). -/
structure ImageHeader where
  magic : Nat
  major : Nat
  minor : Nat
  bytes : Nat
  sectionCount : Nat
  sectionTable : Nat
  rank : Nat
  ranks : Nat
  crownRank : Nat
  h : Nat
  barrierIds : Nat
  holdLimit : Nat
  hbmCp : Nat
  capCp : Nat
  successor : Bool
  reproducible : Bool
  shards : Nat
  opword : Nat
deriving DecidableEq, Repr

/-- The control part of an image as firmware keeps it: what the partition beat controller and the deadline checkers hold
(R324). -/
structure Plan where
  header : ImageHeader
  groups : Nat
  hbmMask : Nat
  capMask : Nat
  steps : List StepRec
  loopStart : Nat
  stints : List StintRec
  swapSets : List Nat
  links : List LinkRec
  transfers : List TransferRec
  hash : Bytes
  patchDigest : Bytes
  hmin : Nat
deriving DecidableEq, Repr

/-- An image stream that is open (R322, R591): the function that sends it and the bytes received. -/
structure ImageStream where
  fn : Nat
  received : Bytes
  /-- The plan of a control part that has been accepted. -/
  plan : Option Plan
  /-- The values written by the patch records, in record order (R325). -/
  patched : List Nat
  /-- The last packet of a cold load has come, and its command is answered when the memory sections are written (R280, R324). -/
  closing : Option Nat
deriving DecidableEq, Repr

/-- A successor that has been accepted (R329 to R334): its plan and its IMEM sections, patched. -/
structure Successor where
  plan : Plan
  imem : List (Nat × Nat × Bytes)
  staged : Bool
deriving DecidableEq, Repr

/-- An instance of a planned transfer (R57, R317): its record, the PBC of its deadline A + W, the payload bytes that have still to
land (R392), and whether the deadline has been checked (R63). -/
structure Arrival where
  ix : Nat
  due : Nat
  left : Nat
  checked : Bool
deriving DecidableEq, Repr

/-- The plan entries of a partition (Table PI-13) and what a run of the plan keeps. -/
structure PlanState where
  state : Nat
  loadStatus : Nat
  loadDetail : Nat
  format : Nat
  plan : Option Plan
  streams : List ImageStream
  successor : Option Successor
  succState : Nat
  succStatus : Nat
  succHash : Bytes
  switches : Nat
  /-- Step in progress, or about to begin during its region stop; index of its stint record; the first PBC of the stint. -/
  stepIx : Nat
  stintIx : Nat
  stintStart : Nat
  /-- The step that ran before the step in progress; none at the first step of a run. -/
  came : Option Nat
  /-- The step runs its OP-B body (R315). -/
  boosted : Bool
  /-- The first PBC of the region stop in progress (R67). -/
  stopFrom : Option Nat
  /-- A region stop falls due at this edge (R67). -/
  stopDue : Bool
  /-- The switch is taken at this region stop (R332). -/
  switching : Bool
  /-- The first PBC of the step's first beat (R317), and its first edge's BC and PBC (R523). -/
  stepBegan : Nat
  firstBc : Nat
  firstPbc : Nat
  /-- The PBC at which the plan began to run in the partition (R68). -/
  planBegan : Nat
  /-- A step with STAGE_OPEN has begun (R330). -/
  stageOpened : Bool
  /-- Instances of planned transfers that have not landed or whose deadline is to come, oldest first (R57, R392). -/
  arrivals : List Arrival
deriving DecidableEq, Repr

/-- No plan. -/
def PlanState.reset : PlanState :=
  { state := 0, loadStatus := 0, loadDetail := 0, format := 0, plan := none, streams := [], successor := none,
    succState := 0, succStatus := 0, succHash := [], switches := 0, stepIx := 0, stintIx := 0, stintStart := 0, came := none,
    boosted := false, stopFrom := none, stopDue := false, switching := false, stepBegan := 0, firstBc := 0,
    firstPbc := 0, planBegan := 0, stageOpened := false,
    arrivals := [] }

/-- Whether a partition is stopped, runs, or is frozen by a hold (R47, R60, R638). -/
inductive TimeMode where
  | stopped | running | frozen
deriving DecidableEq, Repr

/-- Plan time of a partition (Table BT-6, R47 to R65). -/
structure PartTime where
  mode : TimeMode
  pbc : Nat
  offset : Nat
  opCurrent : Nat
  /-- The operating point before the last region stop began (R92). -/
  opBefore : Nat
  slipping : Bool
  /-- Done-tree samples at this edge, one and two edges ago (R51). -/
  done0 : Bool
  done1 : Bool
  done2 : Bool
  slipCount : Nat
  slipBeats : Nat
  holdCount : Nat
  holdBeats : Nat
  lastHoldCause : Nat
  lastHoldBc : Nat
  lastHoldOrigin : Nat
  longestStill : Nat
  /-- Edges since PBC last advanced. -/
  still : Nat
  /-- Slot intervals of planned links (R384): beats since the last beat that began some, the PBC of that beat, and whether
  the beat before it began some too. -/
  slotAge : Nat
  slotBeat : Nat
  ranBefore : Bool
  /-- Episode serial of the job, hold point, origin and cause of the hold point (R58 to R60). -/
  serial : Nat
  holdPoint : Option Nat
  holdOrigin : Nat
  holdCause : Nat
  /-- Notices seen in the episode: asserting devices (R59). -/
  seen : List Nat
  bres : Option Nat
  /-- The partition runs beat Ph after a resume; the serial moves on when PBC advances (R63, R411). -/
  resumed : Bool
  /-- An edge at which the partition may advance only by an event (a boundary, a slip's end, a stop's end) is at hand. -/
  edgeDue : Bool
  /-- Clears received from children, own clear reported up (R63, R411). -/
  clears : List Nat
  clearSent : Bool
  /-- A stop by error due at the next beat edge (R638). -/
  stopPending : Bool
  /-- The numbers of the PART_STOP commands that are due at the next boundary edge (R595). -/
  stopAsked : List Nat
  /-- Least length in beats of the pacing slip under way (R573). -/
  pacing : Nat
  /-- The hold limit has raised its error for this still (R65). -/
  limitRaised : Bool
deriving DecidableEq, Repr

/-- A stopped partition at PBC 0 (Table BT-6 defaults). -/
def PartTime.reset : PartTime :=
  { mode := .stopped, pbc := 0, offset := 0, opCurrent := 1, opBefore := 1, slipping := false, done0 := false, done1 := false,
    done2 := false, slipCount := 0, slipBeats := 0, holdCount := 0, holdBeats := 0, lastHoldCause := 0,
    lastHoldBc := 0, lastHoldOrigin := 0xFFFFF, longestStill := 0, still := 0,
    slotAge := 2, slotBeat := 0, ranBefore := false, serial := 0, holdPoint := none,
    holdOrigin := 0xFFFFF, holdCause := 0, seen := [], bres := none, resumed := false, edgeDue := false,
    clears := [], clearSent := false, stopPending := false, stopAsked := [], pacing := 0, limitRaised := false }

/-- A run record that is due to be posted (R523): its bytes and the BC of its boundary edge. -/
structure DueRecord where
  bcEnd : Nat
  pbcEnd : Nat
  bcFirst : Nat
  pbcFirst : Nat
  step : Nat
  stepIndex : Nat
  op : Nat
  rank : Nat
  reproducible : Bool
  planHash : Bytes
  patchDigest : Bytes
  manifest : Bytes
  version : Nat
  shards : Nat
  seeds : List Nat
  unsync : Bool
deriving DecidableEq, Repr

/-- The audit entries of a partition (Table DA-7). -/
structure Audit where
  stepBase : Nat
  step : Nat
  recordTile : Nat
  recordOffset : Nat
  recordLayers : Nat
  recordsPosted : Nat
  lastRecordStep : Nat
  seeds : List Nat
  due : List DueRecord
deriving DecidableEq, Repr

/-- The audit entries at their defaults. -/
def Audit.reset : Audit := ⟨0, 0, 0xFFFF, 0, 0, 0, 0, List.replicate 16 0, []⟩

end Sys2Proof.Machine
end

