-- ==== Sys2Proof/Parts/Serving.lean ====
section
/-!
DEFINITION. The token-selection unit of a partition (15), as plain data.
-/
namespace Sys2Proof.Machine

/-- The serving configuration (Table SV-6). -/
structure ServeConfig where
  modelTag : Bytes
  vocab : Nat
  logitFmt : Nat
  g : Nat
  c : Nat
  channels : Nat
  b : Nat
  d : Nat
  chunkMax : Nat
  slices : Nat
  rowBytes : Nat
  signalJ : Nat
  battSlots : Nat
  maxPos : Nat
  npages : Nat
  first : Nat
  last : Nat
  mapOffset : Nat
  mapGroups : Nat
  ptBase : Nat
  logitBase : Nat
  battBase : Nat
  battChannels : Nat
  battBlocks : Nat
  passAt : List Nat
  pools : List Nat
deriving DecidableEq, Repr

/-- A grammar slot in force, its state and its stack (R464, R465). -/
structure GramState where
  slot : Option Nat
  st : Nat
  stack : List Nat
deriving DecidableEq, Repr

/-- The sampling fields of a request (Table SV-5). -/
structure Sampling where
  seed : Nat
  mode : Nat
  draftMax : Nat
  temp : Nat
  topP : Nat
  topK : Nat
  stop : List Nat
  maxNew : Nat
deriving DecidableEq, Repr

/-- A serving command that waits in the request queue, with its acceptance BC (R443). -/
inductive ServeCmd where
  | request (handle addr len : Nat) (gram : GramState) (f : Sampling) (bc : Nat)
  /-- `gram` none keeps the batt's. -/
  | resume (handle addr len : Nat) (gram : Option GramState) (f : Sampling) (bc : Nat)
  | park (handle ttl bc : Nat)
  | cancel (handle bc : Nat)
deriving DecidableEq, Repr

/-- The states of a sequence (Table SV-2). -/
inductive SeqState where
  | prefill | decode | parking | resuming | ending | ended
deriving DecidableEq, Repr

/-- An entry of the sequence table (Table SV-1). -/
structure Seq where
  handle : Nat
  state : SeqState
  len : Nat
  pending : Nat
  /-- Input: its address and length, whether the pending token precedes it (R452), the rows processed. -/
  addr : Nat
  inputLen : Nat
  lead : Bool
  done : Nat
  gram : GramState
  f : Sampling
  /-- Physical pages by logical page (R456). -/
  pages : List Nat
  emitted : Nat
  /-- Step counter of the step it was last placed in (R452). -/
  lastStep : Nat
  bc : Nat
  /-- CANCEL of a sequence whose moves are under way (Table SV-12). -/
  cancelled : Bool
  /-- TTL of the PARK. -/
  ttl : Nat
  /-- The END_* code of an ENDING or ENDED sequence, and whether a batch has reported it. -/
  endCode : Nat
  reported : Bool
deriving DecidableEq, Repr

/-- A batt (Table SV-1). -/
structure Batt where
  handle : Nat
  len : Nat
  pending : Nat
  gram : GramState
  first : Nat
  blocks : Nat
  /-- BC of expiry; its park moves are not complete while there is none. -/
  expiry : Option Nat
  digest : Bytes
  pinned : Bool
deriving DecidableEq, Repr

/-- A slot of the step in progress (R452): a decode slot or a chunk. -/
structure Placed where
  slot : Nat
  entry : Nat
  len : Nat
  firstRow : Nat
  rows : Nat
  /-- KIND of Table SV-8. -/
  kind : Nat
  g : Nat
  /-- Drafts proposed so far, and whether they have ended early (R458). -/
  drafts : List Nat
  draftsEnded : Bool
deriving DecidableEq, Repr

/-- An entry of a result batch (Table SV-14). -/
structure BatchEntry where
  handle : Nat
  len : Nat
  firstPos : Nat
  event : Nat
  drafts : Nat
  accepted : Nat
  gst : Nat
  depth : Nat
  slot : Nat
  inputDone : Nat
  tokens : List Nat
  expiry : Nat
  digest : Bytes
deriving DecidableEq, Repr

/-- Which pass (R450). -/
inductive PassKind where
  | initial
  | draft (k : Nat)
  | final
deriving DecidableEq, Repr

/-- A pass triggered: the BC of its trigger edge and the step counter and step index of its step. -/
structure Pass where
  kind : PassKind
  bc : Nat
  counter : Nat
  step : Nat
deriving DecidableEq, Repr

/-- The boundary edge that ended a serving step (R478). -/
structure StepEdge where
  counter : Nat
  bc : Nat
  pbc : Nat
  step : Nat
  unsync : Bool
deriving DecidableEq, Repr

/-- A request in the unit's memory queue (Table SV-1): its place in the order of posting over the whole device, its bytes, the
sequence entry whose park, resume or end digest it belongs to (none: a pass), and the slots still to be served. -/
structure UnitReq where
  id : Nat
  addr : Nat
  len : Nat
  write : Bool
  owner : Option Nat
  left : Nat
deriving DecidableEq, Repr

/-- The token-selection unit (R443). -/
structure Serving where
  cfg : Option ServeConfig
  staged : Option ServeConfig
  grammar : Sparse Byte
  /-- Offset and length of the image of each grammar slot. -/
  slots : List (Option (Nat × Nat))
  queue : List ServeCmd
  seqs : Sparse Seq
  batts : List Batt
  /-- The slots of the step whose map was written last. -/
  placed : List Placed
  running : Option Pass
  waiting : List Pass
  /-- PBC of the triggers of the step in progress that have fired (R450). -/
  fired : List Nat
  /-- Serving steps ended and final passes complete whose batch is not posted (R478). -/
  edges : List StepEdge
  results : List (Nat × List BatchEntry)
  /-- Slot entries of the final pass that runs. -/
  entries : List BatchEntry
  events : List BatchEntry
  /-- The memory queue: the first 256 are in it, the others wait for room. -/
  memq : List UnitReq
  /-- By channel: a frame, and the slots that moves have taken in it (R471). -/
  paced : Sparse (Nat × Nat)
  lastPassBeats : Nat
  lastStatus : Nat
deriving DecidableEq, Repr

/-- The empty unit. -/
def Serving.reset : Serving :=
  { cfg := none, staged := none, grammar := [], slots := List.replicate 16 none, queue := [], seqs := [], batts := []
    placed := [], running := none, waiting := [], fired := [], edges := [], results := [], entries := [], events := []
    memq := [], paced := [], lastPassBeats := 0, lastStatus := 0 }

/-- Serving totals of the device (Table SV-19). -/
structure ServeTotals where
  tokens : Nat
  proposed : Nat
  accepted : Nat
  selections : Nat
  nanLogits : Nat
  noTokenEnds : Nat
  pageWaits : Nat
  topPTruncations : Nat
  passOverruns : Nat
  battExpiries : Nat
  digestFails : Nat
  parks : Nat
deriving DecidableEq, Repr

/-- These at their defaults. -/
def ServeTotals.reset : ServeTotals := ⟨0, 0, 0, 0, 0, 0, 0, 0, 0, 0, 0, 0⟩

end Sys2Proof.Machine
end

