-- ==== Sys2Proof/Parts/Memory.lean ====
section
/-!
DEFINITION. Stored-word faults, memory channels and control-plane accesses (10, 18).
-/
namespace Sys2Proof.Machine

/-- How a stored word differs from the word written: data and check bits in error (R529, R555). Poison is data 0 with all
check bits in error (R531). -/
structure WordFault where
  data : BitVec 64
  check : BitVec 8
deriving DecidableEq, Repr

/-- Addresses `lo` to `hi` − 1, whose bytes are undefined, and the number of their free values (R323; assumption 6). -/
structure LostRange where
  lo : Nat
  hi : Nat
  key : Nat
deriving DecidableEq, Repr

/-- No fault. -/
def WordFault.none : WordFault := ⟨0, 0⟩

/-- A scrub under way (R548 to R552). -/
structure ScrubJob where
  id : Nat
  /-- Who receives the summary: REQUESTER of Table IN-4 and the function whose ring is posted. -/
  requester : Nat
  fn : Nat
  writeback : Bool
  start : Nat
  length : Nat
  bcStart : Nat
  aborted : Bool
  /-- Channels of the range that still work: channel, next page, first page past its share, retries of that page. -/
  active : List (Nat × Nat × Nat × Nat)
  pages : Nat
  correctedWords : Nat
  correctedPages : Nat
  uncorrectable : Nat
  poisoned : Nat
  skipped : Nat
  wordAddrs : List Nat
  pageAddrs : List Nat
  badAddrs : List Nat
deriving DecidableEq, Repr

/-- What a control-plane access serves (R280). -/
inductive CpOwner where
  /-- A packet from a link: the number of the remote write or read it is part of (13). -/
  | packet (ix : Nat)
  /-- A host command, by its number, that answers when its write is done. -/
  | host (id : Nat)
  /-- A page write-back after a correction (R539); another write has touched its page since. -/
  | writeback (stale : Bool)
  /-- A page of a scrub: the job's id and the channel (R550). -/
  | scrub (job ch : Nat)
  /-- The write-back of a scrub's page; another write has touched the page since. -/
  | scrubBack (job ch : Nat) (stale : Bool)
  /-- Firmware. -/
  | firmware
deriving DecidableEq, Repr

/-- A control-plane access that waits for its slots (R280, R281), or, `decode` set, for the page decoder (R537). -/
structure CpAccess where
  id : Nat
  write : Bool
  addr : Nat
  data : Bytes
  len : Nat
  left : Nat
  decode : Bool
  owner : CpOwner
deriving DecidableEq, Repr

/-- A planned link landing that waits for its slots at a channel (R280, R383). -/
structure PlannedLanding where
  id : Nat
  addr : Nat
  data : Bytes
  left : Nat
deriving DecidableEq, Repr

/-- A memory channel: HBM channel c is number c, capacity channel c is number 256 + c (R273, R277, Table IN-9). -/
structure Channel where
  /-- The frame (BC ÷ 64) the next slot belongs to, and the next slot in it (R279). -/
  frame : Nat
  slot : Nat
  correctedWords : Nat
  correctedPages : Nat
  uncorrectablePages : Nat
  lastBadAddr : Nat
  epochCorrected : Nat
  /-- The corrected-rate entry of this epoch has been logged (R557). -/
  rateLogged : Bool
  scrubBusy : Bool
  /-- 1 + the BC of the beat in which a slot last served a control-plane access (R281). -/
  lastCp : Nat
deriving DecidableEq, Repr

/-- An idle channel. -/
def Channel.reset : Channel := ⟨0, 0, 0, 0, 0, 0, 0, false, false, 0⟩

/-- Memory health totals (Table ME-12). -/
structure MemTotals where
  requests : Nat
  fullWaits : Nat
  boundOverruns : Nat
  addressFaults : Nat
  addressRejects : Nat
  cpHeldBeats : Nat
  landingFullPeriods : Nat
deriving DecidableEq, Repr

/-- Memory totals at their defaults. -/
def MemTotals.reset : MemTotals := ⟨0, 0, 0, 0, 0, 0, 0⟩

/-- Integrity totals, configuration and injection (Tables IN-8, IN-10, IN-11). -/
structure Integrity where
  tsCorrected : Nat
  tsUncorrectable : Nat
  imemCorrected : Nat
  memCorrectedWords : Nat
  memCorrectedPages : Nat
  memUncorrectablePages : Nat
  poisonWrites : Nat
  residueFaults : Nat
  arrayCorrected : Nat
  writebacksDiscarded : Nat
  rmwWrites : Nat
  scrubs : Nat
  selftestState : Nat
  selftestFails : Nat
  firstFailChecker : Nat
  firstFailUnit : Nat
  logThreshold : Nat
  injectTarget : Nat
  injectAddr : Nat
  injectMask : Nat
  injectTile : Nat
  /-- INJECT_STATE: 0 idle, 1 armed, 2 applied, 3 refused. -/
  injectState : Nat
  /-- Corrected words of each tile in this epoch, and the tiles whose corrected-rate entry is logged (R557). -/
  tileCorrected : Sparse Nat
  tileLogged : List Nat
deriving DecidableEq, Repr

/-- Integrity state at its defaults. -/
def Integrity.reset : Integrity :=
  { tsCorrected := 0, tsUncorrectable := 0, imemCorrected := 0, memCorrectedWords := 0, memCorrectedPages := 0,
    memUncorrectablePages := 0, poisonWrites := 0, residueFaults := 0, arrayCorrected := 0, writebacksDiscarded := 0,
    rmwWrites := 0, scrubs := 0, selftestState := 0, selftestFails := 0, firstFailChecker := 0,
    firstFailUnit := 0xFFFF, logThreshold := 64, injectTarget := 0, injectAddr := 0, injectMask := 0, injectTile := 0,
    injectState := 0, tileCorrected := [], tileLogged := [] }

end Sys2Proof.Machine
end

