-- ==== Sys2Proof/Parts/Tile.lean ====
section
/-!
DEFINITION. The state of one tile (03, 04, 06 to 09, 10): clock region, control core, engine queues, memory queue,
forest unit, digest slots, direct paths.
-/
namespace Sys2Proof.Machine

/-- Generator conditions that are not derived from the partition: running, napped, waking, faulted (REGION_STATE, R95). -/
inductive GenState where
  | on | napped | waking | faulted
deriving DecidableEq, Repr

/-- The clock region of a tile (03). Picoseconds of the droop deficit are held in 408ths. -/
structure Clock where
  gen : GenState
  /-- Periods begun since the last stretch, held at 16 (R78). -/
  sinceStretch : Nat
  /-- The lengthening of the periods that began in this beat (E of R80). -/
  lengthened : Nat
  /-- The droop deficit D (R80). -/
  deficit : Nat
  /-- A re-trim of the delay line is due at the next beat edge (R81). -/
  retrim : Bool
  /-- The duty corrector's trim, in steps toward 500 (R82). -/
  dutyTrim : Int
  stretches : Nat
  gaps : Nat
  readWaits : Nat
  readWaitPs : Nat
  writeWaits : Nat
  jitterTrips : Nat
  dutyTrips : Nat
  epochTrips : Nat
  maxDeficit : Nat
  /-- The escalation of R83 already raised in this epoch. -/
  tripped : Bool
  /-- Monitor trips in the self-check of a region stop (R94) or of a wake (R567). -/
  selfCheckTrips : Nat
  /-- The generator has locked to the beat reference in this region stop or wake (R94, R567). -/
  locked : Bool
  /-- When the present period began, and when the next may begin: 408ths of a picosecond from the present beat edge. -/
  began : Int
  next : Int
  /-- What the last idle tail exceeded D + E by: a lengthening of a period that began before the edge is taken from it
  (R80). -/
  slack : Nat
  /-- Banks that the landing port has used in the present period (R118). -/
  landed : List Nat
  /-- When the planned cycle in progress began, on the scale of `began`. -/
  cycleAt : Int
deriving DecidableEq, Repr

/-- A clock region after reset. -/
def Clock.reset : Clock := ⟨.on, 16, 0, 0, false, 0, 0, 0, 0, 0, 0, 0, 0, 0, 0, false, 0, true, 0, 0, 0, [], 0⟩

/-- A comparator's configuration (R245). -/
structure Comparator where
  src : Nat
  rel : Nat
  ref : Nat
deriving DecidableEq, Repr

/-- An entry of an engine queue: due cycle and descriptor copy with its base adjustments applied (R180, R181). -/
structure QEntry where
  due : Nat
  desc : Bytes
  /-- The descriptor's offset in units of 128 B, for the error detail (R642). -/
  slot : Nat
deriving DecidableEq, Repr

/-- A wait that has not completed (R256). -/
inductive Wait where
  | mq (n : Nat) (target : BitVec 32)
  | sig (j : Nat) (target : BitVec 32)
  | mbx
deriving DecidableEq, Repr

/-- A timed action that is performed in its due cycle (R106): a load or store of `n` bytes at a store offset, a wait, or the
stint end with the nap that it asks for. -/
inductive TimedAct where
  | load (n : Nat) (a : Fin 16) (off : Nat)
  | store (n : Nat) (a : Fin 16) (off : Nat)
  | wait (w : Wait)
  | finish (nap : Option (Nat × Nat))
deriving DecidableEq, Repr

/-- CC_STATE, as far as it is stored (Table CC-9): `due` waits for a due cycle, `waiting` for a condition; a stalled issue
keeps its entry. -/
inductive CoreState where
  | idle | running | due (a : TimedAct) (d : Nat) | waiting (w : Wait) | stalled (e : Engine) (q : QEntry) | atEnd | napped
  | faulted
deriving DecidableEq, Repr

/-- The control core (Table CC-1, Table CC-9) and the release of planned cycles (R104 to R112). -/
structure Core where
  s : List (BitVec 32)
  c : List (BitVec 48)
  k : List Comparator
  p : List Bool
  stack : List Nat
  pc : Nat
  state : CoreState
  faultCause : Nat
  waitPeriods : Nat
  lastWaitKind : Nat
  /-- The planned cycle m in progress. -/
  cycle : Nat
  /-- Periods that a bank conflict has lengthened the cycle in progress by so far (R116). -/
  held : Nat
  /-- The present period has still to execute an instruction (R107). -/
  spare : Bool
  /-- The second period of a load is still to pass (R247). -/
  rest : Bool
  /-- The release cycle R. -/
  release : Nat
  /-- The due cycle of the timed action before (R105). -/
  lastDue : Nat
  /-- The due cycle of the stint end reached (R112). -/
  endDue : Option Nat
  /-- A nap asked for by stint.nap: the alarm's PBC[47:0] and the wake mask (R264). -/
  napAsk : Option (Nat × Nat)
  /-- Wake causes seen while napped or waking: bit 17 alarm, bit 16 notice, bits 15:0 signals (R265). -/
  wakeCauses : Nat
  /-- BC at which a wake in progress is complete (R566). -/
  wakeDone : Option Nat
  /-- A bank swap that fell due while the tile napped (R266). -/
  swapOwed : Bool
  /-- The inbox, oldest notice first, 16 bytes each (R258). -/
  inbox : List Bytes
deriving DecidableEq, Repr

/-- The control core after reset, at plan load and at a partition reset (R243). -/
def Core.reset : Core :=
  { s := List.replicate 16 0, c := List.replicate 8 0, k := List.replicate 4 ⟨0, 0, 0⟩, p := List.replicate 4 false,
    stack := [], pc := 0, state := .idle, faultCause := 0, waitPeriods := 0, lastWaitKind := 0, cycle := 0, held := 0,
    spare := false, rest := false, release := 0, lastDue := 0, endDue := none, napAsk := none, wakeCauses := 0, wakeDone := none,
    swapOwed := false, inbox := [] }

/-- The direct paths of Table TL-5; what the IX puts out goes to the CG or the FU. -/
inductive PathId where
  | cgVu | vuSfu | sfuVu | ix | mvCg
deriving DecidableEq, Repr

/-- A group held in a direct path: the cycle it was written in, its number in its operation, the elements of a whole group
(n of R196), and its bytes. From the IX and the MV a group is a line. -/
structure PathGroup where
  cycle : Nat
  index : Nat
  n : Nat
  data : Bytes
deriving DecidableEq, Repr

/-- A line that a running operation has read, with the cycle of the read. Lines taken from a crossing stand above the store's
16,384. -/
structure Captured where
  cycle : Nat
  line : Nat
  data : Bytes
  faults : List (Nat × WordFault)
deriving DecidableEq, Repr

/-- An operation that an engine runs (R108, R192): its entry, its last cycle, the cycle after which it does nothing more, the
lines it has read, the groups it has taken from a direct path, none where a feed fault lost one, how many lines it has
sent (R218), and the product whose residue an injection alters, with the amount (R555). -/
structure Flight where
  engine : Engine
  entry : QEntry
  last : Nat
  fin : Nat
  lines : List Captured
  groups : List (Nat × Option Bytes)
  sent : Nat
  alter : Option (Nat × Nat)
deriving DecidableEq, Repr

/-- Old contents of a range of the store that a write has replaced: the cycle of the write, the first cycles in which an
engine and a load of the control core see it (Table TL-5, R117), and the bytes and faults before it. -/
structure Undo where
  engine : Nat
  load : Nat
  off : Nat
  old : Bytes
  faults : List (Nat × WordFault)
deriving DecidableEq, Repr

/-- The direct paths of Table TL-5 and the engine queues (R108), occupancies (R192) and planned accesses of the stint. -/
structure Engines where
  cg : List QEntry
  vu : List QEntry
  sfu : List QEntry
  ix : List QEntry
  fu : List QEntry
  mv : List QEntry
  dg : List QEntry
  /-- First free cycle of: CG strips 0–7, then VU, SFU, IX, FU, MV channel 0, MV channel 1, DG. -/
  freeAt : List Nat
  /-- Operations in progress. -/
  flights : List Flight
  cgToVu : List PathGroup
  vuToSfu : List PathGroup
  sfuToVu : List PathGroup
  ixOut : List PathGroup
  mvToCg : List PathGroup
  /-- The cycle in progress has ended: its writes have been made. -/
  ended : Bool
  /-- Bank accesses of the control core in the present cycle and the next, as cycle and line (R114, R116). -/
  coreUse : List (Nat × Nat)
  /-- Words of the store that planned writes write in the cycle in progress, and narrow writes in the next, as cycle and word;
  true where the digests are still to see it (R117, R119). -/
  wrote : List (Nat × Nat × Bool)
  /-- Writes that some reader may not see yet, newest first. -/
  undo : List Undo
  /-- The record that a dg.take has taken and not yet written (R225). -/
  record : Bytes
  queueFullStalls : Nat
  latePeriods : Nat
  bankConflicts : Nat
  conflictPeriods : Nat
  lastFault : Nat
  lastFaultCycle : Nat
  lastFaultUnit : Nat
deriving DecidableEq, Repr

/-- Empty queues and paths. -/
def Engines.reset : Engines :=
  { cg := [], vu := [], sfu := [], ix := [], fu := [], mv := [], dg := [], freeAt := List.replicate 15 0, flights := []
    cgToVu := [], vuToSfu := [], sfuToVu := [], ixOut := [], mvToCg := [], ended := false, coreUse := [], wrote := []
    undo := [], record := [], queueFullStalls := 0, latePeriods := 0, bankConflicts := 0, conflictPeriods := 0
    lastFault := 0, lastFaultCycle := 0, lastFaultUnit := 0 }

/-- A tree of a directory (R230, R231). -/
structure TreeDir where
  header : Nat
  nodes : Nat
  output : Nat
deriving DecidableEq, Repr

/-- The forest unit's state (Table FR-1). -/
structure Forest where
  /-- Node records of the two halves, 64 bits each. -/
  nodes0 : List Nat
  nodes1 : List Nat
  dir0 : List TreeDir
  dir1 : List TreeDir
  /-- The feature rows, and their number and width. -/
  rows : List (List Val)
  r : Nat
  nf : Nat
  /-- The accumulator of row r and output o, at 16 r + o. -/
  accs : Sparse AccRec
  /-- Trees since the last CLEAR (R235). -/
  trees : Nat
deriving DecidableEq, Repr

/-- The empty forest unit (R228). -/
def Forest.reset : Forest := ⟨[], [], [], [], [], 0, 0, [], 0⟩

/-- An open digest slot (R222, R513, R514). -/
structure DigestSlot where
  base : Nat
  stride : Nat
  rows : Nat
  cols : Nat
  fmt : Nat
  tensorId : Nat
  canonBase : Nat
  canonPitch : Nat
  crc : Nat
  count : Nat
  rewrite : Bool
  /-- Lines of the region taken so far. -/
  lines : List Nat
deriving DecidableEq, Repr

/-- A line on the data mesh: when it was written into the crossing that holds it, the directions still to go, then the 128
bytes (R85, R218). Times are 408ths of a picosecond from the present beat edge. -/
structure MeshLine where
  written : Int
  route : List Nat
  data : Bytes
  faults : List (Nat × WordFault)
deriving DecidableEq, Repr

/-- A crossing (R84): its entries, oldest first, when each free place became free, and when the last line came in. -/
structure Crossing where
  lines : List MeshLine
  freed : List Int
  last : Int
deriving DecidableEq, Repr

/-- The earliest time that a crossing keeps: two beats before the present edge. -/
abbrev longAgo : Int := -3264000

/-- An empty crossing. -/
def Crossing.empty : Crossing := ⟨[], List.replicate 4 longAgo, longAgo⟩

/-- What a memory-queue request does (Table ME-5). -/
inductive MqOp where
  | read | write | gather | scatter | move
deriving DecidableEq, Repr

/-- How far a memory-queue request has come (R287 to R290, R537). -/
inductive MqPhase where
  /-- Waits for the slots left at its (source) channel. -/
  | access
  /-- A move whose source has been read waits for its destination's slots. -/
  | second
  /-- Needs the page decoder to finish a page (R537). -/
  | decode
  /-- Its lines are landing. -/
  | landing
  | complete
deriving DecidableEq, Repr

/-- An entry of the memory queue (R283 to R297). -/
structure MqEntry where
  /-- Posting order, over the whole device. -/
  id : Nat
  op : MqOp
  count : Nat
  /-- Source address of reads and moves, destination of writes; destination of a move. -/
  addr : Nat
  dest : Nat
  len : Nat
  /-- Tile-store byte offset of the row's first line. -/
  offset : Nat
  /-- The write payload, or the data read (R287, R292). -/
  data : Bytes
  /-- Words of the data that are in error, as fault records by word index (R532). -/
  faults : List (Nat × WordFault)
  /-- Service bound in beats and the BC of posting (R294, R296). -/
  bound : Nat
  posted : Nat
  phase : MqPhase
  /-- Slots still to be served in this phase. -/
  left : Nat
  /-- Lines still to be written into the store by the landing port. -/
  landing : Nat
  /-- It became complete after its bound (R296). -/
  late : Bool
  /-- Payload lines that have not yet left the port (R283). -/
  inPort : Nat
  /-- It needs the page code, and its bound is that of R538. -/
  paged : Bool
  /-- Words of a move's destination that the value of an unordered write keeps (R304). -/
  yielded : List Nat
deriving DecidableEq, Repr

/-- The memory queue of a tile (R283, Table ME-13). -/
structure MemQueue where
  entries : List MqEntry
  /-- The eight completion counts (R290). -/
  counts : List (BitVec 32)
  fullWaits : Nat
  boundOverruns : Nat
  landingFullPeriods : Nat
  lastFaultAddr : Nat
  /-- Lines that the memory port has moved into the tile in the present beat (R283). -/
  portIn : Nat
deriving DecidableEq, Repr

/-- The empty memory queue. -/
def MemQueue.reset : MemQueue := ⟨[], List.replicate 8 0, 0, 0, 0, 0, 0⟩

/-- What a landing in the landing buffer belongs to (R118). -/
inductive LandingKind where
  | mq (id : Nat)
  | link
  /-- A control-plane write: the last line of a write names what is told of its completion. -/
  | control (owes : Option Nat)
deriving DecidableEq, Repr

/-- Whether a landing comes over the memory port. -/
def LandingKind.isMq : LandingKind → Bool
  | .mq _ => true
  | _ => false

/-- A landing in the landing buffer: at most one line of the store (R118). -/
structure Landing where
  kind : LandingKind
  offset : Nat
  data : Bytes
  faults : List (Nat × WordFault)
deriving DecidableEq, Repr

/-- One tile. -/
structure Tile where
  clock : Clock
  core : Core
  eng : Engines
  forest : Forest
  digests : List (Option DigestSlot)
  mq : MemQueue
  /-- The landing buffer, at most 32, and the landings that the memory network or a link port still holds (R118, R298). -/
  landings : List Landing
  landingsHeld : List Landing
  /-- IMEM_ACTIVE and IMEM_SEALED (R121, R327). -/
  imemActive : Nat
  /-- Base bank: the physical bank that is plan bank 0 (R326). -/
  baseBank : Nat
  sealed0 : Bool
  sealed1 : Bool
  imemRefusals : Nat
  lastRefusedOffset : Nat
  lastRefusalSource : Nat
  /-- The 16 signal counts (R424, Table SY-13). -/
  signals : List (BitVec 32)
  /-- For each physical bank: its instruction 0 is still the stint-end action of reset (R122). -/
  endOnly : List Bool
deriving DecidableEq, Repr

/-- Landings that are held enter the landing buffer as far as it has room, those of the memory queue at most 4 lines a beat
(R118, R283, R298). -/
def Tile.takeHeld (x : Tile) : Tile :=
  let r := x.landingsHeld.foldl (fun (acc : List Landing × List Landing × Nat) l =>
    if acc.1.length < 32 ∧ (!l.kind.isMq ∨ acc.2.2 < 4) then (acc.1 ++ [l], acc.2.1, acc.2.2 + (if l.kind.isMq then 1 else 0))
    else (acc.1, acc.2.1 ++ [l], acc.2.2)) (x.landings, [], x.mq.portIn)
  { x with landings := r.1, landingsHeld := r.2.1, mq := { x.mq with portIn := r.2.2 } }

/-- Payload lines of writes leave the port, oldest write first, `n` in a beat (R283). -/
def drainPort : Nat → List MqEntry → List MqEntry
  | _, [] => []
  | n, e :: t => (let k := min n e.inPort; { e with inPort := e.inPort - k } :: drainPort (n - k) t)

/-- The memory port at a beat edge: 4 lines in each direction (R283). -/
def Tile.portBeat (x : Tile) : Tile :=
  Tile.takeHeld { x with mq := { x.mq with portIn := 0, entries := drainPort 4 x.mq.entries } }

/-- One tile after reset: bank 0 active and sealed in every tile (R122, Table PI-16). -/
def Tile.reset : Tile :=
  { clock := .reset, core := .reset, eng := .reset, forest := .reset, digests := List.replicate 8 none, mq := .reset,
    landings := [], landingsHeld := [], imemActive := 0, baseBank := 0, sealed0 := true, sealed1 := false, imemRefusals := 0
    lastRefusedOffset := 0, lastRefusalSource := 0, signals := List.replicate 16 0, endOnly := [true, true] }

end Sys2Proof.Machine
end

