-- ==== Sys2Proof/Parts/Weights.lean ====
section
/-!
DEFINITION. Weight batches of a partition (16), as plain data.
-/
namespace Sys2Proof.Machine

/-- A SHA-384 computation under way: its eight words, the bytes of an unfinished block, the bytes taken. -/
structure ShaState where
  words : List Nat
  pending : Bytes
  total : Nat
deriving DecidableEq, Repr

/-- The accepted WCONFIG record (Table WT-2). -/
structure WConfig where
  regions : Nat
  guard : Bool
  wptrOffset : Nat
  wptrGroups : Nat
  manifestAddr : List Nat
  /-- Address and length of each region, of batch 0 then of batch 1. -/
  table : List (List (Nat × Nat))
deriving DecidableEq, Repr

/-- An open chunk (R490). -/
structure OpenChunk where
  chunk : Nat
  next : Nat
  hash : ShaState
  /-- A mirror write has been part of it (Table WT-6). -/
  mirrored : Bool
deriving DecidableEq, Repr

/-- A weight batch (Table WT-1). -/
structure Batch where
  state : Nat
  /-- The manifest received so far; all of it from RECEIVING on. -/
  manifest : Bytes
  digest : Bytes
  version : Nat
  matched : List Nat
  chunks : List OpenChunk
deriving DecidableEq, Repr

/-- An empty batch. -/
def Batch.reset : Batch := ⟨0, [], [], 0, [], []⟩

/-- A mirror load under way (R491). -/
structure MirrorJob where
  id : Nat
  fn : Nat
  batch : Nat
  dest : Nat
  regions : List (Nat × Nat)
  flows : Nat
  /-- The next chunk to start, and the chunks still to start. -/
  next : Nat
  todo : Nat
  /-- Chunks in flight: index, bytes sent, packets unanswered, failed. -/
  flight : List (Nat × Nat × Nat × Bool)
  confirmed : Nat
  firstFailed : Nat
deriving DecidableEq, Repr

/-- Weight state of a partition (16). -/
structure Weights where
  config : Option WConfig
  batches : List Batch
  armPbc : Nat
  lastStatus : Nat
  keys : List Bytes
  mirrors : List MirrorJob
  /-- The region stop of a switch has begun (R498). -/
  switching : Bool
deriving DecidableEq, Repr

/-- No weights. -/
def Weights.reset : Weights := ⟨none, [.reset, .reset], 0, 0, List.replicate 16 [], [], false⟩

/-- Weight totals (Table WT-12) and WARM_LEAD. -/
structure WeightTotals where
  mismatches : Nat
  signatureFails : Nat
  refusals : Nat
  switches : Nat
  bytesHashed : Nat
  warmLead : Nat
deriving DecidableEq, Repr

/-- These at their defaults. -/
def WeightTotals.reset : WeightTotals := ⟨0, 0, 0, 0, 0, 262144⟩

end Sys2Proof.Machine
end

