-- ==== Sys2Proof/Machine/State.lean ====
section
/-!
DEFINITION. The state of the block, as plain data, and the state after reset.
-/
namespace Sys2Proof.Machine

/-- Everything a partition holds. -/
structure Part where
  /-- PART_GROUPS, a mask of 84 groups (Table PP-8). -/
  groups : Nat
  /-- Plan time (Table BT-6). -/
  time : PartTime
  /-- The loaded plan and its run (Table PI-13). -/
  plan : PlanState
  /-- Audit entries (Table DA-7). -/
  audit : Audit
  /-- FENCE_TAG (Table FB-8). -/
  fenceTag : Nat
  /-- Planned links, routes, tree, barriers, votes, bow, paths (Tables FB-8, SY-11). -/
  net : Net
  /-- Job objects of the host (R593, R594). -/
  job : JobObjects
  /-- Weight batches (Tables WT-10, WT-11). -/
  weights : Weights
  /-- The grant (Table PP-8). -/
  power : PartPower
  /-- The token-selection unit (Table SV-18). -/
  serving : Serving
  /-- Numbers of the PART_RESET commands that wait for empty memory queues (R595). -/
  resetAsked : List Nat
  /-- HBM_CHANNELS, a mask of 256 channels (Table ME-11). -/
  hbm : Nat
  /-- CAP_CHANNELS, a mask of 16 channels. -/
  cap : Nat
  /-- HBM_CP_SLOTS. -/
  hbmCp : Nat
  /-- CAP_CP_SLOTS. -/
  capCp : Nat
deriving DecidableEq, Repr

def Part.reset : Part := ⟨0, .reset, .reset, .reset, 0, .reset, .reset, .reset, .reset, .reset, [], 0, 0, 16, 12⟩

/-- Everything of the device but the fuse elements and the commands that wait. -/
structure Dev where
  /-- The timebase (Table BT-2). -/
  time : Timebase
  /-- STAGE and FAIL_CAUSE of HI_STATUS (Table HI-10). -/
  stage : Nat
  failCause : Nat
  /-- DEVICE_ID (Table MG-12). -/
  deviceId : Nat
  /-- A device-fatal error has occurred (R640). -/
  deviceFatal : Bool
  /-- The device has halted (R651). -/
  halted : Bool
  /-- FAULT_N is asserted (R640, R680). -/
  faultN : Bool
  /-- ENABLED_GROUPS, a mask of 84 groups (Table TL-7). -/
  enabledGroups : Nat
  /-- Table CK-6. -/
  clockCfg : ClockConfig
  /-- Table CK-7. -/
  clockTotals : ClockTotals
  /-- Table TL-8. -/
  tileTotals : TileTotals
  /-- The totals of chapters 05 to 09, 11 and 17. -/
  opTotals : OpTotals
  /-- What each principal selects (R95), by principal. -/
  select : Sparse Selections
  /-- The error log (Table ER-8). -/
  log : ErrLog
  /-- The dump (Table ER-10). -/
  dump : Dump
  /-- The last-gasp area of ND0 (R650). -/
  gasp : LastGasp
  /-- The 672 tiles; those at reset are not listed. -/
  tiles : Sparse Tile
  /-- Lines in the crossings of the data mesh, by boundary and direction (R84). -/
  crossings : Sparse Crossing
  /-- The 16 partitions. -/
  parts : Sparse Part
  /-- HBM, capacity tier, tile stores and instruction memories (Table ME-1), one byte for each address. -/
  mem : List Host.Cell
  /-- Ranges whose bytes are undefined until they are written again, whatever the list says (R323): the model's own. -/
  lost : List LostRange
  /-- Stored words in error, by word address (R529, R531). -/
  faults : Sparse WordFault
  /-- The 272 memory channels. -/
  channels : Sparse Channel
  /-- Control-plane accesses that wait, oldest first (R280). -/
  cp : List CpAccess
  /-- Planned landings in memory that wait for slots (R383). -/
  plannedLandings : List PlannedLanding
  /-- Scrubs under way (R548). -/
  scrubs : List ScrubJob
  /-- The model's own: numbers of accesses, requests and commands. -/
  accessSeq : Nat
  /-- Table ME-12. -/
  memTotals : MemTotals
  /-- Tables IN-8, IN-10, IN-11. -/
  integrity : Integrity
  /-- The 64 links. -/
  links : Sparse LinkState
  /-- The routers of both network dies (13). -/
  router : Router
  /-- Notices received and not yet acted on (R410). -/
  noticesIn : List NoticeIn
  /-- Tables SY-10, SY-12. -/
  sync : SyncTotals
  /-- The functions: the PF is 0, VF k is k + 1. -/
  fns : Sparse HostFn
  /-- Commands accepted and not answered, oldest first (R596). -/
  commands : List Cmd
  /-- Table HI-13. -/
  hostTotals : HostTotals
  /-- The PCIe link and NumVFs. -/
  pcie : Pcie
  /-- What the device has written to host memory: ring entries, shadows, bulk windows. -/
  hostMem : Sparse Byte
  /-- Table WT-12 and WARM_LEAD. -/
  weightTotals : WeightTotals
  /-- Table SV-19. -/
  serveTotals : ServeTotals
  /-- Power, thermal state and clearing (Tables PP-9 to PP-12). -/
  power : Power
  /-- The fuse block as read at the last start, with what has been programmed since (R576). -/
  fuses : Fuses
  /-- Tables MG-12 and MG-15 to MG-17. -/
  mgmt : Mgmt
  /-- Start-up and pins. -/
  boot : Boot
  /-- CAP_CHANNEL_GIB (Table ME-10). -/
  capGib : Nat
  /-- Groups with a fusing candidate (R574). -/
  fusing : List Nat
  /-- GRADE (Table PP-7). -/
  grade : Nat
  /-- FW_VERSION (Table HI-13). -/
  fwVersion : Nat
  /-- Firmware runs. -/
  fwRunning : Bool
  /-- The model's own: how many free values have been taken (assumption 6). -/
  free : Nat
  /-- What the last read of a register or entry returned: the model's own. -/
  readData : Bytes
deriving DecidableEq, Repr

/-- The stream carries a successor: SUCCESSOR of its header, once that has arrived (R329). -/
def ImageStream.successor (x : ImageStream) : Bool := bit (byteAt x.received 46) 0

/-- The fuses of the device modelled (assumption 8): a DV2-A640 as Example PP-2 ships it; its keys are free values. -/
def Fuses.shipped : Fuses :=
  { factoryGrade := 0, factoryBad := 2 ^ 7 + 2 ^ 30 + 2 ^ 51 + 2 ^ 66, fieldFused := 0
    keySlots := (List.range 4).map (fun i => leBytes 48 (Config.keySlot i)), revoked := 0, fwMinVersion := 0, serial := List.replicate 16 0
    mac := List.replicate 6 0, dies := List.replicate 6 (List.replicate 12 0, 1, 0, 0) }

/-- The device in reset with given fuses: every field at its reset value (R602, R603). -/
def Dev.fresh (f : Fuses) : Dev :=
  { time := .reset, stage := 0, failCause := 0, deviceId := 0xFFFFF, deviceFatal := false, halted := false, faultN := false
    enabledGroups := 0, clockCfg := .reset, clockTotals := .reset, tileTotals := .reset, opTotals := .reset, select := []
    log := .reset, dump := .reset, gasp := .reset, tiles := [], crossings := [], parts := [], mem := [], lost := [], faults := []
    channels := [], cp := [], plannedLandings := [], scrubs := [], accessSeq := 0, memTotals := .reset, integrity := .reset
    links := [], router := .reset, noticesIn := [], sync := .reset, fns := [], commands := [], hostTotals := .reset
    pcie := .reset, hostMem := [], weightTotals := .reset, serveTotals := .reset, power := .reset, fuses := f
    mgmt := .reset (sparePenalty f.spare), boot := .reset, capGib := 0, fusing := [], grade := 0xFF, fwVersion := 0
    fwRunning := false, free := 0, readData := [] }

/-- The whole block: the device, its fuse elements, and the commands that wait, first in, first out. The device keeps the
fuses as they were read at the last start, with what has been programmed since; the elements themselves change only by
FIELD_FUSE_PROGRAM. -/
structure State where
  dev : Dev
  otp : Fuses
  pending : List Instr
deriving DecidableEq, Repr

/-- The block in reset, with no command waiting (R603). -/
def State.reset : State := { dev := .fresh .shipped, otp := .shipped, pending := [] }

/-- Reasons to stop with a fault: none. A command that the spec turns away leaves the state unchanged or answers with an
error code of the block, and the block goes on. -/
inductive Fault where
deriving DecidableEq, Repr

/-- Reasons to refuse a command. -/
inductive Refusal where
  /-- A command without a meaning; safe, since nothing is said of it. No arm answers with it. -/
  | notModelled (mnemonic : String)
deriving DecidableEq, Repr

end Sys2Proof.Machine
end

