-- ==== Sys2Proof/Machine/Access.lean ====
section
/-!
DEFINITION. Reading and writing the parts of the state: tiles, partitions, channels, plain bytes, free values.
-/
namespace Sys2Proof.Machine

/-- Tile `t`. -/
def Dev.tile (s : Dev) (t : Nat) : Tile := Sparse.get .reset s.tiles t
/-- Change tile `t`. -/
def Dev.updTile (s : Dev) (t : Nat) (f : Tile → Tile) : Dev :=
  { s with tiles := Sparse.update .reset s.tiles t f }
/-- Partition `k`. -/
def Dev.part (s : Dev) (k : Nat) : Part := Sparse.get .reset s.parts k
/-- Change partition `k`. -/
def Dev.updPart (s : Dev) (k : Nat) (f : Part → Part) : Dev :=
  { s with parts := Sparse.update .reset s.parts k f }
/-- Channel `c`: 0–255 HBM, 256–271 capacity tier. -/
def Dev.channel (s : Dev) (c : Nat) : Channel := Sparse.get .reset s.channels c
/-- Change channel `c`. -/
def Dev.updChannel (s : Dev) (c : Nat) (f : Channel → Channel) : Dev :=
  { s with channels := Sparse.update .reset s.channels c f }

/-- Change the control core of a tile. -/
def Tile.updCore (t : Tile) (f : Core → Core) : Tile := { t with core := f t.core }
/-- Change the engines of a tile. -/
def Tile.updEng (t : Tile) (f : Engines → Engines) : Tile := { t with eng := f t.eng }
/-- Change the clock of a tile. -/
def Tile.updClock (t : Tile) (f : Clock → Clock) : Tile := { t with clock := f t.clock }
/-- Change the memory queue of a tile. -/
def Tile.updMq (t : Tile) (f : MemQueue → MemQueue) : Tile := { t with mq := f t.mq }
/-- Change the control core of tile `t`. -/
def Dev.updCore (s : Dev) (t : Nat) (f : Core → Core) : Dev := s.updTile t (·.updCore f)
/-- Change the plan time of partition `k`. -/
def Dev.updTime (s : Dev) (k : Nat) (f : PartTime → PartTime) : Dev :=
  s.updPart k (fun p => { p with time := f p.time })
/-- Change the plan state of partition `k`. -/
def Dev.updPlan (s : Dev) (k : Nat) (f : PlanState → PlanState) : Dev :=
  s.updPart k (fun p => { p with plan := f p.plan })

/-- The row and column of a tile (R96). -/
def tileRow (t : Nat) : Nat := t / 24
/-- The column of a tile (R96). -/
def tileCol (t : Nat) : Nat := t % 24
/-- The group of a tile (R97). -/
def tileGroup (t : Nat) : Nat := 6 * (tileRow t / 2) + tileCol t / 4
/-- The position of a tile in its group (R97). -/
def tilePos (t : Nat) : Nat := 4 * (tileRow t % 2) + tileCol t % 4
/-- The compute die of a tile (R96). -/
def tileDie (t : Nat) : Nat := 2 * (tileRow t / 14) + tileCol t / 12
/-- The eight tiles of a group (R97). -/
def groupTiles (g : Nat) : List Nat :=
  (List.range 8).map (fun p => 24 * (2 * (g / 6) + p / 4) + 4 * (g % 6) + p % 4)
/-- Whether a group is enabled (R98). -/
def Dev.groupEnabled (s : Dev) (g : Nat) : Bool := g < 84 && bit s.enabledGroups g
/-- Whether a tile is enabled (R98). -/
def Dev.tileEnabled (s : Dev) (t : Nat) : Bool := t < 672 && s.groupEnabled (tileGroup t)
/-- The enabled tile count (R98). -/
def Dev.enabledTiles (s : Dev) : Nat := 8 * ((List.range 84).filter s.groupEnabled).length
/-- The partition that holds a group. -/
def Dev.partOfGroup (s : Dev) (g : Nat) : Option Nat := (List.range 16).find? (fun k => bit (s.part k).groups g)
/-- The partition that owns a tile. -/
def Dev.partOfTile (s : Dev) (t : Nat) : Option Nat :=
  if t < 672 then s.partOfGroup (tileGroup t) else none
/-- The enabled tiles of a partition. -/
def Dev.partTiles (s : Dev) (k : Nat) : List Nat :=
  ((List.range 84).filter (fun g => bit (s.part k).groups g && s.groupEnabled g)).flatMap groupTiles
/-- The partition that holds a channel (R274, R278). -/
def Dev.partOfChannel (s : Dev) (c : Nat) : Option Nat :=
  (List.range 16).find? (fun k => if c < 256 then bit (s.part k).hbm c else bit (s.part k).cap (c - 256))

/-- Take a free value of `w` bits (assumption 6). -/
def Dev.takeFree (s : Dev) (w : Nat) : Nat × Dev :=
  (Config.freeValue s.free % 2 ^ w, { s with free := s.free + 1 })

/-- The byte stored at a device address; an unlisted byte reads 0 (assumption 7), and a byte that was lost is a free value
(assumption 6). -/
def Dev.byte (s : Dev) (a : Nat) : Byte :=
  match s.lost.find? (fun r => decide (r.lo ≤ a) && decide (a < r.hi)) with
  | some r => Config.lostByte r.key a
  | none => Sparse.get 0 s.mem a

/-- `n` bytes as stored, from address `a`. -/
def Dev.rawBytes (s : Dev) (a : Nat) : Nat → Bytes
  | 0 => []
  | n + 1 => s.byte a :: s.rawBytes (a + 1) n

/-- Write bytes into a memory list. -/
def putBytes : List Host.Cell → Nat → Bytes → List Host.Cell
  | m, _, [] => m
  | m, a, b :: t => putBytes (Sparse.set 0 m a b) (a + 1) t

/-- The bits of a mask below `n`. -/
def maskList (m n : Nat) : List Nat := (List.range n).filter (bit m)

/-- Lost ranges without the `n` bytes from `a`. -/
def cutLost (l : List LostRange) (a n : Nat) : List LostRange :=
  l.flatMap (fun r => [{ r with hi := min r.hi a }, { r with lo := max r.lo (a + n) }].filter (fun r => decide (r.lo < r.hi)))

/-- Store bytes from address `a`. -/
def Dev.store (s : Dev) (a : Nat) (b : Bytes) : Dev :=
  { s with mem := putBytes s.mem a b, lost := cutLost s.lost a b.length }

/-- The `n` bytes from `a` are lost (R323). -/
def loseRange (s : Dev) (a n : Nat) : Dev :=
  { s with lost := cutLost s.lost a n ++ [⟨a, a + n, s.free⟩], free := s.free + 1 }

/-- The columns h_0 to h_63 of the word code (R529). -/
def wordColumns : List Nat :=
  ((List.range 256).filter (fun v => ((List.range 8).filter (bit v)).length == 3))
    ++ [0x1F, 0x2F, 0x37, 0x3B, 0x3D, 0x3E, 0x4F, 0x57]

/-- The check bits of a word (R529). -/
def checkBits (w : Nat) : Nat :=
  ((wordColumns.zip (List.range 64)).filter (fun p => bit w p.2)).foldl (fun a p => a ^^^ p.1) 0

/-- The syndrome a fault gives: check bits are linear in the data (R530). -/
def WordFault.syndrome (f : WordFault) : Nat := f.check.toNat ^^^ checkBits f.data.toNat

/-- How the word checker classes a word (Table IN-1). -/
inductive WordClass where
  | clean
  | corrected (flip : Nat)
  | poisoned
  | uncorrectable
deriving DecidableEq, Repr

/-- The class of a word as stored, and the bits to invert when it is corrected (R530). -/
def wordClass (stored : Nat) (f : WordFault) : WordClass :=
  let sy := f.syndrome
  if sy = 0 then .clean
  else if sy = 0xFF ∧ stored = 0 then .poisoned
  else match wordColumns.findIdx? (· == sy) with
    | some i => .corrected (2 ^ i)
    | none => if (List.range 8).any (fun k => 2 ^ k == sy) then .corrected 0 else .uncorrectable

/-- Whether a class loses the word's value. -/
def WordClass.lost : WordClass → Bool
  | .poisoned | .uncorrectable => true
  | _ => false

/-- The fault of the word at word address `w`. -/
def Dev.fault (s : Dev) (w : Nat) : WordFault := Sparse.get .none s.faults w

/-- The word stored at word address `w`. -/
def Dev.rawWord (s : Dev) (w : Nat) : Nat := leNat (s.rawBytes (8 * w) 8)

/-- The class of the word at word address `w`. -/
def Dev.wordClassAt (s : Dev) (w : Nat) : WordClass := wordClass (s.rawWord w) (s.fault w)

/-- The word as a checker delivers it: corrected where the code can (R530). -/
def Dev.goodWord (s : Dev) (w : Nat) : Nat :=
  match s.wordClassAt w with
  | .corrected m => s.rawWord w ^^^ m
  | _ => s.rawWord w

/-- The word addresses that `n` bytes from `a` touch. -/
def wordSpan (a n : Nat) : List Nat := if n = 0 then [] else List.range' (a / 8) ((a + n - 1) / 8 - a / 8 + 1)

/-- Faulty words that `n` bytes from `a` touch: the ones any reader must look at. -/
def Dev.faultySpan (s : Dev) (a n : Nat) : List Nat :=
  (s.faults.map (·.1)).filter (fun w => a / 8 ≤ w && w ≤ (a + n - 1) / 8 && 0 < n)

/-- `n` bytes from address `a`, corrected. -/
def Dev.bytesAt (s : Dev) (a n : Nat) : Bytes :=
  if (s.faultySpan a n).isEmpty then s.rawBytes a n
  else ((wordSpan a n).flatMap (fun w => leBytes 8 (s.goodWord w))).drop (a % 8) |>.take n

/-- The device address of a tile store's byte (R113). -/
def storeAddr (t off : Nat) : Nat := 0x080000000000 + 0x200000 * t + off
/-- The device address of an instruction-memory byte of a physical bank (Table ME-1). -/
def imemAddr (t bank off : Nat) : Nat := 0x090000000000 + 0x20000 * t + 0x10000 * bank + off

/-- The step counter, the stint length and the planned cycles per beat of a partition. -/
def Dev.cyclesPerBeat (s : Dev) (k : Nat) : Nat := Config.cyclesPerBeat (s.part k).time.opCurrent

/-- The plan a partition holds. -/
def Dev.planOf (s : Dev) (k : Nat) : Option Plan := (s.part k).plan.plan

/-- The stint record in progress. -/
def PlanState.stint (p : PlanState) : StintRec :=
  match p.plan with
  | some q => q.stints.getD p.stintIx ⟨16, false, 0⟩
  | none => ⟨16, false, 0⟩

/-- The step record in progress. -/
def PlanState.step (p : PlanState) : StepRec :=
  match p.plan with
  | some q => q.steps.getD p.stepIx ⟨1, true, false, false, 1, 0, 0, 0⟩
  | none => ⟨1, true, false, false, 1, 0, 0, 0⟩

/-- c × L of the stint in progress (R50). -/
def Dev.stintCycles (s : Dev) (k : Nat) : Nat := s.cyclesPerBeat k * (s.part k).plan.stint.length

/-- Whether the planned cycles of a partition run: not stopped, not frozen, not in a region stop. -/
def Dev.running (s : Dev) (k : Nat) : Bool :=
  (s.part k).time.mode == .running && (s.part k).plan.stopFrom.isNone && !(s.part k).plan.stopDue
    && (s.part k).plan.state == 3

/-- A function: 0 the PF, k + 1 VF k (R583). -/
def Dev.fn (s : Dev) (f : Nat) : HostFn := Sparse.get .reset s.fns f
/-- LENGTH of an entry with this body (R597). -/
def entryLength (body : Bytes) : Nat := 16 * ceilDiv (16 + body.length) 16
/-- Bytes of a function's backlog in use (R599). -/
def HostFn.backlogBytes (x : HostFn) : Nat :=
  x.backlog.foldl (fun n w => n + (if w.count = 0 then entryLength w.body else 0)) 0

/-- HI_STATUS (Table HI-3). -/
def Dev.hiStatus (s : Dev) (f : Nat) : Nat :=
  let x := s.fn f
  let blocked := !x.window.isEmpty && decide (2 ^ 20 < x.backlogBytes + 48 * (x.owed + 1))
  s.stage + 16 * s.failCause + 4096 * boolNat (s.stage == 8) + 8192 * boolNat (s.time.sync == 2) + 16384 * boolNat blocked
    + 65536 * (s.hostTotals.bootAttempts % 256)

/-- Slots of a read: sectors touched (Table ME-4). -/
def readCost (a n : Nat) : Nat := if n = 0 then 0 else (a + n - 1) / 64 - a / 64 + 1

/-- Slots of a write: page by page, 33 or 2 s + 2 (Table ME-4). -/
def writeCostAux : Nat → Nat → Nat → Nat
  | 0, _, _ => 0
  | f + 1, a, n =>
    if n = 0 then 0 else
    let k := min (2048 - a % 2048) n
    (if k = 2048 then 33 else 2 * readCost a k + 2) + writeCostAux f (a + k) (n - k)
/-- Slots of a write (Table ME-4). -/
def writeCost (a n : Nat) : Nat := writeCostAux (n / 2048 + 2) a n

end Sys2Proof.Machine
end

