-- ==== Sys2Proof/Machine/Health.lean ====
section
/-!
DEFINITION. The health score (21): incidents, penalties, evaluations, advice.
-/
namespace Sys2Proof.Machine

/-- Change the management state. -/
def Dev.updMgmt (s : Dev) (f : Mgmt → Mgmt) : Dev := { s with mgmt := f s.mgmt }

/-- INCIDENT_BEATS (Table MG-16). -/
def incidentBeats : Nat := 16777216
/-- SCORE_PERIOD (Table MG-16). -/
def scorePeriod : Nat := 268435456

/-- Weight of a cause (Table MG-13). -/
def causeWeight (c : Nat) : Nat := [150, 200, 100, 10, 50, 40, 20, 300].getD c 0
/-- Cap of a cause's penalty (Table MG-13). -/
def causeCap (c : Nat) : Nat := [300, 400, 300, 150, 200, 120, 200, 600].getD c 0

/-- Add a cause's weight to its penalty, up to the cap (R632). -/
def Mgmt.penalise (m : Mgmt) (c : Nat) : Mgmt :=
  { m with penalties := m.penalties.set c (min (causeCap c) (m.penalties.getD c 0 + causeWeight c)) }

/-- A scored event of a cause at a BC: it falls into the open incident, where each cause counts once, or begins one (R632). -/
def Mgmt.scored (m : Mgmt) (c bc : Nat) : Mgmt :=
  let within := match m.lastBc with | some b => decide (bc < b + incidentBeats) | none => false
  if within then
    if bit m.lastCauses c then m else { m.penalise c with lastCauses := setBit m.lastCauses c true }
  else { m.penalise c with lastBc := some bc, lastCauses := 2 ^ c, incidents := bc :: m.incidents }

/-- The causes that a log entry scores (Table MG-13). A THERMAL entry is scored where the state is entered. -/
def LogEntry.causes (e : LogEntry) : List Nat :=
  let kind := byteAt e.detail 1
  (if e.cls = 3 then [7] else [])
    ++ (if e.origin = 2 ∧ e.cls = 1 then [0] else [])
    ++ (if e.origin = 17 ∧ e.event = 540 then [1] else [])
    ++ (if e.origin = 17 ∧ (e.event = 530 ∨ e.event = 533 ∨ e.event = 537) ∧ (kind = 2 ∨ kind = 3 ∨ kind = 5) then [2] else [])
    ++ (if e.origin = 17 ∧ (e.event = 557 ∨ (e.event = 537 ∧ kind = 4)) then [3] else [])
    ++ (if e.origin = 11 ∧ e.event = 369 then [4] else [])
    ++ (if e.origin = 1 ∧ e.event = 41 then [5] else [])

/-- Feed a logged event to the health score (R643). -/
def scoreEntry (s : Dev) (e : LogEntry) : Dev := s.updMgmt (fun m => e.causes.foldl (fun m c => m.scored c e.bc) m)

/-- HEALTH_ADVICE after an evaluation (R634). -/
def nextAdvice (m : Mgmt) (score : Nat) : Nat :=
  if score < m.expel then 2
  else match m.advice with
    | 2 => if m.expel + m.hysteresis ≤ score then 1 else 2
    | 0 => if score < m.watch then 1 else 0
    | _ => if m.watch + m.hysteresis ≤ score then 0 else 1

/-- An evaluation (R633). -/
def Mgmt.evaluate (m : Mgmt) (bc spare : Nat) : Mgmt :=
  let raw := 1000 - (m.penalties.foldl (· + ·) 0 + sparePenalty spare)
  let recent := m.incidents.filter (fun b => bc < b + m.window * scorePeriod)
  let score := if m.minIncidents ≤ recent.length then raw else max raw m.expel
  { m with raw := raw, inWindow := recent.length, incidents := recent, score := score, advice := nextAdvice m score
           lastEval := bc, penalties := m.penalties.map (· - 1) }

/-- HEALTH_RESTORE (R635): penalties at least as restored, and the restored incidents as incidents of this BC. -/
def Mgmt.restore (m : Mgmt) (d : Bytes) (bc : Nat) : Mgmt :=
  { m with
    penalties := (List.range 8).map (fun i => max (m.penalties.getD i 0) (leAt d (2 * i) 2))
    incidents := List.replicate (leAt d 16 2) bc ++ m.incidents }

/-- Whether bytes lie in the range of HEALTH_RESTORE: each penalty within its cap (Table MG-15). -/
def restoreInRange (d : Bytes) : Bool := (List.range 8).all (fun i => leAt d (2 * i) 2 ≤ causeCap i)

/-- HEALTH_STATE (Table MG-15). -/
def Mgmt.stateBytes (m : Mgmt) : Bytes :=
  (List.range 8).flatMap (fun i => leBytes 2 (m.penalties.getD i 0)) ++ leBytes 2 m.inWindow

end Sys2Proof.Machine
end

