-- ==== Sys2Proof/Machine/OapFrame.lean ====
section
/-!
DEFINITION. Frames of the Object Access Protocol (21) and the NOTIFY frame.
-/
namespace Sys2Proof.Machine

/-- Bytes padded with zeros to a multiple of 8. -/
def pad8 (d : Bytes) : Bytes := padTo (8 * ceilDiv d.length 8) d

/-- An item of a response (Table MG-6). -/
def oapItem (idx sub ty status mode : Nat) (value : Bytes) : Bytes :=
  leBytes 2 idx ++ leBytes 1 sub ++ leBytes 1 ty ++ leBytes 2 value.length ++ leBytes 1 status ++ leBytes 1 mode ++ pad8 value

/-- A frame of the device (Table MG-5). -/
def oapFrame (opcode request : Nat) (items : List Bytes) (status vmin vmax bc : Nat) : Bytes :=
  let body := items.flatten
  leBytes 2 0x414F ++ leBytes 1 0x10 ++ leBytes 1 opcode ++ leBytes 4 request ++ leBytes 2 items.length
    ++ leBytes 2 (24 + body.length) ++ leBytes 1 status ++ zeros 1 ++ leBytes 1 vmin ++ leBytes 1 vmax ++ leBytes 8 bc ++ body

/-- UDP port 50611 (R624), as two bytes. -/
def oapPort : Bytes := leBytes 2 50611

/-- A NOTIFY frame goes to NOTIFY_TARGET, unless that is zero (R627). -/
def notify (s : Dev) : Dev :=
  if s.mgmt.notifyTarget.all (· == 0) then s else
  let items := [oapItem 0x6000 1 3 0 0 (leBytes 2 s.mgmt.score), oapItem 0x6000 2 2 0 0 (leBytes 1 s.mgmt.advice),
    oapItem 0x6000 6 2 0 0 (leBytes 1 s.mgmt.lastCauses), oapItem 0x1040 3 2 0 0 (leBytes 1 s.stage)]
  s.updMgmt (fun m => { m with
    notifyCount := (m.notifyCount + 1) % 2 ^ 32
    sent := some (m.notifyTarget ++ oapPort, oapFrame 0x04 m.notifyCount items 0 0 0 s.time.bc) })

/-- HEALTH_EVALUATION (R633, R634): at an edge at which BC is a multiple of SCORE_PERIOD; a thermal cause adds again while
THERMAL_STATE is 2 or 3 (R632). A change of HEALTH_ADVICE is notified (R627). -/
def healthEvaluation (s : Dev) : Dev :=
  if s.time.bc % scorePeriod ≠ 0 ∨ s.mgmt.lastEval = s.time.bc ∨ ¬ s.fwRunning ∨ s.halted then s else
  let was := s.mgmt.advice
  let s := s.updMgmt (fun m => (if 2 ≤ s.power.thermalState then m.penalise 6 else m).evaluate s.time.bc s.boot.spare)
  if s.mgmt.advice = was then s else notify s

/-- HEALTH_RESTORE (R635). -/
def healthRestore (s : Dev) (d : Bytes) : Bool × Dev :=
  if d.length = 18 && restoreInRange d then (true, s.updMgmt (·.restore d s.time.bc)) else (false, s)

end Sys2Proof.Machine
end

