-- ==== Sys2Proof/Machine/Errors.lean ====
section
/-!
DEFINITION. Raising an error (22): the log entry, its counts, the stops it asks for, and the last-gasp record.
-/
namespace Sys2Proof.Machine

/-- The bytes of a log entry (Table ER-2). -/
def LogEntry.toBytes (e : LogEntry) : Bytes :=
  leBytes 4 e.seq ++ leBytes 1 e.cls ++ leBytes 1 e.origin ++ leBytes 2 e.event ++ leBytes 8 e.bc ++ leBytes 8 e.pbc
    ++ leBytes 1 (e.part.getD 0xFF)
    ++ leBytes 1 (boolNat e.nested + 2 * boolNat e.escalated + 4 * boolNat e.unsync + 8 * boolNat e.rep)
    ++ leBytes 2 (e.tile.getD 0xFFFF) ++ leBytes 2 e.fence ++ zeros 2 ++ leBytes 4 (e.causeSeq.getD 0xFFFFFFFF)
    ++ leBytes 4 e.repeats ++ zeros 8 ++ padTo 16 e.detail

/-- The log entry with a SEQ. -/
def ErrLog.find (l : ErrLog) (seq : Nat) : Option LogEntry := l.entries.find? (·.seq == seq)

/-- The class of the entry in handling; none when nothing is pending (R644). -/
def ErrLog.handling (l : ErrLog) : Option LogEntry := l.queue.head?.bind l.find

/-- Of entries in the order of handling, the first, and behind each escalated one the one that it overtook (R647). -/
def ErrLog.overtaken (l : ErrLog) : List Nat → List Nat
  | [] => []
  | h :: t => h :: (if (l.find h).any (·.escalated) then l.overtaken t else [])

/-- Entries suspended or in handling (R648). -/
def ErrLog.protectedSeqs (l : ErrLog) : List Nat := l.overtaken l.queue

/-- Keep the 64 most recent entries, never dropping a pending one while a retired one is left (R641, R648). -/
def ErrLog.trim (l : ErrLog) : ErrLog :=
  if l.entries.length ≤ 64 then l
  else
    match (l.entries.reverse.find? (fun e => !l.queue.contains e.seq)) with
    | some e => { l with entries := l.entries.filter (·.seq != e.seq) }
    | none => { l with entries := l.entries.take 64 }

/-- Put an entry into the log and into the order of handling (R641, R646, R647). -/
def ErrLog.push (l : ErrLog) (e : LogEntry) : ErrLog :=
  let q := if e.escalated then e.seq :: l.queue else l.queue ++ [e.seq]
  ErrLog.trim { l with entries := e :: l.entries, queue := q, lastSeq := e.seq }

/-- The newest pending corrected entry that may be displaced (R648). -/
def ErrLog.victim (l : ErrLog) : Option LogEntry :=
  l.entries.find? (fun e => e.cls == 0 && l.queue.contains e.seq && !(l.protectedSeqs.contains e.seq))

/-- Record a logged error: NESTED, ESCALATED and CAUSE_SEQ, the counters, and a full log (R641 to R648). The second
component tells that the error became device-fatal because the log was full. -/
def ErrLog.record (l : ErrLog) (e0 : LogEntry) : ErrLog × Bool :=
  let cur := l.handling
  let nested := !l.queue.isEmpty
  let esc := nested && (match cur with | some c => decide (c.cls < e0.cls) | none => false)
  let e := { e0 with seq := l.lastSeq + 1, nested := nested, escalated := esc, causeSeq := l.queue.head? }
  let l := { l with
    nestedErrors := l.nestedErrors + boolNat nested
    escalations := l.escalations + boolNat esc
    correctedLogged := l.correctedLogged + boolNat (e.cls == 0)
    contained := l.contained + boolNat (e.cls == 1)
    jobFatal := l.jobFatal + boolNat (e.cls == 2)
    deviceFatal := l.deviceFatal + boolNat (e.cls == 3) }
  if l.queue.length < 64 then (l.push e, false)
  else if e.cls = 0 then ({ l with overflows := l.overflows + 1 }, false)
  else match l.victim with
    | some v =>
      let l := { l with entries := l.entries.filter (·.seq != v.seq), queue := l.queue.filter (· != v.seq),
                        overflows := l.overflows + 1 }
      (l.push e, false)
    | none =>
      ({ l with deviceFatal := l.deviceFatal + boolNat (e.cls != 3), escalations := l.escalations + boolNat (!esc),
                headerEntry := some { e with seq := 0, cls := 3, escalated := true, event := 640 } }, true)

/-- The planned-cycle detail of tile and control-core events (R642). -/
def tileDetail (cycle unit loc : Nat) : Bytes := leBytes 4 cycle ++ leBytes 1 unit ++ zeros 3 ++ leBytes 8 loc

/-- The detail of hold-limit and horizon events (R642). -/
def holdDetail (pbc origin cause : Nat) : Bytes := leBytes 8 pbc ++ leBytes 4 origin ++ leBytes 1 cause ++ zeros 3

/-- The detail of link and fabric events (R642). -/
def linkDetail (link cause peer : Nat) : Bytes := leBytes 1 link ++ leBytes 1 cause ++ zeros 6 ++ leBytes 4 peer ++ zeros 4

/-- The integrity detail (Table IN-7). -/
def integrityDetail (source kind syndrome : Nat) (part tile : Option Nat) (unit loc : Nat) : Bytes :=
  leBytes 1 source ++ leBytes 1 kind ++ leBytes 1 syndrome ++ leBytes 1 (part.getD 0xFF)
    ++ leBytes 2 (tile.getD 0xFFFF) ++ leBytes 2 unit ++ leBytes 8 loc

/-- The last-gasp record (Table ER-3). -/
def gaspRecord (s : Dev) (cls : Nat) (dumping : Bool) (halt trigger : Option LogEntry) : Bytes :=
  let entry (o : Option LogEntry) : Bytes := match o with | some e => e.toBytes | none => zeros 64
  let log := s.log.entries.take 48
  let body := leBytes 4 0x47565045 ++ leBytes 2 1 ++ leBytes 1 cls ++ leBytes 1 (boolNat dumping)
    ++ leBytes 8 s.time.bc ++ leBytes 8 s.dump.written ++ leBytes 4 log.length ++ leBytes 4 (s.deviceId % 2 ^ 20)
    ++ padTo 16 s.fuses.serial ++ leBytes 4 s.fwVersion ++ zeros 76 ++ entry halt ++ entry trigger
    ++ padTo 3072 (log.flatMap LogEntry.toBytes)
    ++ (List.range 4).flatMap (fun i => leBytes 64 (Config.coreState i s.free)) ++ zeros 504
  body ++ leBytes 8 (crc64 body)

/-- The sequencer writes a last-gasp record and, after a dump it ended, the device halts (R650, R651): the firmware
cores stop, every link goes down with cause 5 and FAULT_N stays asserted. Links go down in `haltLinks` (12). -/
def writeGasp (s : Dev) (cls : Nat) (halt trigger : Option LogEntry) (halts : Bool) : Dev :=
  { s with
    gasp := { s.gasp with area := gaspRecord s cls (s.dump.state == 1) halt trigger }
    free := s.free + 1
    boot := if halts ∧ ¬ s.halted then { s.boot with frozen := (List.range 17).map s.hiStatus } else s.boot
    halted := s.halted || halts
    faultN := s.faultN || halts }

/-- Ask every partition that runs to stop at the next beat edge (R638, R640). -/
def stopAll (s : Dev) : Dev :=
  (List.range 16).foldl (fun s k =>
    if (s.part k).time.mode = .stopped then s else s.updTime k (fun p => { p with stopPending := true })) s

/-- Whether stage MEM_TRAIN has ended: later stages, and FAILED by the self-test (R640). -/
def Dev.memTrained (s : Dev) : Bool := decide (6 ≤ s.stage) && decide (s.stage ≤ 8) || (s.stage == 9 && s.failCause == 8)

/-- The device-fatal state: every partition stops, commands are refused; before the end of MEM_TRAIN a last-gasp record
is written and the device enters FAILED with cause 9 (R640), which firmware publishes and notifies (R627, R650). No dump was
under way, so TRIGGER_ENTRY is zeros. -/
def enterDeviceFatal (s : Dev) (e : Option LogEntry) : Dev :=
  let s := stopAll { s with deviceFatal := true, dump := (if s.dump.trigger.isNone && !s.deviceFatal then
      { s.dump with trigger := e, fromHeader := s.log.headerEntry.isSome, bc := s.time.bc } else s.dump) }
  if ¬ s.memTrained ∧ s.stage ≠ 0 then
    let s := writeGasp s 3 e none false
    let s := { s with stage := 9, failCause := 9, faultN := true }
    if s.fwRunning then notify { s with gasp := { s.gasp with valid := true, bc := s.time.bc } } else s
  else s

/-- Raise an error of class `cls` that chapter `origin` defines in rule `event`, owned by `part`, at `tile` (R637 to
R649). Nothing changes once the device has halted. -/
def raise (s : Dev) (cls origin event : Nat) (part tile : Option Nat) (detail : Bytes) : Dev :=
  if s.halted then s else
  let stoppedAlready := match part with | some k => (s.part k).time.mode == .stopped | none => false
  let e : LogEntry := {
    seq := 0, cls := cls, origin := origin, event := event, bc := s.time.bc,
    pbc := (match part with | some k => (s.part k).time.pbc | none => 0), part := part, nested := false,
    escalated := false, unsync := s.time.sync != 2, rep := cls != 0 && stoppedAlready, tile := tile,
    fence := (match part with | some k => (s.part k).fenceTag | none => 0), causeSeq := none, repeats := 1,
    detail := detail }
  let r := s.log.record e
  let s := { s with log := r.1 }
  let logged := s.log.entries.head?
  if s.dump.state = 1 ∧ cls ≠ 0 then
    writeGasp s (if r.2 then 3 else cls) (if r.2 then s.log.headerEntry else logged) s.dump.trigger true
  else
    let s := if (cls = 1 ∨ cls = 2) ∧ ¬ stoppedAlready then
        (match part with
         | some k => s.updTime k (fun p => { p with stopPending := true })
         | none => s)
      else s
    if cls = 3 ∨ r.2 then enterDeviceFatal s (if r.2 then s.log.headerEntry else logged) else s

/-- A contained error of a tile, or a corrected one where the tile belongs to no partition (R83, R129). -/
def raiseTile (s : Dev) (origin event t : Nat) (detail : Bytes) : Dev :=
  match s.partOfTile t with
  | some k => raise s 1 origin event (some k) (some t) detail
  | none => raise s 0 origin event none (some t) detail

/-- A group becomes a pending fuse (R574); one that is fused or pending already adds nothing. -/
def fusingGroup (s : Dev) (g : Nat) : Dev :=
  if s.fusing.contains g || bit s.fuses.fieldFused g || bit s.fuses.factoryBad g then s
  else { s with fusing := s.fusing ++ [g], power := { s.power with fuseCandidates := s.power.fuseCandidates + 1 } }

/-- Report a tile as a fusing candidate (R574). -/
def fusingCandidate (s : Dev) (t : Nat) : Dev := fusingGroup s (tileGroup t)

/-- The coalesced corrected-rate count of a tile: one entry per epoch at the threshold (R557). -/
def countTileCorrected (s : Dev) (t n : Nat) (imem : Bool) : Dev :=
  if n = 0 then s else
  let c := Sparse.get 0 s.integrity.tileCorrected t + n
  let s := { s with integrity := { s.integrity with
    tsCorrected := s.integrity.tsCorrected + (if imem then 0 else n)
    imemCorrected := s.integrity.imemCorrected + (if imem then n else 0)
    tileCorrected := Sparse.set 0 s.integrity.tileCorrected t c } }
  if s.integrity.logThreshold ≤ c ∧ ¬ s.integrity.tileLogged.contains t then
    let s := { s with integrity := { s.integrity with tileLogged := t :: s.integrity.tileLogged } }
    raise s 0 17 557 (s.partOfTile t) (some t)
      (integrityDetail (if imem then 2 else 1) 1 0 (s.partOfTile t) (some t) 0 0)
  else s

end Sys2Proof.Machine
end

