-- ==== Sys2Proof/Machine/Store.lean ====
section
/-!
DEFINITION. Writing stored words with their check bits (18): tile stores, instruction memories, HBM and capacity tier.
-/
namespace Sys2Proof.Machine

/-- Change the integrity state. -/
def Dev.updIn (s : Dev) (f : Integrity → Integrity) : Dev := { s with integrity := f s.integrity }

/-- Poison: data 0 and every check bit in error (R531). -/
def WordFault.poison : WordFault := ⟨0, 0xFF⟩

/-- Store one whole word with its fault; an armed word injection at this word is applied (R555). -/
def writeWord (s : Dev) (w v : Nat) (f : WordFault) : Dev :=
  if s.integrity.injectState = 1 ∧ s.integrity.injectTarget ≠ 5 ∧ s.integrity.injectAddr / 8 = w then
    let m := s.integrity.injectMask
    let d := BitVec.ofNat 64 m
    let s := s.updIn (fun i => { i with injectState := 2 })
    { s.store (8 * w) (leBytes 8 (v ^^^ d.toNat)) with
        faults := Sparse.set .none s.faults w ⟨f.data ^^^ d, f.check ^^^ BitVec.ofNat 8 (m / 2 ^ 64)⟩ }
  else
    { s.store (8 * w) (leBytes 8 v) with faults := Sparse.set .none s.faults w f }

/-- The bytes of a range become undefined: free values, one taking for the range (assumption 6). -/
def freeRange (s : Dev) (a n : Nat) : Dev :=
  let f := s.takeFree (8 * n)
  f.2.store a (leBytes n f.1)

/-- The fault listed for a word index; none where no fault is listed. -/
def faultOf (l : List (Nat × WordFault)) (i : Nat) : WordFault := Sparse.get .none l i

/-- Store whole words from word address `w`, with the faults that travel with them (R532). -/
def writeWords : Dev → Nat → Nat → Bytes → List (Nat × WordFault) → Dev
  | s, _, _, [], _ => s
  | s, w, i, b0 :: b1 :: b2 :: b3 :: b4 :: b5 :: b6 :: b7 :: t, fl =>
    writeWords (writeWord s w (leNat [b0, b1, b2, b3, b4, b5, b6, b7]) (faultOf fl i)) (w + 1) (i + 1) t fl
  | s, w, i, l, fl => writeWord s w (leNat (padTo 8 l)) (faultOf fl i)

/-- The faults of `n` bytes from word-aligned address `a`, by word index (R532). -/
def Dev.faultsAt (s : Dev) (a n : Nat) : List (Nat × WordFault) :=
  (s.faultySpan a n).map (fun w => (w - a / 8, s.fault w))

/-- What a poison write logs (R543, R557). -/
def poisonWrite (s : Dev) (src : Nat) (part tile : Option Nat) (unit w : Nat) : Dev :=
  let s := s.updIn (fun i => { i with poisonWrites := i.poisonWrites + 1 })
  raise s 0 17 543 part tile (integrityDetail src 6 0 part tile unit (8 * w))

/-- Merge some bytes into one word of a tile store: a read-modify-write (R540, R543). `lo` is the first byte written. -/
def mergeWord (s : Dev) (t w lo : Nat) (d : Bytes) : Dev :=
  let s := s.updIn (fun i => { i with rmwWrites := i.rmwWrites + 1 })
  let old := leBytes 8 (s.goodWord w)
  if (s.wordClassAt w).lost then
    poisonWrite (writeWord s w 0 .poison) 1 (s.partOfTile t) (some t) (8 * w / 128 % 16) w
  else writeWord s w (leNat (overlay old lo d)) .none

/-- Write bytes at any offset of a tile store: whole words are replaced, partly covered words are merged (R540). -/
def writeStore (s : Dev) (t off : Nat) (d : Bytes) (fl : List (Nat × WordFault)) : Dev :=
  let a := storeAddr t off
  let head := if a % 8 = 0 then 0 else min (8 - a % 8) d.length
  let s := if head = 0 then s else mergeWord s t (a / 8) (a % 8) (d.take head)
  let rest := d.drop head
  let whole := rest.length / 8 * 8
  let a2 := a + head
  let s := writeWords s (a2 / 8) 0 (rest.take whole) fl
  let tail := rest.drop whole
  if tail.isEmpty then s else mergeWord s t ((a2 + whole) / 8) 0 tail

/-- Whether an address is HBM (Table ME-1). -/
def isHbm (a : Nat) : Bool := a < 2 ^ 39
/-- Whether an address lies in the capacity-tier window (Table ME-1). -/
def isCap (a : Nat) : Bool := 0x020000000000 ≤ a && a < 0x040000000000
/-- The channel of a memory address: HBM 0–255, capacity 256–271 (R273, R277). -/
def channelOf (a : Nat) : Nat := if isHbm a then a / 0x80000000 else 256 + (a - 0x020000000000) / 0x2000000000
/-- Whether every byte of a memory access lies in backed memory, below the reserved space (R270, R276). -/
def Dev.memBacked (s : Dev) (a n : Nat) : Bool :=
  if isHbm a then a % 0x80000000 + n ≤ 0x7FF00000
  else isCap a && (a - 0x020000000000) % 0x2000000000 + n ≤ s.capGib * 2 ^ 30

/-- 16-bit symbols of a word in which a mask has a bit (R535). -/
def symbolsOf (m : Nat) : Nat := ((List.range 4).filter (fun j => bits m (16 * j) 16 != 0)).length

/-- What the page decoder meets in a page: symbols in error outside erased words, erased symbols, and symbols in error
counting every word that is not poisoned (R536). -/
def pageErrors (s : Dev) (page : Nat) : Nat × Nat × Nat :=
  ((s.faultySpan (2048 * page) 2048).foldl (fun acc w =>
    let f := (s.fault w).data.toNat
    match s.wordClassAt w with
    | .poisoned => (acc.1, acc.2.1 + 4, acc.2.2)
    | .uncorrectable => (acc.1, acc.2.1 + 4, acc.2.2 + symbolsOf f)
    | .corrected m => (acc.1 + symbolsOf (f ^^^ m), acc.2.1, acc.2.2 + symbolsOf (f ^^^ m))
    | .clean => (acc.1 + symbolsOf f, acc.2.1, acc.2.2 + symbolsOf f)) (0, 0, 0))

/-- Whether the page decodes: with the erasures, or without any (R536). -/
def pageDecodes (s : Dev) (page : Nat) : Bool :=
  let e := pageErrors s page
  2 * e.1 + e.2.1 ≤ 32 || e.2.2 ≤ 16

/-- The word as the page code rebuilds it: poisoned words stay as they are (R536). -/
def Dev.rebuiltWord (s : Dev) (w : Nat) : Nat :=
  if s.wordClassAt w = .poisoned then 0 else s.rawWord w ^^^ (s.fault w).data.toNat

/-- Rewrite every faulty word of a page that is not poisoned as rebuilt (R539, R543). -/
def rebuildPage (s : Dev) (page : Nat) : Dev :=
  (s.faultySpan (2048 * page) 2048).foldl (fun s w =>
    if s.wordClassAt w = .poisoned then s else writeWord s w (s.rebuiltWord w) .none) s

/-- Count and log a corrected page (R537, R557). -/
def countCorrectedPage (s : Dev) (page : Nat) (part : Option Nat) : Dev :=
  let c := channelOf (2048 * page)
  let s := s.updIn (fun i => { i with memCorrectedPages := i.memCorrectedPages + 1 })
  let s := s.updChannel c (fun ch => { ch with correctedPages := ch.correctedPages + 1 })
  raise s 0 17 537 none none (integrityDetail (if c < 256 then 3 else 4) 4 0 part none (c % 256) (2048 * page))

/-- Count and log an uncorrectable page; its class depends on who reads (Table IN-6). -/
def countBadPage (s : Dev) (page cls : Nat) (part tile : Option Nat) : Dev :=
  let c := channelOf (2048 * page)
  let s := s.updIn (fun i => { i with memUncorrectablePages := i.memUncorrectablePages + 1 })
  let s := s.updChannel c (fun ch => { ch with
    uncorrectablePages := ch.uncorrectablePages + 1, lastBadAddr := 2048 * page })
  raise s cls 17 537 part tile (integrityDetail (if c < 256 then 3 else 4) 5 0 part tile (c % 256) (2048 * page))

/-- Count corrected words of a channel; at the threshold one entry is logged in the epoch (R557). -/
def countChannelCorrected (s : Dev) (c n : Nat) : Dev :=
  if n = 0 then s else
  let s := s.updIn (fun i => { i with memCorrectedWords := i.memCorrectedWords + n })
  let s := s.updChannel c (fun ch => { ch with
    correctedWords := ch.correctedWords + n, epochCorrected := ch.epochCorrected + n })
  if s.integrity.logThreshold ≤ (s.channel c).epochCorrected ∧ ¬ (s.channel c).rateLogged then
    let s := s.updChannel c (fun ch => { ch with rateLogged := true })
    raise s 0 17 557 none none (integrityDetail (if c < 256 then 3 else 4) 1 0 none none (c % 256) 0)
  else s

/-- A write touches a page: a write-back of the page that still waits is stale (R539). -/
def CpAccess.touch (page : Nat) (c : CpAccess) : CpAccess :=
  if c.addr / 2048 = page then
    match c.owner with
    | .writeback _ => { c with owner := .writeback true }
    | .scrubBack j ch _ => { c with owner := .scrubBack j ch true }
    | _ => c
  else c

/-- One page's share of a write to memory (R541, R543): `a` to `a + d.length` lies in one page. -/
def writePage (s : Dev) (a : Nat) (d : Bytes) (fl : List (Nat × WordFault)) : Dev :=
  let s := { s with cp := s.cp.map (CpAccess.touch (a / 2048)) }
  if d.length = 2048 then writeWords s (a / 8) 0 d fl
  else
    let s := s.updIn (fun i => { i with rmwWrites := i.rmwWrites + 1 })
    let page := a / 2048
    let sec0 := a / 64 * 64
    let secN := (a + d.length + 63) / 64 * 64 - sec0
    let covered (w : Nat) : Bool := a ≤ 8 * w && 8 * w + 8 ≤ a + d.length
    let lostKept := (s.faultySpan sec0 secN).any (fun w => (s.wordClassAt w).lost && !covered w)
    let s :=
      if !lostKept then s
      else if pageDecodes s page then countCorrectedPage (rebuildPage s page) page none
      else
        (s.faultySpan (2048 * page) 2048).foldl (fun s w =>
          if (s.wordClassAt w).lost && !covered w then
            poisonWrite (writeWord s w 0 .poison) (if isHbm a then 3 else 4) none none (channelOf a % 256) w
          else s) s
    let put (s : Dev) (w lo : Nat) (d : Bytes) : Dev :=
      if s.wordClassAt w = .poisoned then s
      else writeWord s w (leNat (overlay (leBytes 8 (s.goodWord w)) lo d)) .none
    let head := if a % 8 = 0 then 0 else min (8 - a % 8) d.length
    let s := if head = 0 then s else put s (a / 8) (a % 8) (d.take head)
    let rest := d.drop head
    let whole := rest.length / 8 * 8
    let a2 := a + head
    let s := writeWords s (a2 / 8) 0 (rest.take whole) fl
    let tail := rest.drop whole
    if tail.isEmpty then s else put s ((a2 + whole) / 8) 0 tail

/-- A write to HBM or the capacity tier, page by page; `fuel` bounds the number of pages. -/
def writeMemAux : Nat → Dev → Nat → Bytes → List (Nat × WordFault) → Dev
  | 0, s, _, _, _ => s
  | n + 1, s, a, d, fl =>
    if d.isEmpty then s else
    let k := min (2048 - a % 2048) d.length
    let s := writePage s a (d.take k) fl
    writeMemAux n s (a + k) (d.drop k) (fl.filterMap (fun p => if p.1 < k / 8 then none else some (p.1 - k / 8, p.2)))

/-- A write to HBM or the capacity tier (R541). -/
def writeMem (s : Dev) (a : Nat) (d : Bytes) (fl : List (Nat × WordFault)) : Dev :=
  writeMemAux (d.length / 2048 + 2) s a d fl

/-- The address ranges of a resource (R565): group, HBM channel or capacity channel. -/
def Dev.resourceRanges (s : Dev) (kind ix : Nat) : List (Nat × Nat) :=
  match kind with
  | 0 => (groupTiles ix).flatMap (fun t => [(storeAddr t 0, 0x200000), (imemAddr t 0 0, 0x20000)])
  | 1 => [(0x80000000 * ix, 0x7FF00000)]
  | _ => [(0x020000000000 + 0x2000000000 * ix, s.capGib * 2 ^ 30)]

/-- A write at an offset of a bank may replace its instruction 0 (R122). -/
def Tile.imemWritten (x : Tile) (bank off : Nat) : Tile := if off < 8 then { x with endOnly := x.endOnly.set bank false } else x

/-- Zero a range of whole words. -/
def zeroRange (s : Dev) (a n : Nat) : Dev :=
  { s with mem := s.mem.filter (fun p => p.1 < a || a + n ≤ p.1)
           lost := cutLost s.lost a n
           faults := s.faults.filter (fun p => p.1 < a / 8 || (a + n) / 8 ≤ p.1) }

/-- A computing unit takes words of a tile store as it sees the store in `v`: corrected words are counted, a lost word is a
contained error (R530, R532, Table IN-6). -/
def checkStoreRead (v s : Dev) (t off n : Nat) : Dev :=
  let a := storeAddr t off
  let ws := v.faultySpan a n
  if ws.isEmpty then s else
  let good := (ws.filter (fun w => match v.wordClassAt w with | .corrected _ => true | _ => false)).length
  (ws.filter (fun w => (v.wordClassAt w).lost)).foldl (fun s w =>
    let kind := if v.wordClassAt w = .poisoned then 3 else 2
    let s := s.updIn (fun i => { i with tsUncorrectable := i.tsUncorrectable + 1 })
    raiseTile s 17 530 t (integrityDetail 1 kind (v.fault w).syndrome (s.partOfTile t) (some t)
      (8 * w / 128 % 16) (8 * w))) (countTileCorrected s t good false)

end Sys2Proof.Machine
end

