-- ==== Sys2Proof/Machine/Clocks.lean ====
section
/-!
DEFINITION. Clock regions (03): droop, monitors, loss of lock, crossings of the data mesh and their waits.
-/
namespace Sys2Proof.Machine

/-- Change the clock totals. -/
def Dev.updClockTotals (s : Dev) (f : ClockTotals → ClockTotals) : Dev := { s with clockTotals := f s.clockTotals }

/-- REGION_STATE of a tile (Table CK-8): off, napped, idle, planned, region stop, faulted. DESIGN CHOICE (assumption 82): a
tile in its wake sequence, for which the table has no code, reads 1 (napped) until it rejoins. -/
def Dev.regionState (s : Dev) (t : Nat) : Nat :=
  if !s.tileEnabled t then 0 else
  match (s.tile t).clock.gen with
  | .napped | .waking => 1
  | .faulted => 5
  | .on =>
    match s.partOfTile t with
    | none => 2
    | some k =>
      if (s.part k).plan.stopFrom.isSome ∧ (s.part k).time.mode ≠ .stopped then 4
      else if s.running k ∧ !(s.part k).time.slipping ∧ (s.tile t).core.state ≠ .atEnd then 3 else 2

/-- The beat of the region stop in progress in a tile's partition (R67). -/
def Dev.stopBeat (s : Dev) (t : Nat) : Option Nat :=
  (s.partOfTile t).bind (fun k => (s.part k).plan.stopFrom.map (fun p => (s.part k).time.pbc - p))

/-- Whether a generator emits periods at all: not in a nap, after a fault, or in beats 4 to 39 of a region stop (R74, R92,
R264). -/
def Dev.clocked (s : Dev) (t : Nat) : Bool :=
  s.tileEnabled t && (s.tile t).clock.gen == .on
    && (match s.stopBeat t with | some b => b < 4 || 40 ≤ b | none => true)

/-- The operating point a region runs at: in beats 0 to 3 of a region stop still the old one (R92). -/
def Dev.opOfTile (s : Dev) (t : Nat) : Nat :=
  match s.partOfTile t with
  | some k => match (s.part k).plan.stopFrom with
    | some f => if (s.part k).time.pbc < f + 4 then (s.part k).time.opBefore else (s.part k).time.opCurrent
    | none => (s.part k).time.opCurrent
  | none => 1

/-- The capacity period Tp of a region (R75). -/
def Dev.periodOf (s : Dev) (t : Nat) : Nat := Config.capacityPeriod (s.opOfTile t)

/-- A fault of a region's clock: contained, the tile a fusing candidate, the escalation entries set (R83). DESIGN CHOICE
(assumption 82): the region becomes faulted (REGION_STATE 5) for causes 3, loss of lock, and 4, a late region stop, only;
and the event of a tile in no partition, logged as corrected, still counts in ESCALATIONS and LAST_ESC_*. -/
def clockFault (s : Dev) (t event cause : Nat) : Dev :=
  let s := s.updClockTotals (fun c => { c with
    escalations := c.escalations + 1, lastEscTile := t, lastEscCause := cause, lastEscBc := s.time.bc })
  let s := if cause = 3 ∨ cause = 4 then s.updTile t (·.updClock (fun c => { c with gen := .faulted })) else s
  raiseTile (fusingCandidate s t) 2 event t (zeros 16)

/-- A beat in 408ths of a picosecond. -/
abbrev beatTime : Nat := 1632000

/-- A period begins at time `x` and is to last `tp` (R75): the stretch window moves on, and the landing port has its
two writes (R78, R118). -/
def Clock.beginPeriod (c : Clock) (x : Int) (tp : Nat) : Clock :=
  { c with began := x, next := x + tp, sinceStretch := min 16 (c.sinceStretch + 1), landed := [] }

/-- Idle-mode periods that still begin in the present beat (R77). -/
def Clock.idleLeft (c : Clock) (tp : Nat) : Nat := ceilDiv (beatTime - c.next).toNat tp

/-- `n` further idle-mode periods begin, back to back (R77). -/
def Clock.idlePeriods (c : Clock) (tp n : Nat) : Clock :=
  if n = 0 then c
  else { c with began := c.next + tp * (n - 1 : Nat), next := c.next + tp * n
                sinceStretch := min 16 (c.sinceStretch + n), landed := [] }

/-- A period that began in the present beat, or before its edge, is lengthened (R78 to R80). A lengthening counts in the beat
in which its period began: where that beat has ended, what its idle tail had left is taken off, and D is set anew. -/
def Clock.lengthen (c : Clock) (x : Nat) : Clock :=
  let c := { c with next := c.next + x }
  if 0 ≤ c.began then { c with lengthened := c.lengthened + x }
  else
    let d := c.deficit + (x - c.slack)
    { c with deficit := d, slack := c.slack - x, maxDeficit := max c.maxDeficit d }

/-- A beat ends: D takes what the periods that began in it were lengthened by beyond the idle tail, in planned mode only
(R80), and times count from the new edge. -/
def Clock.endBeat (c : Clock) (planned : Bool) (tail : Nat) : Clock :=
  let e := c.deficit + c.lengthened
  let c := if planned then { c with deficit := e - tail, slack := tail - e, maxDeficit := max c.maxDeficit (e - tail) } else c
  { c with lengthened := 0, began := c.began - beatTime, next := c.next - beatTime, cycleAt := c.cycleAt - beatTime }

/-- The region's clock at a boundary edge (R77, R80): D is cleared, and the first period of the stint begins at the edge. -/
def Clock.boundary (c : Clock) (tp : Nat) : Clock :=
  { c.beginPeriod 0 tp with deficit := 0, lengthened := 0, slack := 0, cycleAt := 0 }

/-- LANDING_FULL_PERIODS counts every period in which the landing buffer is full (R298). -/
def countFull (s : Dev) (t n : Nat) : Dev :=
  if (s.tile t).landings.length < 32 ∨ n = 0 then s else
  { s.updTile t (fun x => { x with mq := { x.mq with landingFullPeriods := x.mq.landingFullPeriods + n } }) with
    memTotals := { s.memTotals with landingFullPeriods := s.memTotals.landingFullPeriods + n } }

/-- Whether a region is in planned mode (R77). -/
def Dev.planned (s : Dev) (t : Nat) : Bool := s.regionState t == 3

/-- At most `n` idle-mode periods of the present beat pass (R77). -/
def passIdle (s : Dev) (t n : Nat) : Dev :=
  let tp := s.periodOf t
  let m := min n ((s.tile t).clock.idleLeft tp)
  countFull (s.updTile t (·.updClock (·.idlePeriods tp m))) t m

/-- The droop detector calls for `eighths` of Tp/8 in the present period; in idle mode `periods` further periods pass first.
A stretch if it is at most 4/8 and no stretch fell in the last 16 periods, otherwise a gap of one Tp (R78, R79). -/
def droop (s : Dev) (t eighths periods : Nat) : Dev :=
  if !s.clocked t || eighths == 0 then s else
  let s := if s.planned t then s else passIdle s t periods
  let tp := s.periodOf t
  if eighths ≤ 4 ∧ 16 ≤ (s.tile t).clock.sinceStretch then
    let s := s.updTile t (·.updClock (fun c => { c.lengthen (eighths * (tp / 8)) with
      sinceStretch := 0, stretches := c.stretches + 1 }))
    s.updClockTotals (fun x => { x with stretches := x.stretches + 1 })
  else
    let s := s.updTile t (·.updClock (fun c => { c.lengthen tp with gaps := c.gaps + 1 }))
    s.updClockTotals (fun x => { x with gaps := x.gaps + 1 })

/-- D has reached DEFICIT_LIMIT (R80). -/
def deficitLimit (s : Dev) (t : Nat) : Dev :=
  if s.clocked t && decide (Config.deficitLimit ≤ (s.tile t).clock.deficit) then clockFault s t 80 2 else s

/-- The beat of a wake in progress (R566). -/
def Dev.wakeBeat (s : Dev) (t : Nat) : Option Nat :=
  if (s.tile t).clock.gen = .waking then (s.tile t).core.wakeDone.map (fun b => 128 + s.time.bc - b) else none

/-- Whether a self-check watches the monitors of a tile now: beats 40 to 55 of a region stop, 100 to 115 of a wake. -/
def Dev.selfChecking (s : Dev) (t : Nat) : Bool :=
  (match s.stopBeat t with | some b => 40 ≤ b && b ≤ 55 | none => false) ||
  (match s.wakeBeat t with | some b => 100 ≤ b && b ≤ 115 | none => false)

/-- Count one monitor trip; past TRIP_THRESHOLD in one epoch the region escalates once. A trip of a tile in no partition is
logged (R83). -/
def monitorTrip (s : Dev) (t : Nat) (jitter : Bool) : Dev :=
  let check := s.selfChecking t
  let s := if (s.partOfTile t).isNone then raise s 0 2 (if jitter then 81 else 82) none (some t) (zeros 16) else s
  let s := s.updTile t (·.updClock (fun c => { c with
    jitterTrips := c.jitterTrips + boolNat jitter, dutyTrips := c.dutyTrips + boolNat (!jitter),
    epochTrips := c.epochTrips + 1, selfCheckTrips := c.selfCheckTrips + boolNat check }))
  let s := s.updClockTotals (fun x => { x with
    jitterTrips := x.jitterTrips + boolNat jitter, dutyTrips := x.dutyTrips + boolNat (!jitter) })
  let c := (s.tile t).clock
  if s.clockCfg.tripThreshold < c.epochTrips ∧ ¬ c.tripped then
    clockFault (s.updTile t (·.updClock (fun c => { c with tripped := true }))) t 83 1
  else s

/-- Whether the monitors of a tile watch: its generator runs, or a wake is in its self-check. -/
def Dev.monitored (s : Dev) (t : Nat) : Bool :=
  s.clocked t || (s.tileEnabled t && (s.tile t).clock.gen == .waking)

/-- A period or beat start deviates by `ps` picoseconds (R81). -/
def jitterTrip (s : Dev) (t ps : Nat) : Dev :=
  if s.monitored t && decide (s.clockCfg.jitterLimit < ps) then
    monitorTrip (s.updTile t (·.updClock (fun c => { c with retrim := true }))) t true
  else s

/-- A high time of `permille` thousandths of its period (R82): a trip moves the duty trim one step toward 500. -/
def dutyTrip (s : Dev) (t permille : Nat) : Dev :=
  if s.monitored t && (decide (permille < s.clockCfg.dutyMin) || decide (s.clockCfg.dutyMax < permille)) then
    monitorTrip (s.updTile t (·.updClock (fun c => { c with
      dutyTrim := c.dutyTrim + (if permille < 500 then 1 else -1) }))) t false
  else s

/-- Beat-edge phase errors, in picoseconds, at 4 consecutive beat edges: each above Tp/2 is a loss of lock (R83). -/
def lossOfLock (s : Dev) (t : Nat) (errs : List Nat) : Dev :=
  let tp := Config.capacityPeriod (s.opOfTile t)
  if s.clocked t && errs.length == 4 && errs.all (fun e => tp < 2 * 408 * e) then clockFault s t 83 3 else s

/-- The neighbour of a tile in a direction: 0 north, 1 east, 2 south, 3 west; none at the mesh edge (R218). -/
def neighbour (t dir : Nat) : Option Nat :=
  match dir with
  | 0 => if 24 ≤ t then some (t - 24) else none
  | 1 => if t % 24 < 23 then some (t + 1) else none
  | 2 => if t + 24 < 672 then some (t + 24) else none
  | _ => if 0 < t % 24 then some (t - 1) else none

/-- The port by which a line that travels in a direction enters a tile. -/
def entryPort (dir : Nat) : Nat := (dir + 2) % 4

/-- The crossing at port `p` of tile `t` (R84). -/
def Dev.crossing (s : Dev) (t p : Nat) : Crossing := Sparse.get .empty s.crossings (4 * t + p)
/-- Set a crossing. -/
def Dev.setCrossing (s : Dev) (t p : Nat) (x : Crossing) : Dev :=
  { s with crossings := Sparse.set .empty s.crossings (4 * t + p) x }

/-- When a line may enter a crossing: a place has become free, and a period has passed since the line before (R84, R90,
R124); never while four lines are in it. -/
def Crossing.roomAt (x : Crossing) (tp : Nat) : Option Int := x.freed.head?.map (fun f => max f (x.last + tp))
/-- A line enters a crossing. -/
def Crossing.put (x : Crossing) (w : Int) (route : List Nat) (l : MeshLine) : Crossing :=
  ⟨x.lines ++ [⟨w, route, l.data, l.faults⟩], x.freed.tail, w⟩
/-- The oldest line leaves a crossing. -/
def Crossing.take (x : Crossing) (w : Int) : Crossing := ⟨x.lines.tail, x.freed ++ [w], x.last⟩
/-- A beat passes. -/
def Crossing.endBeat (x : Crossing) : Crossing :=
  let back (w : Int) : Int := max longAgo (w - beatTime)
  ⟨x.lines.map (fun l => { l with written := back l.written }), x.freed.map back, back x.last⟩

/-- The first edge of a region at or after a time, on the grid of its present period. -/
def Dev.edgeAt (s : Dev) (t : Nat) (x : Int) : Int :=
  let c := (s.tile t).clock
  let tp : Int := s.periodOf t
  c.began - (c.began - x) / tp * tp

/-- CROSSING_FORWARD (R88): a crossing that is not the destination forwards its oldest entry at the first edge of its region
at which the entry is readable (R85) and the next phase buffer has room, one line per cycle and direction (R124). The line is
in the next buffer one cycle after that edge, 17 where the hop leads to another compute die. Nothing happens where the region
emits no edges (R92) or that edge does not lie in the present beat (assumption 84). -/
def crossingForward (s : Dev) (t p : Nat) : Dev :=
  if !s.clocked t then s else
  let x := s.crossing t p
  match x.lines with
  | l :: _ => match l.route with
    | d :: more => match neighbour t d with
      | none => s
      | some u =>
        let q := entryPort d
        let tp := s.periodOf t
        let hop : Nat := tp * (if tileDie t = tileDie u then 1 else 17)
        match (s.crossing u q).freed.head? with
        | none => s
        | some f =>
          let e := s.edgeAt t (max (l.written + tp) (max f ((s.crossing u q).last + tp - hop)))
          if beatTime ≤ e then s
          else
            let s := s.setCrossing u q ((s.crossing u q).put (e + hop) more l)
            s.setCrossing t p ((s.crossing t p).take e)
    | [] => s
  | [] => s

/-- A read wait of `ps` picoseconds ends: it is counted, and its length added (R89). -/
def countReadWait (s : Dev) (t ps : Nat) : Dev :=
  let s := s.updTile t (·.updClock (fun c => { c with readWaits := c.readWaits + 1, readWaitPs := c.readWaitPs + ps }))
  s.updClockTotals (fun x => { x with readWaits := x.readWaits + 1 })

/-- A write wait is counted (R90). -/
def countWriteWait (s : Dev) (t : Nat) : Dev :=
  let s := s.updTile t (·.updClock (fun c => { c with writeWaits := c.writeWaits + 1 }))
  s.updClockTotals (fun x => { x with writeWaits := x.writeWaits + 1 })

end Sys2Proof.Machine
end

