-- ==== Sys2Proof/Machine/Planned.lean ====
section
/-!
DEFINITION. Planned cycles of a tile: periods, bank use, write collisions, and the digests that observe every write
(04, 07).
-/
namespace Sys2Proof.Machine

/-- Change the tile totals. -/
def Dev.updTileTotals (s : Dev) (f : TileTotals → TileTotals) : Dev := { s with tileTotals := f s.tileTotals }
/-- Change the operation totals. -/
def Dev.updOps (s : Dev) (f : OpTotals → OpTotals) : Dev := { s with opTotals := f s.opTotals }
/-- Change the memory totals. -/
def Dev.updMemTotals (s : Dev) (f : MemTotals → MemTotals) : Dev := { s with memTotals := f s.memTotals }

/-- Record a fault of the tile itself: LAST_FAULT and its cycle and unit, the device's last fault (Tables TL-8, TL-9). -/
def noteTileFault (s : Dev) (t m code unit : Nat) : Dev :=
  let s := s.updTile t (·.updEng (fun e => { e with lastFault := code, lastFaultCycle := m, lastFaultUnit := unit }))
  s.updTileTotals (fun x => { x with lastFaultTile := t, lastFaultBc := s.time.bc })

/-- A write collision in cycle `m`: contained, and the word's contents are a free value (R117). -/
def writeCollision (s : Dev) (t m unit word : Nat) : Dev :=
  let s := noteTileFault s t m 4 unit
  let s := s.updTileTotals (fun x => { x with writeCollisions := x.writeCollisions + 1 })
  let f := s.takeFree 64
  let s := writeWord f.2 (storeAddr t 0 / 8 + word) f.1 .none
  raiseTile s 3 117 t (tileDetail m unit (storeAddr t (8 * word)))

/-- Put words into a store as they are, for a reader's view: no check bits are made and no injection is applied. -/
def putRaw (s : Dev) (t off : Nat) (d : Bytes) (fl : List (Nat × WordFault)) : Dev :=
  let a := storeAddr t off
  { s.store a d with
      faults := (List.range (d.length / 8)).foldl (fun m i => Sparse.set .none m (a / 8 + i) (faultOf fl i)) s.faults }

/-- The device with the store of a tile as a reader of cycle `m` sees it: an engine, or a load of the control core
(Table TL-5, R116, R117). -/
def Dev.seenAt (s : Dev) (t m : Nat) (engine : Bool) : Dev :=
  ((s.tile t).eng.undo.filter (fun u => decide (m < if engine then u.engine else u.load))).foldl
    (fun s u => putRaw s t u.off u.old u.faults) s

/-- The old contents of the words that `n` bytes from `off` touch, to be seen by engines before cycle `e` and by loads before
cycle `l`. -/
def Dev.undoOf (s : Dev) (t e l off n : Nat) : Undo :=
  let w := off / 8 * 8
  let k := (off + n + 7) / 8 * 8 - w
  ⟨e, l, w, s.rawBytes (storeAddr t w) k, s.faultsAt (storeAddr t w) k⟩

/-- A write that engines see from cycle `e` and loads from cycle `l` (Table TL-5). -/
def writeSeen (s : Dev) (t e l off : Nat) (d : Bytes) (fl : List (Nat × WordFault)) : Dev :=
  let u := s.undoOf t e l off d.length
  writeStore (s.updTile t (·.updEng (fun x => { x with undo := u :: x.undo }))) t off d fl

/-- Old contents that every reader of cycle `m` and later ones has been past are dropped. -/
def Engines.pruneUndo (x : Engines) (m : Nat) : Engines :=
  { x with undo := x.undo.filter (fun u => decide (m < max u.engine u.load)) }

/-- The byte of the store where row `r` of a digest region begins (R187, R222). -/
def DigestSlot.rowStart (d : DigestSlot) (r : Nat) : Nat := 128 * d.base + 32 * r * d.stride

/-- Bits of an element of a form code, and the bytes R513 takes it over. -/
def elementBits (code : Nat) : Nat := match Fmt.ofCode code with | some f => f.width | none => 8
/-- The bytes e of R513. -/
def digestBytes (code : Nat) : Nat := if elementBits code < 8 then 1 else elementBits code / 8

/-- Elements of row `r` whose last byte lies in `n` bytes from `off`, in increasing order. -/
def DigestSlot.touched (d : DigestSlot) (r off n : Nat) : List Nat :=
  let b := elementBits d.fmt
  let rs := d.rowStart r
  let lo := if off ≤ rs then 0 else (off - rs) * 8 / b - 1
  let hi := if off + n ≤ rs then 0 else min d.cols ((off + n - rs) * 8 / b + 1)
  (List.range' lo (hi - lo)).filter (fun c =>
    let last := rs + ((c + 1) * b - 1) / 8
    off ≤ last && last < off + n)

/-- The encoding of element `c` of row `r`, read from the store. -/
def DigestSlot.encoding (s : Dev) (t : Nat) (d : DigestSlot) (r c : Nat) : Nat :=
  let b := elementBits d.fmt
  let bitPos := 8 * d.rowStart r + c * b
  leNat (s.bytesAt (storeAddr t (bitPos / 8)) ((bitPos % 8 + b + 7) / 8)) / 2 ^ (bitPos % 8) % 2 ^ b

/-- Rows of a region that `n` bytes from `off` can touch. -/
def DigestSlot.rowsTouched (d : DigestSlot) (off n : Nat) : List Nat :=
  let len := (d.cols * elementBits d.fmt + 7) / 8
  (List.range d.rows).filter (fun r => d.rowStart r < off + n && off < d.rowStart r + len)

/-- Take the elements of a region whose last byte lies in `n` bytes from `off` (R222, R513). -/
def DigestSlot.take (s : Dev) (t : Nat) (d : DigestSlot) (off n : Nat) : DigestSlot :=
  (d.rowsTouched off n).foldl (fun d r =>
    (d.touched r off n).foldl (fun d c =>
      { d with crc := d.crc ^^^ digestTerm (digestBytes d.fmt) (d.canonBase + r * d.canonPitch + c) (d.encoding s t r c)
               count := (d.count + 1) % 2 ^ 48 }) d) d

/-- One open slot sees a write of `n` bytes at `off`, all within one line (R222, R223). -/
def DigestSlot.see (s : Dev) (t : Nat) (d : DigestSlot) (off n : Nat) : DigestSlot × Bool :=
  if (d.rowsTouched off n).isEmpty then (d, false) else
  let again := d.lines.contains (off / 128)
  let d := d.take s t off n
  ({ d with rewrite := d.rewrite || again, lines := if again then d.lines else off / 128 :: d.lines }, again)

/-- Every open slot of a tile observes a write of `n` bytes at `off`, within one line (R119, R222). -/
def digestSee (s : Dev) (t off n : Nat) : Dev :=
  let r := (s.tile t).digests.map (fun o => match o with
    | some d => (let x := d.see s t off n; (some x.1, x.2))
    | none => (none, false))
  let hits := (r.filter (·.2)).length
  if (s.tile t).digests.all (·.isNone) then s else
  let s := s.updTile t (fun x => { x with digests := r.map (·.1) })
  s.updOps (fun o => { o with digestRewrites := o.digestRewrites + hits })

end Sys2Proof.Machine
end

