-- ==== Sys2Proof/Machine/CoreBase.lean ====
section
/-!
DEFINITION. What the control core and the engines of a tile share (04, 09): whether they run, registers, guards, faults of the
core, the fetch, engine queues, wait conditions.
-/
namespace Sys2Proof.Machine

/-- Whether a tile's partition runs planned cycles. -/
def Dev.tileRuns (s : Dev) (t : Nat) : Bool :=
  s.tileEnabled t && (match s.partOfTile t with | some k => s.running k | none => false)

/-- Whether a tile's control core executes: its partition runs planned cycles and the core is running (R107, R261). -/
def Dev.coreRuns (s : Dev) (t : Nat) : Bool := s.tileRuns t && (s.tile t).core.state == .running

/-- The partition of a tile; 0 where it has none (used only where `coreRuns` holds). -/
def Dev.owner (s : Dev) (t : Nat) : Nat := (s.partOfTile t).getD 0

/-- A control-core fault: contained, and the core executes nothing more until a partition reset (R267). -/
def ccFault (s : Dev) (t cause origin event loc : Nat) : Dev :=
  let m := (s.tile t).core.cycle
  let s := s.updCore t (fun c => { c with state := .faulted, faultCause := cause })
  let s := s.updOps (fun o => { o with ccFaults := o.ccFaults + 1 })
  raiseTile s origin event t (tileDetail m 0 loc)

/-- An order fault (R105, R252): counted in ORDER_FAULTS too. -/
def orderFault (s : Dev) (t event : Nat) : Dev :=
  let s := noteTileFault s t (s.tile t).core.cycle 1 0
  let s := s.updTileTotals (fun x => { x with orderFaults := x.orderFaults + 1 })
  ccFault s t 5 3 event 0

/-- Register reads. -/
def Core.sreg (c : Core) (i : Fin 16) : BitVec 32 := c.s.getD i 0
/-- A counter. -/
def Core.creg (c : Core) (i : Fin 8) : BitVec 48 := c.c.getD i 0
/-- Write a scalar register. -/
def Core.setS (c : Core) (i : Fin 16) (v : BitVec 32) : Core := { c with s := c.s.set i v }
/-- Write a counter. -/
def Core.setC (c : Core) (i : Fin 8) (v : BitVec 48) : Core := { c with c := c.c.set i v }
/-- Write a predicate. -/
def Core.setP (c : Core) (i : Fin 4) (v : Bool) : Core := { c with p := c.p.set i v }
/-- The next instruction. -/
def Core.next (c : Core) : Core := { c with pc := c.pc + 1 }

/-- Predicate `i`. -/
def Core.pred (c : Core) (i : Fin 4) : Bool := c.p.getD i false

/-- The value of comparator `k` in this period (R245). -/
def Core.comparator (c : Core) (k : Fin 4) : Bool :=
  let q := c.k.getD k ⟨0, 0, 0⟩
  let a := c.c.getD q.src 0
  let b := c.c.getD q.ref 0
  match q.rel with
  | 0 => a == b
  | 1 => a != b
  | 2 => a.toNat < b.toNat
  | _ => b.toNat ≤ a.toNat

end Sys2Proof.Machine

namespace Sys2Proof
open Machine

/-- The value of a guard (R246). -/
def Guard.holds (g : Guard) (c : Core) : Bool :=
  match g with
  | .always => true
  | .when p => c.p.getD p false
  | .unless p => !c.p.getD p false

/-- The second source, its immediate sign-extended. -/
def Src.signed (x : Src) (c : Core) : BitVec 32 :=
  match x with | .reg i => c.sreg i | .imm i => i.signExtend 32
/-- The second source, its immediate zero-extended. -/
def Src.unsigned (x : Src) (c : Core) : BitVec 32 :=
  match x with | .reg i => c.sreg i | .imm i => i.zeroExtend 32

/-- The source of cset, its immediate zero-extended (R248). -/
def CSrc.zero (x : CSrc) (c : Core) : BitVec 48 :=
  match x with | .reg i => c.creg i | .imm i => i.zeroExtend 48
/-- The second source of cadd, its immediate sign-extended (R248). -/
def CSrc.sign (x : CSrc) (c : Core) : BitVec 48 :=
  match x with | .reg i => c.creg i | .imm i => i.signExtend 48

/-- The unit code of an engine (Table TL-9). -/
def Engine.unit : Engine → Nat
  | .cg => 1 | .vu => 2 | .sfu => 3 | .ix => 4 | .fu => 5 | .mv => 6 | .dg => 7

/-- A due cycle (R250). -/
def Due.value (d : Due) (c : Core) : Nat :=
  match d with
  | .imm i => i.toNat
  | .rel r i => (c.creg r + i.signExtend 48).toNat

end Sys2Proof

namespace Sys2Proof.Machine

/-- What a fetch of `n` bytes at an offset of the active bank meets: a lost word is an illegal instruction, corrected words
are counted (R533). An instruction whose word is all zero is illegal (R324), but for the stint-end action that a bank holds
after reset, whose encoding the spec does not give (R122; assumption 12). -/
def fetchCheck (s : Dev) (t off n : Nat) : Option Dev × Dev :=
  let a := imemAddr t (s.tile t).imemActive off
  let ws := s.faultySpan a n
  let loc := if n = 128 then off / 128 else 0
  match ws.find? (fun w => (s.wordClassAt w).lost) with
  | some w =>
    let s := s.updIn (fun i => { i with tsUncorrectable := i.tsUncorrectable + 1 })
    let kind := if s.wordClassAt w = .poisoned then 3 else 2
    let s := raiseTile s 17 533 t (integrityDetail 2 kind (s.fault w).syndrome (s.partOfTile t) (some t) 0 (8 * w))
    (none, ccFault s t 1 8 267 loc)
  | none =>
    let s' := if ws.isEmpty then s else countTileCorrected s t ws.length true
    let end0 : Bool := off == 0 && (s.tile t).endOnly.getD (s.tile t).imemActive false
    if n = 8 ∧ leNat (s.bytesAt a 8) = 0 ∧ ¬ end0 then (none, ccFault s' t 1 8 267 loc) else (some s', s')

/-- The queue of an engine. -/
def Engines.queue (e : Engines) : Engine → List QEntry
  | .cg => e.cg | .vu => e.vu | .sfu => e.sfu | .ix => e.ix | .fu => e.fu | .mv => e.mv | .dg => e.dg
/-- Set the queue of an engine. -/
def Engines.setQueue (e : Engines) (n : Engine) (q : List QEntry) : Engines :=
  match n with
  | .cg => { e with cg := q } | .vu => { e with vu := q } | .sfu => { e with sfu := q } | .ix => { e with ix := q }
  | .fu => { e with fu := q } | .mv => { e with mv := q } | .dg => { e with dg := q }
/-- A base adjustment: tensor field 0–3 (A–D) gets the low 14 bits of a register added to its BASE (R181). -/
def adjustBase (c : Core) (desc : Bytes) (adj : Fin 4 × Fin 16) : Bytes :=
  let o := 32 + 12 * adj.1.val
  let w := leAt desc o 4
  let base := (w % 2 ^ 14 + (c.sreg adj.2).toNat) % 2 ^ 14
  overlay desc o (leBytes 4 (w / 2 ^ 14 * 2 ^ 14 + base))

/-- Whether a count has reached a target (R257). -/
def reached (count target : BitVec 32) : Bool := (count - target).toNat < 2 ^ 31

/-- Whether a wait's condition holds (Table CC-5). -/
def Wait.holds (w : Wait) (x : Tile) : Bool :=
  match w with
  | .mq n target => reached (x.mq.counts.getD n 0) target
  | .sig j target => reached (x.signals.getD j 0) target
  | .mbx => !x.core.inbox.isEmpty

/-- What a completed wait does: a notice leaves the inbox for s12 to s15 (Table CC-5). -/
def Wait.finish (w : Wait) (c : Core) : Core :=
  let c := { c with state := .running }
  match w, c.inbox with
  | .mbx, n :: rest =>
    let c := { c with inbox := rest }
    let c := c.setS 12 (BitVec.ofNat 32 (leAt n 0 4))
    let c := c.setS 13 (BitVec.ofNat 32 (leAt n 4 4))
    let c := c.setS 14 (BitVec.ofNat 32 (leAt n 8 4))
    (c.setS 15 (BitVec.ofNat 32 (leAt n 12 4))).next
  | _, _ => c.next

/-- What a wait waits for. -/
def Wait.kind : Wait → WaitKind
  | .mq _ _ => .mq | .sig _ _ => .sig | .mbx => .mbx

/-- The code of a wait's kind (Table CC-9). -/
def waitCode : WaitKind → Nat
  | .mq => 1 | .sig => 2 | .mbx => 3

end Sys2Proof.Machine
end

