-- ==== Sys2Proof/Machine/Special.lean ====
section
/-!
DEFINITION. The special functions of R210: values to 600 fraction bits, far past what any rounding of R144 can see.
-/
namespace Sys2Proof.Machine

/-- Fraction bits of the working fixed point. -/
def spP : Nat := 640
/-- One in the working fixed point. -/
def spOne : Nat := 2 ^ spP

/-- Σ z^(2k+1) / (2k+1) for `fuel` terms: the inverse hyperbolic tangent of a fixed-point `z` (the term and its square). -/
def atanhSum : Nat → Nat → Nat → Nat → Nat
  | 0, _, _, _ => 0
  | n + 1, pw, z2, k => pw / (2 * k + 1) + atanhSum n (pw * z2 / spOne) z2 (k + 1)

/-- atanh of a fixed-point number at most 1/3. -/
def atanhFix (z : Nat) : Nat := atanhSum 210 z (z * z / spOne) 0

/-- ln 2 in the working fixed point. -/
def ln2Fix : Nat := 2 * atanhFix (spOne / 3)

/-- Σ r^k / k! for `fuel` more terms, from the term `t` of index `k`. -/
def expSum : Nat → Nat → Nat → Nat → Nat
  | 0, _, _, _ => 0
  | n + 1, t, r, k => t + expSum n (t * r / spOne / (k + 1)) r (k + 1)

/-- e^r for a fixed-point r in 0 to 1. -/
def expFix (r : Nat) : Nat := iter 12 (fun y => y * y / spOne) (expSum 60 spOne (r / 2 ^ 12) 0)

/-- e^x for a non-negative fixed-point x, as a magnitude: 2^k · e^(x − k ln 2). -/
def expPos (x : Nat) : Mag := (Mag.mk (expFix (x % ln2Fix)) spOne).scale (x / ln2Fix : Nat)

/-- A magnitude in the working fixed point, rounded down. -/
def Mag.fix (m : Mag) : Nat := m.n * spOne / m.d

/-- The magnitude cut at a bound. -/
def Mag.cut (m : Mag) (b : Nat) : Mag := if Mag.lt (.ofNat b) m then .ofNat b else m

/-- e^x of a finite value; arguments beyond ±200, where every result is past the FP32 range or below every random
threshold, are taken as ±200. -/
def expVal (neg : Bool) (m : Mag) : Mag :=
  if m.isZero then .ofNat 1 else
  let p := expPos (m.cut 200).fix
  if neg then Mag.div (.ofNat 1) p else p

/-- 2^x of a finite value, exact for whole x; arguments beyond ±300 are taken as ±300. -/
def exp2Val (neg : Bool) (m : Mag) : Mag :=
  let c := m.cut 300
  let k := c.n / c.d
  let r : Mag := ⟨c.n % c.d, c.d⟩
  let p := if r.isZero then Mag.ofNat 1 else (Mag.mk (expFix (r.fix * ln2Fix / spOne)) spOne)
  let q := p.scale (k : Int)
  if neg then Mag.div (.ofNat 1) q else q

/-- ln of a magnitude that is neither 0 nor 1, as sign and magnitude: x = 2^e · f with f in [1, 2), and
ln f = 2 atanh ((f − 1)/(f + 1)). -/
def lnVal (m : Mag) : Bool × Mag :=
  let e := m.log2
  let f := m.scale (-e)
  let l := 2 * atanhFix ((f.n - f.d) * spOne / (f.n + f.d))
  let s : Int := e * ln2Fix + l
  (s < 0, ⟨s.natAbs, spOne⟩)

/-- log2 of a magnitude that is not zero, exact for powers of two. -/
def log2Val (m : Mag) : Bool × Mag :=
  let e := m.log2
  if Mag.eq m ((Mag.ofNat 1).scale e) then (e < 0, .ofNat e.natAbs)
  else
    let f := m.scale (-e)
    let l := 2 * atanhFix ((f.n - f.d) * spOne / (f.n + f.d))
    let s : Int := e * spOne + (l * spOne / ln2Fix : Nat)
    (s < 0, ⟨s.natAbs, spOne⟩)

/-- One step of the whole square root: the largest y with y² ≤ n, bit by bit. -/
def sqrtAux : Nat → Nat → Nat → Nat
  | 0, _, acc => acc
  | k + 1, n, acc =>
    let c := acc + 2 ^ k
    sqrtAux k n (if c * c ≤ n then c else acc)

/-- The whole square root of a number below 2^2048. -/
def isqrt (n : Nat) : Nat := sqrtAux (Nat.log2 n / 2 + 1) n 0

/-- √m: exact where the root is rational in the working fixed point, otherwise cut to it with a half unit added, so that
it lies strictly between neighbours. -/
def sqrtMag (m : Mag) : Mag :=
  let y := m.n * 2 ^ 1200 / m.d
  let r := isqrt y
  if r * r * m.d = m.n * 2 ^ 1200 then ⟨r, 2 ^ 600⟩ else ⟨2 * r + 1, 2 ^ 601⟩

/-- 1 ÷ (1 + e^−x). -/
def sigmoidMag (neg : Bool) (m : Mag) : Mag :=
  let p := expVal false m
  if neg then ⟨p.d, p.d + p.n⟩ else ⟨p.n, p.n + p.d⟩

/-- |tanh x|: below 2^−40 a value just under |x|; past 200 as at 200. -/
def tanhMag (m : Mag) : Mag :=
  if m.isZero then m
  else if Mag.lt m ⟨1, 2 ^ 40⟩ then m.mul ⟨2 ^ 80 - 1, 2 ^ 80⟩
  else
    let p := expVal false (Mag.mk (m.cut 200).n (m.cut 200).d)
    let q := p.mul p
    ⟨q.n - q.d, q.n + q.d⟩

/-- The exact value of functions 0 to 8 of Table TO-9, special values included. -/
def sfuExact (fn : Nat) (x : Val) : Val :=
  match x with
  | .nan => .nan
  | .inf neg =>
    match fn with
    | 0 | 1 => if neg then .pzero else .inf false
    | 2 | 3 => if neg then .nan else .inf false
    | 4 => .fin neg .zero
    | 5 => if neg then .nan else .pzero
    | 6 => if neg then .nan else .inf false
    | 7 => if neg then .pzero else .fin false (.ofNat 1)
    | _ => .fin neg (.ofNat 1)
  | .fin neg m =>
    match fn with
    | 0 => .fin false (expVal neg m)
    | 1 => .fin false (exp2Val neg m)
    | 2 => if m.isZero then .inf true else if neg then .nan else if Mag.eq m (.ofNat 1) then .pzero
           else (let (s, v) := lnVal m; .fin s v)
    | 3 => if m.isZero then .inf true else if neg then .nan else if Mag.eq m (.ofNat 1) then .pzero
           else (let (s, v) := log2Val m; .fin s v)
    | 4 => if m.isZero then .inf neg else .fin neg ⟨m.d, m.n⟩
    | 5 => if m.isZero then .inf neg else if neg then .nan else (let r := sqrtMag ⟨m.d, m.n⟩; .fin false r)
    | 6 => if m.isZero then .fin neg m else if neg then .nan else .fin false (sqrtMag m)
    | 7 => .fin false (sigmoidMag neg m)
    | _ => .fin neg (tanhMag m)

/-- κ, the FP32 value nearest 1.702 (Table TO-9). -/
def kappa : Val := rn32 (.fin false ⟨1702, 1000⟩)

/-- sigmoid rounded to FP32. -/
def sigmoid32 (x : Val) : Val := rn32 (sfuExact 7 x)

/-- The last, unrounded step of a special function: functions 9 to 12 are FP32 sequences whose last step follows the
operation's rounding (R210). Infinite arguments of silu and gelu follow Table TO-9. -/
def sfuLast (fn : Nat) (a b : Val) : Val :=
  let silu (x : Val) : Val :=
    match x with
    | .inf true => .nzero
    | .inf false => .inf false
    | y => y.mul (sigmoid32 y)
  let gelu (x : Val) : Val :=
    match x with
    | .inf true => .nzero
    | .inf false => .inf false
    | y => y.mul (sigmoid32 (mul32 kappa y))
  match fn with
  | 9 => silu a
  | 10 => gelu a
  | 11 => if a.isNan || b.isNan then .nan else (rn32 (silu a)).mul b
  | 12 => if a.isNan || b.isNan then .nan else (rn32 (gelu a)).mul b
  | _ => sfuExact fn a

end Sys2Proof.Machine
end

