-- ==== Sys2Proof/Machine/Desc.lean ====
section
/-!
DEFINITION. Descriptors and tensors in the tile store (07): fields, checks, element addresses, decoding and rounding.
-/
namespace Sys2Proof.Machine

/-- A tensor field with its format code (Table TO-4). `whole` marks a tensor that the operation takes as one row of
ROWS × COLS elements where it is dense (R188). -/
structure Ten where
  code : Nat
  base : Nat
  stride : Nat
  rows : Nat
  cols : Nat
  scale : Nat
  whole : Bool := false
deriving DecidableEq, Repr

/-- A descriptor (Tables TO-1, TO-2). -/
structure Desc where
  opcode : Nat
  form : Nat
  rnd : Nat
  sat : Bool
  acc : Bool
  f : Int
  seed : Nat
  group : Nat
  tensorId : Nat
  canonBase : Nat
  canonPitch : Nat
  a : Ten
  b : Ten
  c : Ten
  d : Ten
  param : Bytes
  /-- Every reserved bit is 0 (R182). -/
  clean : Bool
deriving DecidableEq, Repr

/-- The two faults of R186. -/
inductive OpFault where
  | format
  | descriptor
deriving DecidableEq, Repr

/-- The tensor field of 12 bytes (R185). -/
def Ten.parse (code : Nat) (l : Bytes) : Ten :=
  let v := leNat l
  ⟨code, bits v 0 14, bits v 14 14, bits v 28 16, bits v 44 20, bits v 64 32, false⟩

/-- The descriptor that 128 bytes spell (R182). -/
def Desc.parse (l : Bytes) : Desc :=
  let h := leAt l 0 8
  let h1 := leAt l 8 8
  let h2 := leAt l 16 8
  { opcode := bits h 0 8, form := bits h 8 4, rnd := bits h 32 2, sat := bit h 34, acc := bit h 35,
    f := toSigned 9 (bits h 36 9), seed := bits h 45 4, group := bits h 49 3, tensorId := bits h1 0 16,
    canonBase := bits h1 16 48, canonPitch := bits h2 0 48,
    a := .parse (bits h 12 5) (slice l 32 12), b := .parse (bits h 17 5) (slice l 44 12),
    c := .parse (bits h 22 5) (slice l 56 12), d := .parse (bits h 27 5) (slice l 68 12),
    param := slice l 80 32,
    clean := bits h 52 12 == 0 && bits h2 48 16 == 0 && leAt l 24 8 == 0 && leAt l 112 16 == 0 }

/-- PARAM byte `i`. -/
def Desc.p (d : Desc) (i : Nat) : Nat := byteAt d.param i
/-- Group size n (R194). -/
def Desc.n (d : Desc) : Nat := 2 ^ d.group

/-- The form of a tensor; `absent` also stands for a code of no form, which every format check refuses first. -/
def Ten.fmt (t : Ten) : Fmt := (Fmt.ofCode t.code).getD .absent
/-- Bits of an element. -/
def Ten.w (t : Ten) : Nat := t.fmt.width
/-- Row length in bytes (R187). -/
def Ten.rowBytes (t : Ten) : Nat := (t.cols * t.w + 7) / 8
/-- A dense tensor (R188). -/
def Ten.dense (t : Ten) : Bool := 32 * t.stride == t.rowBytes
/-- Line-aligned rows (R188). -/
def Ten.aligned (t : Ten) : Bool := t.stride % 4 == 0
/-- Whether every field is zero, as an absent tensor's must be (Table TO-3). -/
def Ten.isZero (t : Ten) : Bool := t == ⟨t.code, 0, 0, 0, 0, 0, t.whole⟩
/-- Whether the tensor is present. -/
def Ten.present (t : Ten) : Bool := t.code != 0

/-- The format check of a tensor (R151, R141): a code of the table that the operation allows, and a good σ. -/
def Ten.fmtOk (t : Ten) (ok : Fmt → Bool) : Bool :=
  match Fmt.ofCode t.code with
  | none => false
  | some f => ok f && (!f.hasSigma || goodSigma t.scale)

/-- The row-layout checks that hold wherever the tensor lies, on a direct path too (R185, R187): ranges and row length. -/
def Ten.shapeOk (t : Ten) : Bool :=
  decide (1 ≤ t.stride) && decide (1 ≤ t.rows) && decide (1 ≤ t.cols)
    && (t.rows == 1 || decide (t.rowBytes ≤ 32 * t.stride))

/-- Row-layout checks of a tensor in the store (R185, R187, R189): its shape, the end of the store, MX scales; an absent
field is all zero. -/
def Ten.rowOk (t : Ten) : Bool :=
  if !t.present then t.isZero else
  let mx := t.fmt.isMx
  t.shapeOk
    && decide (128 * t.base + 32 * (t.rows - 1) * t.stride + t.rowBytes ≤ 2 ^ 21)
    && (!mx || (t.cols % 32 == 0 && bits t.scale 28 4 == 0
        && decide (128 * bits t.scale 0 14 + 32 * (t.rows - 1) * bits t.scale 14 14 + t.cols / 32 ≤ 2 ^ 21)))

/-- Two tensors of one shape. -/
def Ten.same (t u : Ten) : Bool := t.rows == u.rows && t.cols == u.cols

/-- The tensor as an operation takes it that accepts dense tensors (R188). -/
def Ten.asWhole (t : Ten) : Ten := { t with whole := true }
/-- Whether the elements of all rows are packed as one row (R188). -/
def Ten.packed (t : Ten) : Bool := t.whole && t.dense

/-- The bit of the store at which element (r, c) begins (R187, R188). -/
def Ten.bitAt (t : Ten) (r c : Nat) : Nat :=
  if t.packed then 1024 * t.base + (r * t.cols + c) * t.w else 1024 * t.base + 256 * r * t.stride + c * t.w

/-- `w` bits of a tile store from a bit address. -/
def Dev.storeBits (s : Dev) (t b w : Nat) : Nat :=
  leNat (s.bytesAt (storeAddr t (b / 8)) ((b % 8 + w + 7) / 8)) / 2 ^ (b % 8) % 2 ^ w

/-- The encoding of element (r, c). -/
def Ten.read (s : Dev) (t : Nat) (x : Ten) (r c : Nat) : Nat := s.storeBits t (x.bitAt r c) x.w

/-- The scale byte of the block of element (r, c) in row layout (R189). -/
def Ten.scaleAt (s : Dev) (t : Nat) (x : Ten) (r c : Nat) : Nat :=
  s.storeBits t (1024 * bits x.scale 0 14 + 256 * r * bits x.scale 14 14 + 8 * (c / 32)) 8

/-- σ of a plain FP8 or integer tensor (R141). -/
def Ten.sigma (x : Ten) : Val := fp32.decode x.scale

/-- An encoding's exact value with its scale (R140, R141): σ for scaled plain forms, the block scale for MX. -/
def Ten.decode (x : Ten) (scale : Nat) (w : Nat) : Val :=
  let v := x.fmt.element w
  if x.fmt.isMx then (match e8m0 scale with | none => .nan | some e => v.scale e)
  else if x.fmt.hasSigma then (match v with | .fin _ _ => v.mul x.sigma | y => y)
  else v

/-- The exact value of element (r, c). -/
def Ten.exact (s : Dev) (t : Nat) (x : Ten) (r c : Nat) : Val :=
  x.decode (if x.fmt.isMx then x.scaleAt s t r c else 0) (x.read s t r c)

/-- A decoded value taken as FP32: a finite one beyond the range is converted under R146 with RNE and SAT, any other stays
as it is (R202). The second component counts a saturation. -/
def toFp32 (sat : Bool) (v : Val) : Val × Nat :=
  match v, fp32.decode fp32.maxCode with
  | .fin _ m, .fin _ most =>
    if most.lt m then (let r := fp32.round .rne sat v; (fp32.decode r.code, boolNat r.saturated)) else (v, 0)
  | x, _ => (x, 0)

/-- The rounding mode of the element (r, c) of D (R143, R145, R183). -/
def Desc.modeAt (s : Dev) (k : Nat) (d : Desc) (r c : Nat) : RMode :=
  match d.rnd with
  | 0 => .rne
  | 1 => .rz
  | _ => .sr (randomWord ((s.part k).audit.seeds.getD d.seed 0) (s.part k).audit.step d.tensorId
      (d.canonBase + r * d.canonPitch + c))

/-- The last rounding of a VU or SFU result into D (R202, R210). -/
def Desc.out (s : Dev) (k : Nat) (d : Desc) (r c : Nat) (v : Val) : Rounded :=
  let v := if d.d.fmt = .f32 then v else rn32 v
  d.d.fmt.round d.d.sigma (d.modeAt s k r c) d.sat v

/-- Events counted by results (R154, R202). -/
structure Tally where
  sat : Nat := 0
  nan : Nat := 0
  blk : Nat := 0
  intNan : Nat := 0
deriving DecidableEq, Repr

/-- The sum of two tallies. -/
def Tally.add (a b : Tally) : Tally := ⟨a.sat + b.sat, a.nan + b.nan, a.blk + b.blk, a.intNan + b.intNan⟩
/-- What one rounded result counts. -/
def Rounded.tally (r : Rounded) : Tally := ⟨boolNat r.saturated, boolNat r.nanResult, 0, boolNat r.intNanZero⟩

/-- Codes of `w` bits packed from bit 0 (R142), eight codes to `w` bytes. -/
def packCodesAux (w : Nat) : Nat → List Nat → Bytes
  | 0, _ => []
  | k + 1, l =>
    if l.isEmpty then [] else
    let h := l.take 8
    let v := h.reverse.foldl (fun a c => a * 2 ^ w + c) 0
    leBytes ((h.length * w + 7) / 8) v ++ packCodesAux w k (l.drop 8)
/-- Codes of `w` bits packed from bit 0 (R142). -/
def packCodes (w : Nat) (l : List Nat) : Bytes := packCodesAux w (l.length / 8 + 1) l

/-- The `n` codes of `w` bits that bytes spell. -/
def unpackCodes (w n : Nat) (l : Bytes) : List Nat :=
  (List.range n).map (fun i =>
    leNat (slice l (i * w / 8) ((i * w % 8 + w + 7) / 8)) / 2 ^ (i * w % 8) % 2 ^ w)

/-- Write bytes at a store offset into a table of lines, missing lines starting as zeros (R190). -/
def addBytes (m : Sparse Bytes) (off : Nat) (d : Bytes) : Sparse Bytes :=
  let first := off / 128
  let last := (off + d.length - 1) / 128
  (List.range' first (if d.isEmpty then 0 else last - first + 1)).foldl (fun m l =>
    let lo := max off (128 * l)
    let hi := min (off + d.length) (128 * l + 128)
    Sparse.insert m l (overlay (Sparse.get (zeros 128) m l) (lo - 128 * l) ((d.drop (lo - off)).take (hi - lo)))) m

/-- The lines of the rows of a tensor whose row bytes are given (R187). -/
def Ten.fill (t : Ten) (rows : List Bytes) : Sparse Bytes :=
  (rows.zip (List.range rows.length)).foldl (fun m x => addBytes m (128 * t.base + 32 * x.2 * t.stride) x.1) []

/-- Store lines that a byte range touches. -/
def linesOf (off n : Nat) : List Nat :=
  if n = 0 then [] else List.range' (off / 128) ((off + n - 1) / 128 - off / 128 + 1)

/-- The lines a row-layout tensor touches, rising, each once. -/
def Ten.lines (t : Ten) : List Nat :=
  ((List.range t.rows).flatMap (fun r => linesOf (128 * t.base + 32 * r * t.stride) t.rowBytes)).foldl
    (fun acc l => if acc.head? == some l then acc else l :: acc) [] |>.reverse

/-- The first element of a tensor that has a bit in line `l` (a line the tensor touches). -/
def Ten.firstElem (t : Ten) (l : Nat) : Nat × Nat :=
  let off := 128 * (l - t.base)
  if t.packed then
    let i := 8 * off / t.w
    (i / t.cols, i % t.cols)
  else
    let r := if off < t.rowBytes then 0 else (off - t.rowBytes) / (32 * t.stride) + 1
    (r, if off ≤ 32 * r * t.stride then 0 else 8 * (off - 32 * r * t.stride) / t.w)

/-- The last element of a tensor that has a bit in line `l`. -/
def Ten.lastElem (t : Ten) (l : Nat) : Nat × Nat :=
  let hi := 128 * (l - t.base) + 127
  if t.packed then
    let i := min (t.rows * t.cols - 1) ((8 * hi + 7) / t.w)
    (i / t.cols, i % t.cols)
  else
    let r := min (t.rows - 1) (hi / (32 * t.stride))
    (r, min (t.cols - 1) ((8 * (hi - 32 * r * t.stride) + 7) / t.w))

/-- How an operation walks its elements in groups (R194): a dense tensor is one row. -/
structure Walk where
  rows : Nat
  cols : Nat
  n : Nat
  /-- The columns of the tensor where it is walked as one row. -/
  flat : Option Nat
deriving DecidableEq, Repr

/-- The walk of a shape. -/
def Walk.of (flat : Bool) (rows cols n : Nat) : Walk :=
  if flat then ⟨1, rows * cols, n, some cols⟩ else ⟨rows, cols, n, none⟩
/-- Groups per row. -/
def Walk.perRow (w : Walk) : Nat := ceilDiv w.cols w.n
/-- Groups in all. -/
def Walk.groups (w : Walk) : Nat := w.rows * w.perRow
/-- The group of the element at (r, c) of the tensor. -/
def Walk.groupAt (w : Walk) (e : Nat × Nat) : Nat :=
  match w.flat with
  | some k => (e.1 * k + e.2) / w.n
  | none => e.1 * w.perRow + e.2 / w.n
/-- The elements of group `g`, as rows and columns of the tensor. -/
def Walk.elems (w : Walk) (g : Nat) : List (Nat × Nat) :=
  let r := g / w.perRow
  let c0 := g % w.perRow * w.n
  (List.range' c0 (min w.n (w.cols - c0))).map (fun c => match w.flat with
    | some k => (c / k, c % k)
    | none => (r, c))

/-- The line charge of a group (R195). -/
def lineCharge (n w : Nat) : Nat :=
  ceilDiv (n * w) 1024 + (if n * w % 1024 = 0 ∨ (0 < n * w ∧ 1024 % (n * w) = 0) then 0 else 1)

end Sys2Proof.Machine
end

