-- ==== Sys2Proof/Machine/EngineRun.lean ====
section
/-!
DEFINITION. What an operation of an engine is made of (04, 07): checks, occupancy, its reads, writes and other effects cycle
by cycle, direct paths. An operation in progress is a flight (assumption 20).
-/
namespace Sys2Proof.Machine

/-- A planned write of one whole line; dg.take writes two words only. -/
structure LineWrite where
  cycle : Nat
  line : Nat
  data : Bytes
  faults : List (Nat × WordFault) := []

/-- The words of the store that a write writes. -/
def LineWrite.words (w : LineWrite) : List Nat := List.range' (16 * w.line) (w.data.length / 8)

/-- A group that an operation takes from a direct path: its cycle, its number, the n it asks for and its bytes (R196). -/
structure PathWant where
  path : PathId
  cycle : Nat
  index : Nat
  n : Nat
  len : Nat

/-- A row of an mv.mq: the cycle of its first step, the cycle in which its request is posted, the request, and whether its
index is the null index (R286, R287). -/
structure QueueRow where
  first : Nat
  post : Nat
  entry : MqEntry
  isNull : Bool

/-- What an operation does, cycle by cycle, once its entry has passed every check. Evaluated while the operation runs, it is
right for every cycle whose reads have been made. -/
structure OpOut where
  /-- The last cycle of its occupancy (R192). -/
  last : Nat
  reads : List (Nat × Nat) := []
  /-- Lines that are only copied: their words are not checked (R532). -/
  moves : List (Nat × Nat) := []
  writes : List LineWrite := []
  wants : List PathWant := []
  gives : List (PathId × PathGroup) := []
  /-- Lines taken from crossings: cycle and port (R219). -/
  lands : List (Nat × Nat) := []
  /-- Lines sent, in order: the cycle in which each enters its first crossing, the route, and the line (R218). -/
  sends : List (Nat × List Nat × Bytes × List (Nat × WordFault)) := []
  rows : List QueueRow := []
  tally : Tally := {}
  /-- Other effects at the start of a cycle, after its reads, and at the end of a cycle, after its writes. -/
  starts : List (Nat × (Dev → Dev)) := []
  ends : List (Nat × (Dev → Dev)) := []

/-- The slots of `freeAt` an entry occupies: CG strips, MV channels, one for each other engine (R192). -/
def occupied (e : Engine) (form : Nat) : List Nat :=
  match e with
  | .cg => if form = 8 then List.range 8 else [form]
  | .vu => [8] | .sfu => [9] | .ix => [10] | .fu => [11] | .mv => [12 + form] | .dg => [14]

/-- Whether FORM is one the engine has (Table TO-2). -/
def formOk (e : Engine) (form : Nat) : Bool :=
  match e with
  | .cg => form ≤ 8 | .mv => form ≤ 1 | _ => form = 0

/-- The opcodes an engine has (Table TO-5, Table FR-3). -/
def opcodesOf : Engine → List Nat
  | .cg => [0x10] | .vu => List.range' 0x20 7 | .sfu => [0x30] | .ix => List.range' 0x40 3
  | .mv => List.range' 0x50 6 | .dg => List.range' 0x60 3 | .fu => List.range' 0x70 4

/-- The end bound of a tile (R112). -/
def Dev.endBound (s : Dev) (t : Nat) : Nat :=
  match (s.tile t).core.endDue with
  | some d => d
  | none => s.stintCycles (s.owner t) - 1

/-- A contained event of an operation: the detail names the cycle, the unit and the descriptor (R226, R642). -/
def opEvent (s : Dev) (t origin event : Nat) (e : Engine) (q : QEntry) : Dev :=
  raiseTile s origin event t (tileDetail q.due e.unit q.slot)

/-- A format fault or descriptor fault of an entry: counted, contained, not started (R186, R151, R152). -/
def opFault (s : Dev) (t : Nat) (e : Engine) (q : QEntry) : OpFault → Dev
  | .format => opEvent (s.updOps (fun o => { o with formatFaults := o.formatFaults + 1 })) t 6 186 e q
  | .descriptor => opEvent (s.updOps (fun o => { o with descriptorFaults := o.descriptorFaults + 1 })) t 6 186 e q

/-- An engine overlap (R109) or an operation past its end bound (R112). -/
def engineOverlap (s : Dev) (t event code : Nat) (e : Engine) (q : QEntry) : Dev :=
  let s := noteTileFault s t (s.tile t).core.cycle code e.unit
  let s := s.updTileTotals (fun x => { x with engineOverlaps := x.engineOverlaps + 1 })
  opEvent s t 3 event e q

/-- A feed fault (R196). -/
def feedFault (s : Dev) (t : Nat) (e : Engine) (q : QEntry) : Dev :=
  opEvent (s.updOps (fun o => { o with feedFaults := o.feedFaults + 1 })) t 6 196 e q

/-- The due cycle of the entry that a flight runs. -/
def Flight.due (f : Flight) : Nat := f.entry.due

/-- Refuse with a fault unless the condition holds. -/
def check (f : OpFault) (ok : Bool) : Except OpFault Unit := if ok then .ok () else .error f

/-- The travel time of a direct path (Table TL-5). -/
def PathId.travel : PathId → Nat
  | .cgVu => 4 | .vuSfu => 2 | .sfuVu => 2 | .ix => 3 | .mvCg => 2

/-- The groups that a direct path holds, oldest first. -/
def Engines.path (x : Engines) : PathId → List PathGroup
  | .cgVu => x.cgToVu | .vuSfu => x.vuToSfu | .sfuVu => x.sfuToVu | .ix => x.ixOut | .mvCg => x.mvToCg
/-- Set the groups of a direct path. -/
def Engines.setPath (x : Engines) (p : PathId) (l : List PathGroup) : Engines :=
  match p with
  | .cgVu => { x with cgToVu := l } | .vuSfu => { x with vuToSfu := l } | .sfuVu => { x with sfuToVu := l }
  | .ix => { x with ixOut := l } | .mvCg => { x with mvToCg := l }

/-- The group that meets a want: of its number, n and size, and written early enough (R196). -/
def PathWant.meets (w : PathWant) (g : PathGroup) : Bool :=
  g.index == w.index && g.n == w.n && g.data.length == w.len && decide (g.cycle + w.path.travel ≤ w.cycle)

/-- Group `i` as a running operation has taken it; none while it is to come, or after a feed fault. -/
def Flight.group (f : Flight) (i : Nat) : Option Bytes :=
  match f.groups.find? (fun g => g.1 == i) with | some g => g.2 | none => none

/-- Results placed in a row-layout tensor: lines with the cycle of the last group each holds. An element without a result
(a feed fault) keeps its encoding; a line without any result is not written. -/
def placeRows (s : Dev) (t : Nat) (x : Ten) (w : Walk) (ready : Nat → Nat) (results : List (Option Nat)) :
    List LineWrite :=
  let idx := (List.range w.groups).flatMap w.elems
  let pairs := idx.zip results
  let miss := pairs.any (fun p => p.2.isNone)
  let codes := pairs.map (fun p => match p.2 with | some c => c | none => x.read s t p.1.1 p.1.2)
  let rows := if x.packed then [packCodes x.w codes]
    else (List.range x.rows).map (fun r => packCodes x.w ((codes.drop (r * x.cols)).take x.cols))
  let lines := Ten.fill x rows
  let written (l : Nat) : Bool := !miss || pairs.any (fun p => p.2.isSome &&
    decide (x.bitAt p.1.1 p.1.2 / 1024 ≤ l) && decide (l ≤ (x.bitAt p.1.1 p.1.2 + x.w - 1) / 1024))
  (lines.filter (fun l => written l.1)).map (fun l => ⟨ready (w.groupAt (x.lastElem l.1)), l.1, l.2, []⟩)

/-- The scale bytes of an MX tensor, as a tensor of bytes (R189). -/
def Ten.scales (x : Ten) : Ten := ⟨0x11, bits x.scale 0 14, bits x.scale 14 14, x.rows, x.cols / 32, 0, false⟩

/-- Reads of a row-layout input: each line once, in the cycle of the first group that needs it; of an MX tensor the lines of
its scales too (R194). -/
def rowReads (x : Ten) (w : Walk) (d : Nat) : List (Nat × Nat) :=
  x.lines.map (fun l => (d + w.groupAt (x.firstElem l), l))
    ++ (if x.fmt.isMx then x.scales.lines.map (fun l =>
          (let e := x.scales.firstElem l; (d + w.groupAt (e.1, 32 * e.2), l))) else [])

/-- Counts at the end of a cycle. -/
def countOps (f : OpTotals → OpTotals) (s : Dev) : Dev := s.updOps f

/-- A residue fault of an element or record (R546, Table IN-7); EVENT is 540 (Table ER-2). -/
def residueFault (s : Dev) (t unit slot element want seen : Nat) : Dev :=
  let s := fusingCandidate (s.updIn (fun i => { i with residueFaults := i.residueFaults + 1 })) t
  raiseTile s 17 540 t (integrityDetail 6 7 (want + 8 * seen) (s.partOfTile t) (some t) unit (slot + 2 ^ 16 * (element % 2 ^ 16)))

/-- The residue check of an accumulator or record (R544, R545). -/
def checkRecord (s : Dev) (t unit slot element : Nat) (r : AccRec) : Dev :=
  if r.checked then s else residueFault s t unit slot element r.reg (residue r.acc)

end Sys2Proof.Machine
end

