-- ==== Sys2Proof/Machine/Matrix.lean ====
section
/-!
DEFINITION. The cell grid: cg.mm (06, 07).
-/
namespace Sys2Proof.Machine

/-- How a cg.mm runs: its mode and path with the figures of Table TO-6 and Table XA-9. -/
structure CgMode where
  exact : Bool
  wide : Bool
  ks : Nat
  q : Nat
  /-- Ganged drain rate. -/
  rate : Nat
deriving DecidableEq, Repr

/-- BF16 or FP16. -/
def Fmt.isHalf : Fmt → Bool
  | .bf | .fh => true
  | _ => false
/-- A four-bit element (MX E2M1, INT4). -/
def Fmt.isNibble : Fmt → Bool
  | .m21 | .i4 => true
  | _ => false
/-- A form of the narrow path (Table XA-2). -/
def Fmt.isNarrowPath : Fmt → Bool
  | .p43 | .p52 | .m43 | .m52 | .m23 | .m32 | .m21 | .i8 | .i4 => true
  | _ => false
/-- A form of the wide path. -/
def Fmt.isWidePath : Fmt → Bool
  | .bf | .fh | .p43 | .p52 | .i8 | .i4 => true
  | _ => false

/-- The mode of a pair of operand forms (Table TO-6); none for a pair it does not list. -/
def cgMode (exact : Bool) (a b : Fmt) : Option CgMode :=
  if !(a.isNarrowPath || a.isHalf) || !(b.isNarrowPath || b.isHalf) then none
  else if exact then
    if a.isNarrowPath && b.isNarrowPath then some ⟨true, false, 64, 2, 32⟩
    else if a.isWidePath && b.isWidePath then some ⟨true, true, 64, 16, 4⟩
    else none
  else if a.isHalf || b.isHalf then some ⟨false, false, 64, 2, 64⟩
  else if a.isNibble && b.isNibble then some ⟨false, false, 128, 1, 64⟩
  else some ⟨false, false, 64, 1, 64⟩

/-- Destination forms of a final stage (Table TO-6). -/
def Fmt.isFinal : Fmt → Bool
  | .f32 | .bf | .fh | .p43 | .p52 | .i8 | .i4 => true
  | _ => false
/-- Initial-value forms. -/
def Fmt.isInitial : Fmt → Bool
  | .absent | .f32 | .bf | .fh => true
  | _ => false

/-- Element lines of a slice (R191). -/
def Ten.sliceElemLines (x : Ten) (ks : Nat) : Nat := ceilDiv (x.rows * ks * x.w) 1024
/-- Lines of a slice, L_OP of R191. -/
def Ten.sliceLines (x : Ten) (ks : Nat) : Nat :=
  x.sliceElemLines ks + (if x.fmt.isMx then ceilDiv (x.rows * ks) 4096 else 0)
/-- First line of slice `i`. -/
def Ten.sliceBase (x : Ten) (i : Nat) : Nat := x.base + i * x.stride / 4

/-- Slice-layout checks that hold wherever an operand lies (R185, R191). -/
def Ten.sliceShape (x : Ten) : Bool :=
  decide (1 ≤ x.stride) && x.stride % 4 == 0 && decide (1 ≤ x.rows) && decide (1 ≤ x.cols)
    && (!x.fmt.isMx || x.scale == 0)

/-- Slice-layout checks of an operand in the store (R186). -/
def Ten.sliceOk (x : Ten) (ks slices : Nat) : Bool :=
  x.sliceShape && decide (x.sliceBase (slices - 1) + x.sliceLines ks ≤ 16384)

/-- Where a CG operand's slices come from: the store, or the lines of a direct path (R201). -/
inductive SliceSource where
  | store
  | lines (l : List (Option Bytes))

/-- `w` bits of slice `i` from bit `b` of the slice. -/
def sliceBits (s : Dev) (t : Nat) (src : SliceSource) (x : Ten) (ks i b w : Nat) : Nat :=
  match src with
  | .store => s.storeBits t (1024 * x.sliceBase i + b) w
  | .lines l =>
    let line := i * x.sliceLines ks + b / 1024
    bits (leNat ((l.getD line none).getD []) + 2 ^ 1024 * leNat ((l.getD (line + 1) none).getD [])) (b % 1024) w

/-- Row `r` of an operand as blocks of 32 positions (R156, R191). -/
def operandRow (s : Dev) (t : Nat) (src : SliceSource) (x : Ten) (ks r : Nat) : List OpBlock :=
  (List.range (ceilDiv x.cols 32)).map (fun j =>
    let i := 32 * j / ks
    let pos := 32 * j % ks
    let cnt := min 32 (x.cols - 32 * j)
    { scale := if x.fmt.isMx then
        some (sliceBits s t src x ks i (1024 * x.sliceElemLines ks + 8 * (r * (ks / 32) + pos / 32)) 8) else none
      elems := (List.range cnt).map (fun c =>
        x.fmt.element (sliceBits s t src x ks i ((r * ks + pos + c) * x.w) x.w)) })

/-- The rows whose segment, or scales, a missing line of the path holds. -/
def missingRows (l : List (Option Bytes)) (x : Ten) (ks : Nat) : List Nat :=
  ((l.zip (List.range l.length)).filter (·.1.isNone)).flatMap (fun p =>
    let line := p.2 % x.sliceLines ks
    if x.sliceElemLines ks ≤ line then List.range x.rows
    else (List.range x.rows).filter (fun r =>
      decide (r * ks * x.w < 1024 * (line + 1)) && decide (1024 * line < (r + 1) * ks * x.w)))

/-- The figures of R199 for one operation. -/
structure CgTimes where
  slices : Nat
  lb : Nat
  la : Nat
  w : Nat
  p : Nat
  t : Nat
  /-- E of R199. -/
  e : Nat
  /-- Elements drained in 8 cycles, so that a strip of the wide path drains a whole number. -/
  rate8 : Nat
  carry : Nat
  drain : Nat

/-- The times of an operation (R199). -/
def cgTimes (m : CgMode) (d : Desc) (due : Nat) : CgTimes :=
  let ganged := d.form == 8
  let slices := ceilDiv d.a.cols m.ks
  let lb := d.b.sliceLines m.ks
  let la := d.a.sliceLines m.ks
  let w := if ganged then 4 else 1
  let p := ceilDiv lb w + (if d.p 1 = 0 then ceilDiv la w else 0)
  let t := max (d.a.rows * m.q) p
  let e := due + p + (slices - 1) * t + d.a.rows * m.q
  let rate8 := if ganged then 8 * m.rate else m.rate
  let carry := if m.wide then 19 else 0
  ⟨slices, lb, la, w, p, t, e, rate8, carry, carry + ceilDiv (8 * d.a.rows * d.b.rows) rate8⟩

/-- The drain cycle of output element `i` (R199). -/
def CgTimes.drainOf (x : CgTimes) (i : Nat) : Nat := x.e + 3 + x.carry + 8 * i / x.rate8

/-- Slice reads: slice 0 in the preload, slice s in the first cycles of slice s − 1 (R199). -/
def cgReads (x : CgTimes) (d : Desc) (due : Nat) : List (Nat × Nat) :=
  (List.range x.slices).flatMap (fun i =>
    let start := if i = 0 then due else due + x.p + (i - 1) * x.t
    (List.range x.lb).map (fun l => (start + l / x.w, d.b.sliceBase i + l))
      ++ (if d.p 1 = 0 then
            (List.range x.la).map (fun l => (start + ceilDiv x.lb x.w + l / x.w, d.a.sliceBase i + l)) else []))

/-- The groups of a path operand: each line is taken with the row whose segment first needs it, the scale lines with the last
row (R201). -/
def pathWants (x : CgTimes) (m : CgMode) (a : Ten) (due : Nat) (path : PathId) : List PathWant :=
  (List.range (x.slices * x.la)).map (fun i =>
    let l := i % x.la
    let r := if a.sliceElemLines m.ks ≤ l then a.rows - 1 else l * 1024 / (m.ks * a.w)
    ⟨path, due + x.p + i / x.la * x.t + r * m.q, i, 1, 128⟩)

/-- The window base the device uses: F where R168 names it, else 0. -/
def cgWindow (m : CgMode) (d : Desc) : Int :=
  if m.exact && !m.wide && (d.a.fmt.isMx || d.b.fmt.isMx) then d.f else 0

/-- The format checks of cg.mm (R156, R198, R201). -/
def cgFormatOk (d : Desc) : Bool :=
  let plain := d.a.fmtOk Fmt.isNum && d.b.fmtOk Fmt.isNum && d.rnd < 3 && d.c.fmtOk Fmt.isInitial
  match cgMode d.acc d.a.fmt d.b.fmt with
  | none => false
  | some m =>
    plain && (!d.a.fmt.isMx || d.a.cols % 32 == 0) && (!d.b.fmt.isMx || d.b.cols % 32 == 0) &&
    (match d.p 0 with
     | 1 => d.d.fmt == .f32
     | 2 => d.acc && d.d.fmt == (if m.wide then .wide else .narrow)
     | _ => d.d.fmtOk Fmt.isFinal)

/-- The descriptor checks of cg.mm (R168, R186, R191, R197, R201). -/
def cgDescriptorOk (m : CgMode) (d : Desc) : Bool :=
  let ganged := d.form == 8
  let slices := ceilDiv d.a.cols m.ks
  let f := cgWindow m d
  decide (d.p 0 ≤ 2) && decide (d.p 1 ≤ 2) && (ganged || (d.p 0 == 0 && d.p 1 == 0))
    && decide (d.a.rows ≤ 64) && decide (d.b.rows ≤ (if ganged then 64 else 8)) && d.a.cols == d.b.cols
    && (if d.p 1 = 0 then d.a.sliceOk m.ks slices else d.a.sliceShape) && d.b.sliceOk m.ks slices
    && (if d.c.present then d.c.rowOk && (d.c.dense || d.c.aligned) && d.c.rows == d.a.rows && d.c.cols == d.b.rows
        else d.c.isZero)
    && d.d.rows == d.a.rows && d.d.cols == d.b.rows && (if d.p 0 = 0 then d.d.rowOk else d.d.shapeOk)
    && (d.d.dense || d.d.aligned)
    && decide (-254 ≤ f) && decide (f ≤ 238)

/-- σ of an operand in the final stage; 1 where the form carries none (R158). -/
def Ten.finalSigma (x : Ten) : Val := if x.fmt.hasSigma then x.sigma else .fin false ⟨1, 1⟩

/-- What one output element of cg.mm is: its record in exact mode, and S (R161 to R173). -/
def cgElement (m : CgMode) (f : Int) (half : Bool) (a b : List OpBlock) : AccRec × Val :=
  if m.exact then (let r := exactDot m.wide f a b; (r, r.value m.wide f)) else ({}, fastDot half a b)

/-- One strip write: the first cycle at or after the drain cycle in the strip's phase (R200). -/
def stripCycle (form m : Nat) : Nat := m + (form + 4 - m % 4) % 4

/-- A partial record with a window exception leaves the accumulator's bits to a free value, kept far enough from the ends of the
range that joins within the term limit cannot overflow (R172, assumption 21). -/
def freeRecords (wide : Bool) : Dev → List AccRec → List AccRec × Dev
  | s, [] => ([], s)
  | s, r :: t =>
    if r.window then
      let f := s.takeFree 80
      let u := freeRecords wide f.2 t
      ({ r with acc := toSigned 80 f.1, reg := residue (toSigned 80 f.1) } :: u.1, u.2)
    else (let u := freeRecords wide s t; (r :: u.1, u.2))

/-- The groups a drain sends over the direct path, `n` elements in each drain cycle (R196, R201). A group with an element lost to
a feed fault is not sent. -/
def drainGroups (x : CgTimes) (n : Nat) (els : List (Option Bytes)) : List PathGroup :=
  (List.range (ceilDiv els.length n)).filterMap (fun g =>
    let l := (els.drop (g * n)).take n
    if l.all (·.isSome) then some ⟨x.e + 3 + x.carry + g, g, n, (l.filterMap id).flatten⟩ else none)

/-- The disagreements of the product channels of a block: number in the block, residue expected, residue seen. `alter i` is
what an injection adds to the residue of product `i` (R544, R555). -/
def productFaults (alter : Nat → Nat) (a b : OpBlock) : List (Nat × Nat × Nat) :=
  ((a.elems.zip b.elems).zip (List.range a.elems.length)).filterMap (fun p =>
    match p.1.1.mul p.1.2 with
    | .fin x y =>
      let want := channelProduct (alter p.2) p.1.1 p.1.2
      let seen := residue (Val.fin x y).significand
      if want = seen then none else some (p.2, want, seen)
    | _ => none)

/-- The residues that the channels add up over a block, in units of 2^u (R544). -/
def channelSum (alter : Nat → Nat) (u : Int) (a b : OpBlock) : Nat :=
  ((a.elems.zip b.elems).zip (List.range a.elems.length)).foldl (fun n p =>
    match p.1.1.mul p.1.2 with
    | .fin x y => (n + shiftResidue (channelProduct (alter p.2) p.1.1 p.1.2) ((Val.fin x y).unit - u)) % 7
    | _ => n) 0

/-- The check of an exact block sum, before it is rounded (Table IN-2). -/
def blockFault (alter : Nat → Nat) (a b : OpBlock) : Option (Nat × Nat) :=
  match (blockProducts a b).foldl Val.add .nzero with
  | .fin x m =>
    let want := channelSum alter 0 a b
    let seen := (Val.fin x m).residue 0
    if want = seen then none else some (want, seen)
  | _ => none

/-- What an injection adds to an accumulator's residue register, which the altered residue enters too. -/
def alteredReg (wide : Bool) (f : Int) (alter : Nat → Nat) (a b : List OpBlock) : Nat :=
  ((a.zip b).zip (List.range a.length)).foldl (fun n p =>
    match blockExp p.1.1 p.1.2 with
    | some e =>
      let u := accUnit wide f - e
      (n + channelSum (fun i => alter (32 * p.2 + i)) u p.1.1 p.1.2 + 6 * channelSum (fun _ => 0) u p.1.1 p.1.2) % 7
    | none => n) 0

/-- The residue checks of one output element that fail: the cycle, the residue expected and the residue seen (R544, R545). -/
def elementFaults (x : CgTimes) (m : CgMode) (d : Desc) (due : Nat) (half : Bool) (f : Int) (alter : Nat → Nat) (r c : Nat)
    (a b : List OpBlock) (rec : AccRec) (finalOk : Bool) : List (Nat × Nat × Nat) :=
  let at_ (k : Nat) : Nat := due + x.p + k / m.ks * x.t + r * m.q
  let blocks := ((a.zip b).zip (List.range a.length)).flatMap (fun p =>
    let alt (i : Nat) : Nat := alter (32 * p.2 + i)
    (productFaults alt p.1.1 p.1.2).map (fun y => (at_ (32 * p.2 + y.1), y.2))
      ++ (if m.exact || half then [] else
            (blockFault alt p.1.1 p.1.2).toList.map (fun y => (at_ (32 * p.2) + m.q - 1, y))))
  let drain := x.drainOf (r * d.b.rows + c)
  let rec' := { rec with reg := (rec.reg + alteredReg m.wide f alter a b) % 7 }
  blocks ++ (if m.exact && !rec.window && !rec'.checked then [(drain, rec'.reg, residue rec.acc)] else [])
    ++ (if m.exact && !finalOk then [(drain, 0, 0)] else [])

/-- At most `n` accesses in each cycle (R193). -/
def widthOk (n : Nat) (l : List Nat) : Bool := l.all (fun m => decide ((l.filter (· == m)).length ≤ n))

/-- cg.mm (R197 to R201, R505). DESIGN CHOICE (assumption 83): every output element of every cg.mm, partials included, counts
as one dot product in EXACT_DOT_PRODUCTS or FAST_DOT_PRODUCTS, and vu.fin counts none. -/
def cgMm (s : Dev) (t : Nat) (fl : Flight) (d : Desc) : Except OpFault OpOut := do
  let k := s.owner t
  let repro := match s.planOf k with | some p => p.header.reproducible | none => false
  check .format (cgFormatOk d)
  let m := (cgMode d.acc d.a.fmt d.b.fmt).getD ⟨false, false, 64, 1, 64⟩
  check .descriptor (cgDescriptorOk m d)
  check .descriptor (!repro || d.acc)
  let x := cgTimes m d fl.due
  let f := cgWindow m d
  let ganged := d.form == 8
  let elemOf (e : Nat × Nat) : Nat := e.1 * d.b.rows + e.2
  let dt := d.d.asWhole
  let ct := d.c.asWhole
  let readsC := if d.c.present ∧ d.p 0 ≠ 2 then
      ct.lines.map (fun l => (x.drainOf (elemOf (ct.firstElem l)) - 1, l)) else []
  let reads := cgReads x d fl.due ++ readsC
  let ready (i : Nat) : Nat := if ganged then x.drainOf i else stripCycle d.form (x.drainOf i)
  let ends := if d.p 0 = 0 then dt.lines.map (fun l => ready (elemOf (dt.lastElem l))) else []
  check .descriptor (widthOk (if ganged then 4 else 1) (reads.map (·.1)) && widthOk (if ganged then 2 else 1) ends)
  let wants := if d.p 1 = 1 then pathWants x m d.a fl.due .ix
    else if d.p 1 = 2 then pathWants x m d.a fl.due .mvCg else []
  let taken := (List.range wants.length).map fl.group
  let src := if d.p 1 = 0 then SliceSource.store else .lines taken
  let lost := if d.p 1 = 0 then [] else missingRows taken d.a m.ks
  let rowsA := (List.range d.a.rows).map (operandRow s t src d.a m.ks)
  let rowsB := (List.range d.b.rows).map (operandRow s t .store d.b m.ks)
  let half := d.a.fmt.isHalf || d.b.fmt.isHalf
  let pairs := rowsA.flatMap (fun a => rowsB.map (fun b => (a, b)))
  let els := pairs.map (fun p => cgElement m f half p.1 p.2)
  let idx := (List.range d.a.rows).flatMap (fun r => (List.range d.b.rows).map (fun c => (r, c)))
  let total := d.a.rows * d.b.rows
  let ys := (els.zip idx).map (fun p =>
    finalValue p.1.2 d.a.finalSigma d.b.finalSigma (if d.c.present then ct.exact s t p.2.1 p.2.2 else .nzero))
  let outs := (ys.zip idx).map (fun p => d.d.fmt.round d.d.sigma (d.modeAt s k p.2.1 p.2.2) d.sat p.1)
  let kept (e : Nat × Nat) : Bool := !lost.contains e.1
  let results := (outs.zip idx).map (fun p => if kept p.2 then some p.1.code else none)
  let writes := if d.p 0 = 0 then placeRows s t dt (Walk.of dt.dense dt.rows dt.cols 1) ready results else []
  let good := ((outs.zip els).zip idx).filter (fun p => kept p.2)
  let recs := good.map (fun p => p.1.2.1)
  let fr := freeRecords m.wide s (els.map (·.1))
  let gives : List PathGroup := match d.p 0 with
    | 0 => []
    | 1 => drainGroups x m.rate (results.map (Option.map (leBytes 4)))
    | _ => drainGroups x m.rate ((fr.1.zip idx).map (fun p => if kept p.2 then some (p.1.toBytes m.wide) else none))
  let last := ends.foldl max (x.e + 2 + x.drain)
  let alter (e k : Nat) : Nat := match fl.alter with | some (p, v) => if p = e * d.a.cols + k then v else 0 | none => 0
  let faults := ((((pairs.zip els).zip (ys.zip outs)).zip idx).filter (fun p => kept p.2)).flatMap (fun p =>
    let e := elemOf p.2
    let finalOk := d.p 0 == 2 || p.1.2.2.saturated || finalChecked p.1.2.1 (d.d.decode 127 p.1.2.2.code)
    (elementFaults x m d fl.due half f (alter e) p.2.1 p.2.2 p.1.1.1.1 p.1.1.1.2 p.1.1.2.1 finalOk).map (fun y => (y.1, e, y.2)))
  .ok { last := last, reads := reads, writes := writes, wants := wants, gives := gives.map (fun g => (.cgVu, g))
        tally := if d.p 0 = 2 then {} else (good.map (fun p => p.1.1.tally)).foldl Tally.add {}
        ends := (last, countOps (fun o => { o with
            windowExceptions := o.windowExceptions + (if d.p 0 = 2 then 0 else (recs.filter (·.window)).length)
            accOverflows := o.accOverflows + (recs.filter (·.overflow)).length
            exactDots := o.exactDots + (if d.acc then total else 0)
            fastDots := o.fastDots + (if d.acc then 0 else total) }))
          :: (if d.p 0 = 2 then gives.map (fun g => (g.cycle, fun s => { s with free := max s.free fr.2.free })) else [])
          ++ faults.map (fun y => (y.1, fun s => residueFault s t d.form fl.entry.slot y.2.1 y.2.2.1 y.2.2.2)) }

end Sys2Proof.Machine
end

