-- ==== Sys2Proof/Machine/Vector.lean ====
section
/-!
DEFINITION. The vector unit (07): vu.ew, vu.red, vu.quant, vu.chk, vu.stow, vu.join, vu.fin, and the special-function
unit: sfu.fn.
-/
namespace Sys2Proof.Machine

/-- An input as an operation takes it: the FP32 values in walk order (absent where a feed fault lost the group), what it reads
or takes from a path, and saturations of the decode. -/
structure Input where
  vals : List (Option Val)
  reads : List (Nat × Nat) := []
  wants : List PathWant := []
  sat : Nat := 0

/-- Decoded FP32 values with the saturations they count (R202). -/
def decodeAll (sat : Bool) (l : List Val) : List Val × Nat :=
  let r := l.map (toFp32 sat)
  (r.map (·.1), (r.map (·.2)).foldl (· + ·) 0)

/-- An input read from the store. -/
def storeInput (s : Dev) (t due : Nat) (sat : Bool) (x : Ten) (w : Walk) (idx : List (Nat × Nat)) : Input :=
  let r := decodeAll sat (idx.map (fun e => x.exact s t e.1 e.2))
  { vals := r.1.map some, reads := rowReads x w due, sat := r.2 }

/-- The groups that a walk takes from a direct path, one a cycle from `due` (R194, R196). -/
def walkWants (path : PathId) (due bits : Nat) (w : Walk) : List PathWant :=
  (List.range w.groups).map (fun g => ⟨path, due + g, g, w.n, ((w.elems g).length * bits + 7) / 8⟩)

/-- The codes of the groups that a flight has taken, in walk order. -/
def takenCodes (f : Flight) (bits : Nat) (w : Walk) : List (Option Nat) :=
  (List.range w.groups).flatMap (fun g =>
    let n := (w.elems g).length
    match f.group g with
    | some b => (unpackCodes bits n b).map some
    | none => List.replicate n none)

/-- An input taken over a direct path (R196). -/
def pathInput (path : PathId) (f : Flight) (sat : Bool) (x : Ten) (w : Walk) : Input :=
  let r := (takenCodes f x.w w).map (fun o => o.map (fun c => toFp32 sat (x.decode 127 c)))
  { vals := r.map (fun o => o.map (·.1)), wants := walkWants path f.due x.w w
    sat := (r.map (fun o => match o with | some v => v.2 | none => 0)).foldl (· + ·) 0 }

/-- Tensor A of a VU operation: from the store, the CG drain or the SFU (PARAM byte 2, R208). -/
def vuInputA (s : Dev) (t : Nat) (f : Flight) (d : Desc) (x : Ten) (w : Walk) (idx : List (Nat × Nat)) : Input :=
  match d.p 2 with
  | 0 => storeInput s t f.due d.sat x w idx
  | 1 => pathInput .cgVu f d.sat x w
  | _ => pathInput .sfuVu f d.sat x w

/-- Groups of results for a direct path; a group with a missing element is not sent. -/
def resultGroups (path : PathId) (w : Walk) (bits : Nat) (ready : Nat → Nat) (results : List (Option Nat)) :
    List (PathId × PathGroup) :=
  ((List.range w.groups).foldl (fun (acc : List (PathId × PathGroup) × List (Option Nat)) g =>
    let n := (w.elems g).length
    let h := acc.2.take n
    (if h.all (·.isSome) then acc.1 ++ [(path, ⟨ready g, g, w.n, packCodes bits (h.filterMap id)⟩)] else acc.1,
      acc.2.drop n)) ([], results)).1

/-- A numeric form that is not microscaled: a destination of the VU and SFU. -/
def Fmt.isPlain (f : Fmt) : Bool := f.isNum && !f.isMx

/-- Attribute check: rounding code 3 is reserved (R143). -/
def Desc.rndOk (d : Desc) : Bool := d.rnd < 3

/-- max and min of two FP32 values (R202). -/
def vmax (a b : Val) : Val :=
  if a.isNan || b.isNan then .nan else if a.lt b then b else if b.lt a then a else if a.isNeg then b else a
/-- The smaller of two FP32 values (R202). -/
def vmin (a b : Val) : Val :=
  if a.isNan || b.isNan then .nan else if a.lt b then a else if b.lt a then b else if a.isNeg then a else b

/-- The exact result of an elementwise operation (R203). -/
def ewValue (opx : Nat) (a b c : Val) : Val :=
  match opx with
  | 0 => a
  | 1 => a.add b
  | 2 => a.add b.neg
  | 3 => a.mul b
  | 4 => vmax a b
  | 5 => vmin a b
  | 6 => (a.mul b).add c
  | 7 => a.abs
  | 8 => a.neg
  | _ => vmax a .pzero

/-- How many of B and C an OPX takes. -/
def ewInputs (opx : Nat) : Nat := if opx = 6 then 2 else if 1 ≤ opx ∧ opx ≤ 5 then 1 else 0

/-- The tensor B or C of an elementwise operation has the shape its broadcast flags ask for (R203). -/
def broadcastOk (a x : Ten) (column row : Bool) : Bool :=
  x.rowOk && (x.dense || x.aligned) && (if column then x.cols == 1 else x.cols == a.cols)
    && (if row then x.rows == 1 else x.rows == a.rows)

/-- The element of B or C that goes with (r, c). -/
def broadcastAt (column row : Bool) (e : Nat × Nat) : Nat × Nat := (if row then 0 else e.1, if column then 0 else e.2)

/-- B or C as values: each line is read once, in the first group that uses it (R203); an element counts its saturation
once. -/
def broadcastInput (s : Dev) (t due : Nat) (sat : Bool) (x : Ten) (w : Walk) (idx : List (Nat × Nat))
    (column row : Bool) : Input :=
  let own := (List.range x.rows).flatMap (fun r => (List.range x.cols).map (fun c => x.exact s t r c))
  let vals := (decodeAll sat (idx.map (fun e => (let f := broadcastAt column row e; x.exact s t f.1 f.2)))).1
  let at_ (e : Nat × Nat) : Nat := due + w.groupAt (broadcastAt column row e)
  { vals := vals.map some, sat := (decodeAll sat own).2
    reads := x.lines.map (fun l => (at_ (x.firstElem l), l)) ++ (if x.fmt.isMx then x.scales.lines.map (fun l =>
      (let e := x.scales.firstElem l; (at_ (e.1, 32 * e.2), l))) else []) }

/-- No input: a filler value for operations that take fewer. -/
def noInput (n : Nat) : Input := { vals := List.replicate n (some .pzero) }

/-- Checks of a tensor of dense or line-aligned rows that may go over a path (R188, R203). -/
def inputOk (x : Ten) (path : Bool) : Bool := (if path then x.shapeOk else x.rowOk) && (x.dense || x.aligned)

/-- Checks of a tensor of any row layout that may go over a path: R204 and R210 ask for no alignment. -/
def layoutOk (x : Ten) (path : Bool) : Bool := if path then x.shapeOk else x.rowOk

/-- Counts of the results that an operation has. -/
def tallyOf (l : List (Option Rounded)) (sat : Nat) : Tally :=
  (l.filterMap (fun o => o.map Rounded.tally)).foldl Tally.add ⟨sat, 0, 0, 0⟩

/-- vu.ew (R203, R208, R209). -/
def vuEw (s : Dev) (t : Nat) (f : Flight) (d : Desc) : Except OpFault OpOut := do
  let opx := d.p 0
  let k := s.owner t
  let nb := ewInputs opx
  let path := d.p 2 != 0
  let toSfu := d.p 3 == 1
  check .format (d.rndOk && d.a.fmtOk Fmt.isNum && d.d.fmtOk Fmt.isPlain && (!path || !d.a.fmt.isMx)
    && d.b.fmtOk (fun f => if 1 ≤ nb then f.isNum else f == .absent)
    && d.c.fmtOk (fun f => if 2 ≤ nb then f.isNum else f == .absent))
  let colB := bit (d.p 1) 0
  let colC := bit (d.p 1) 1
  let rowB := bit (d.p 1) 2
  check .descriptor (decide (opx ≤ 9) && decide (d.p 2 ≤ 2) && decide (d.p 3 ≤ 1) && inputOk d.a path
    && d.a.same d.d && inputOk d.d toSfu
    && (if 1 ≤ nb then broadcastOk d.a d.b colB rowB else d.b.isZero)
    && (if 2 ≤ nb then broadcastOk d.a d.c colC false else d.c.isZero))
  let charges := (if path then 0 else lineCharge d.n d.a.w)
    + (if 1 ≤ nb then lineCharge (if colB then 1 else d.n) d.b.w else 0)
    + (if 2 ≤ nb then lineCharge (if colC then 1 else d.n) d.c.w else 0)
  check .descriptor (decide (charges ≤ 4) && (toSfu || decide (lineCharge d.n d.d.w ≤ 4)))
  let flat := d.a.dense && d.d.dense && (nb == 0 || d.b.dense || colB || rowB) && (nb != 2 || d.c.dense || colC)
  let w := Walk.of flat d.a.rows d.a.cols d.n
  let ten (x : Ten) : Ten := if flat then x.asWhole else x
  let idx := (List.range w.groups).flatMap w.elems
  let a := vuInputA s t f d (ten d.a) w idx
  let b := if 1 ≤ nb then broadcastInput s t f.due d.sat (ten d.b) w idx colB rowB else noInput idx.length
  let c := if 2 ≤ nb then broadcastInput s t f.due d.sat (ten d.c) w idx colC false else noInput idx.length
  let lat := if opx = 6 then 4 else 3
  let res := (idx.zip (a.vals.zip (b.vals.zip c.vals))).map (fun p =>
    match p.2.1, p.2.2.1, p.2.2.2 with
    | some x, some y, some z => some (d.out s k p.1.1 p.1.2 (ewValue opx x y z))
    | _, _, _ => none)
  let codes := res.map (fun o => o.map (·.code))
  let ready (g : Nat) : Nat := f.due + g + lat
  .ok { last := f.due + w.groups - 1 + lat
        reads := a.reads ++ b.reads ++ c.reads
        wants := a.wants
        writes := if toSfu then [] else placeRows s t (ten d.d) w ready codes
        gives := if toSfu then resultGroups .vuSfu w d.d.w ready codes else []
        tally := tallyOf res (a.sat + b.sat + c.sat) }

/-- One reduction step of R204. -/
def redStep (opx : Nat) (a b : Val) : Val :=
  match opx with
  | 1 => rn32 (vmax a b)
  | 2 => rn32 (vmin a b)
  | _ => add32 a b

/-- One level of the tree of a group: lanes 2i and 2i + 1; a lane past the end is ignored by max and min. -/
def redLevel (opx : Nat) : List (Option Val) → List (Option Val)
  | a :: b :: t =>
    (match a, b with
     | some x, some y => some (redStep opx x y)
     | some x, none => some x
     | none, y => y) :: redLevel opx t
  | l => l

/-- The result of one group (R204): lanes past the row's end contribute −0 to a sum and nothing to max and min. -/
def redGroup (opx lg : Nat) (l : List Val) : Val :=
  let l := if opx = 3 then l.map (fun v => rn32 (v.mul v)) else l
  let fill : Option Val := if opx = 1 ∨ opx = 2 then none else some .nzero
  ((iter lg (redLevel opx) (l.map some ++ List.replicate (2 ^ lg - l.length) fill)).headD none).getD .nzero

/-- The row accumulator over the groups of a row (R204). -/
def redRow (opx lg : Nat) (groups : List (List Val)) : Val :=
  let rs := groups.map (redGroup opx lg)
  match opx, rs with
  | 1, x :: t => t.foldl (redStep 1) x
  | 2, x :: t => t.foldl (redStep 2) x
  | _, rs => rs.foldl add32 .nzero

/-- vu.red (R204, R209). -/
def vuRed (s : Dev) (t : Nat) (f : Flight) (d : Desc) : Except OpFault OpOut := do
  let opx := d.p 0
  let k := s.owner t
  let path := d.p 2 != 0
  let toSfu := d.p 3 == 1
  check .format (d.rndOk && d.a.fmtOk Fmt.isNum && d.d.fmtOk Fmt.isPlain && (!path || !d.a.fmt.isMx)
    && d.b.fmtOk (· == .absent) && d.c.fmtOk (· == .absent))
  check .descriptor (decide (opx ≤ 3) && decide (d.p 2 ≤ 2) && decide (d.p 3 ≤ 1) && layoutOk d.a path
    && d.d.rows == d.a.rows && d.d.cols == 1 && layoutOk d.d toSfu && d.b.isZero && d.c.isZero
    && (path || decide (lineCharge d.n d.a.w ≤ 4)))
  let w := Walk.of false d.a.rows d.a.cols d.n
  let idx := (List.range w.groups).flatMap w.elems
  let a := vuInputA s t f d d.a w idx
  let res := (List.range d.a.rows).map (fun r =>
    let row := (a.vals.drop (r * d.a.cols)).take d.a.cols
    if row.any (·.isNone) then none else
    let vs := row.filterMap id
    some (d.out s k r 0 (redRow opx d.group
      ((List.range w.perRow).map (fun g => (vs.drop (g * d.n)).take d.n)))))
  let codes := res.map (fun o => o.map (·.code))
  let wd := Walk.of false d.a.rows 1 1
  let ready (r : Nat) : Nat := f.due + (r + 1) * w.perRow - 1 + 5
  .ok { last := f.due + w.groups - 1 + 5
        reads := a.reads
        wants := a.wants
        writes := if toSfu then [] else placeRows s t d.d wd ready codes
        gives := if toSfu then resultGroups .vuSfu wd d.d.w ready codes else []
        tally := tallyOf res a.sat }

/-- One quantised block: its scale byte, element codes and counts (R148). -/
def quantBlock (f : FpFormat) (sat : Bool) (modes : List RMode) (xs : List Val) : Nat × List Nat × Tally :=
  if xs.any (·.isNan) then (0xFF, xs.map (fun _ => 0), ⟨0, 0, 1, 0⟩) else
  let m := xs.foldl (fun m x => match x with | .fin _ k => if m.lt k then k else m | _ => m) Mag.zero
  let k : Int := if m.isZero then 0 else max (-127) (min 127 (m.log2 - f.emax))
  let rs := (xs.zip modes).map (fun p => f.round p.2 sat (p.1.scale (-k)))
  ((k + 127).toNat, rs.map (·.code), (rs.map Rounded.tally).foldl Tally.add {})

/-- vu.quant (R205, R209). -/
def vuQuant (s : Dev) (t : Nat) (fl : Flight) (d : Desc) : Except OpFault OpOut := do
  let k := s.owner t
  check .format (d.rndOk && d.a.fmtOk Fmt.isNum && d.d.fmtOk Fmt.isMx && d.b.fmtOk (· == .absent)
    && d.c.fmtOk (· == .absent))
  check .descriptor (d.a.rowOk && d.d.rowOk && d.d.aligned && d.a.same d.d
    && d.a.cols % 32 == 0 && d.n % 32 == 0 && d.b.isZero && d.c.isZero
    && decide (lineCharge d.n d.a.w ≤ 4) && decide (lineCharge d.n d.d.w ≤ 4))
  let w := Walk.of false d.a.rows d.a.cols d.n
  let f := d.d.fmt.fp.getD e4m3
  let rows := (List.range d.a.rows).map (fun r =>
    let r32 := decodeAll d.sat ((List.range d.a.cols).map (fun c => d.a.exact s t r c))
    let blocks := (List.range (d.a.cols / 32)).map (fun j =>
      quantBlock f d.sat ((List.range 32).map (fun i => d.modeAt s k r (32 * j + i))) ((r32.1.drop (32 * j)).take 32))
    (blocks, r32.2))
  let elemRows := rows.map (fun x => packCodes d.d.w (x.1.flatMap (fun b => b.2.1)))
  let scaleRows := rows.map (fun x => packCodes 8 (x.1.map (·.1)))
  let ready (g : Nat) : Nat := fl.due + g + 4
  let lines := (d.d.fill elemRows).map (fun l => (ready (w.groupAt (d.d.lastElem l.1)), l.1, l.2))
  let slines := (d.d.scales.fill scaleRows).map (fun l =>
    (ready (w.groupAt (let e := d.d.scales.lastElem l.1; (e.1, 32 * e.2 + 31))), l.1, l.2))
  .ok { last := fl.due + w.groups - 1 + 4
        reads := rowReads d.a w fl.due
        writes := (lines ++ slines).map (fun l => ⟨l.1, l.2.1, l.2.2, []⟩)
        tally := (rows.flatMap (fun x => x.1.map (fun b => b.2.2))).foldl Tally.add
          ⟨(rows.map (·.2)).foldl (· + ·) 0, 0, 0, 0⟩ }

/-- The record of vu.chk over values (R206). -/
def chkValues (limit : Val) (l : List Val) : Bytes :=
  let beyond := (l.filter (fun x => !x.isNan && (x.isInf || limit.lt x.abs))).length
  let nans := (l.filter (·.isNan)).length
  let m := l.foldl (fun m x => if !x.isNan && m.lt x.abs then x.abs else m) Val.pzero
  leBytes 4 beyond ++ leBytes 4 nans ++ leBytes 4 (fp32.round .rne false m).code ++ leBytes 4 l.length

/-- The record of vu.chk over index words (R206). -/
def chkIndex (limit : Nat) (l : List Nat) : Bytes :=
  let used := l.filter (· != 0xFFFFFFFF)
  leBytes 4 (used.filter (limit < ·)).length ++ leBytes 4 (l.length - used.length)
    ++ leBytes 4 (used.foldl max 0) ++ leBytes 4 l.length

/-- vu.chk (R206, R209). -/
def vuChk (s : Dev) (t : Nat) (f : Flight) (d : Desc) : Except OpFault OpOut := do
  check .format (d.rndOk && d.a.fmtOk (fun f => f == .f32 || f == .idx) && d.d.fmtOk (· == .byte)
    && d.b.fmtOk (· == .absent) && d.c.fmtOk (· == .absent))
  check .descriptor (d.a.rowOk && d.d.rowOk && d.b.isZero && d.c.isZero && decide (lineCharge d.n d.a.w ≤ 4))
  let w := Walk.of d.a.dense d.a.rows d.a.cols d.n
  let x := d.a.asWhole
  let words := ((List.range w.groups).flatMap w.elems).map (fun e => x.read s t e.1 e.2)
  let limit := leAt d.param 0 4
  let rec16 := if d.a.fmt = .idx then chkIndex limit words else chkValues (fp32.decode limit) (words.map fp32.decode)
  let last := f.due + w.groups - 1 + 5
  .ok { last := last, reads := rowReads x w f.due, writes := [⟨last, d.d.base, padTo 128 rec16, []⟩] }

/-- vu.stow (R208, R209): the CG drain goes into D unchanged. -/
def vuStow (s : Dev) (t : Nat) (f : Flight) (d : Desc) : Except OpFault OpOut := do
  check .format (d.rndOk && d.d.fmtOk (fun f => f == .f32 || f == .narrow || f == .wide)
    && d.a.fmtOk (fun f => f == .absent || f == d.d.fmt) && d.b.fmtOk (· == .absent) && d.c.fmtOk (· == .absent))
  check .descriptor (d.d.rowOk && (if d.a.present then d.a.shapeOk && d.a.same d.d else d.a.isZero) && d.b.isZero
    && d.c.isZero && decide (lineCharge d.n d.d.w ≤ 4))
  let w := Walk.of true d.d.rows d.d.cols d.n
  .ok { last := f.due + w.groups - 1 + 1
        wants := walkWants .cgVu f.due d.d.w w
        writes := placeRows s t d.d.asWhole w (fun g => f.due + g + 1) (takenCodes f d.d.w w) }

/-- Whether a form is a partial record, and whether it is the wide one. -/
def Fmt.isRecord : Fmt → Bool
  | .narrow | .wide => true
  | _ => false

/-- The record of an element of a tensor of records. -/
def Ten.record (s : Dev) (t : Nat) (x : Ten) (e : Nat × Nat) : AccRec :=
  AccRec.ofBytes (x.fmt == .wide) (leBytes (x.w / 8) (x.read s t e.1 e.2))

/-- vu.join (R176, R207, R209): each join is checked by its residues (Table IN-2). -/
def vuJoin (s : Dev) (t : Nat) (f : Flight) (d : Desc) : Except OpFault OpOut := do
  check .format (d.rndOk && d.a.fmtOk Fmt.isRecord && d.b.fmtOk (· == d.a.fmt) && d.d.fmtOk (· == d.a.fmt)
    && d.c.fmtOk (· == .absent))
  check .descriptor (d.a.rowOk && d.b.rowOk && d.d.rowOk && d.c.isZero && d.a.same d.b && d.a.same d.d
    && decide (2 * lineCharge d.n d.a.w ≤ 4) && decide (lineCharge d.n d.a.w ≤ 4))
  let wide := d.a.fmt == .wide
  let flat := d.a.dense && d.b.dense && d.d.dense
  let w := Walk.of flat d.a.rows d.a.cols d.n
  let ten (x : Ten) : Ten := if flat then x.asWhole else x
  let idx := (List.range w.groups).flatMap w.elems
  let joined := idx.map (fun e => AccRec.join wide ((ten d.a).record s t e) ((ten d.b).record s t e))
  let ready (g : Nat) : Nat := f.due + g + 3
  .ok { last := ready (w.groups - 1)
        reads := rowReads (ten d.a) w f.due ++ rowReads (ten d.b) w f.due
        writes := placeRows s t (ten d.d) w ready (joined.map (fun j => some (leNat (j.1.toBytes wide))))
        ends := (ready (w.groups - 1), countOps (fun o => { o with
            accOverflows := o.accOverflows + (joined.filter (·.2)).length }))
          :: (joined.zip idx).map (fun p => (ready (w.groupAt p.2), fun s =>
            checkRecord s t 0 f.entry.slot (p.2.1 * d.a.cols + p.2.2) p.1.1)) }

/-- vu.fin (R177, R207, R209): an element whose record tells of a window exception counts one here (R179). -/
def vuFin (s : Dev) (t : Nat) (f : Flight) (d : Desc) : Except OpFault OpOut := do
  let k := s.owner t
  let sa := leAt d.param 0 4
  let sb := leAt d.param 4 4
  check .format (d.rndOk && d.a.fmtOk Fmt.isRecord && d.b.fmtOk (· == .absent) && d.c.fmtOk Fmt.isInitial
    && d.d.fmtOk Fmt.isFinal && goodSigma sa && goodSigma sb)
  let wide := d.a.fmt == .wide
  check .descriptor (d.a.rowOk && d.d.rowOk && d.b.isZero && d.a.same d.d
    && (if d.c.present then d.c.rowOk && d.c.same d.d else d.c.isZero)
    && (wide || (decide (-254 ≤ d.f) && decide (d.f ≤ 238)))
    && decide (lineCharge d.n d.a.w + (if d.c.present then lineCharge d.n d.c.w else 0) ≤ 4)
    && decide (lineCharge d.n d.d.w ≤ 4))
  let flat := d.a.dense && d.d.dense && (!d.c.present || d.c.dense)
  let w := Walk.of flat d.a.rows d.a.cols d.n
  let ten (x : Ten) : Ten := if flat then x.asWhole else x
  let idx := (List.range w.groups).flatMap w.elems
  let recs := idx.map ((ten d.a).record s t)
  let res := (recs.zip idx).map (fun p =>
    let init := if d.c.present then (ten d.c).exact s t p.2.1 p.2.2 else .nzero
    d.d.fmt.round d.d.sigma (d.modeAt s k p.2.1 p.2.2) d.sat
      (finalValue (p.1.value wide (if wide then 0 else d.f)) (fp32.decode sa) (fp32.decode sb) init))
  let last := f.due + w.groups - 1 + 4
  .ok { last := last
        reads := rowReads (ten d.a) w f.due ++ (if d.c.present then rowReads (ten d.c) w f.due else [])
        writes := placeRows s t (ten d.d) w (fun g => f.due + g + 4) (res.map (fun r => some r.code))
        tally := tallyOf (res.map some) 0
        ends := [(last, countOps (fun o => { o with
          windowExceptions := o.windowExceptions + (recs.filter (·.window)).length }))] }

/-- sfu.fn (R210, R211). -/
def sfuFn (s : Dev) (t : Nat) (f : Flight) (d : Desc) : Except OpFault OpOut := do
  let fn := d.p 0
  let k := s.owner t
  let path := d.p 2 == 1
  let toVu := d.p 3 == 1
  let two := fn == 11 || fn == 12
  check .format (d.rndOk && d.a.fmtOk Fmt.isNum && d.d.fmtOk Fmt.isPlain && (!path || !d.a.fmt.isMx)
    && d.b.fmtOk (fun f => if two then f.isNum else f == .absent) && d.c.fmtOk (· == .absent))
  check .descriptor (decide (fn ≤ 12) && decide (d.p 2 ≤ 1) && decide (d.p 3 ≤ 1) && layoutOk d.a path
    && layoutOk d.d toVu && d.a.same d.d && d.c.isZero && decide (d.n ≤ 64)
    && (if two then d.b.rowOk && d.b.same d.a else d.b.isZero)
    && decide ((if path then 0 else lineCharge d.n d.a.w) + (if two then lineCharge d.n d.b.w else 0) ≤ 2)
    && (toVu || decide (lineCharge d.n d.d.w ≤ 2)))
  let flat := d.a.dense && d.d.dense && (!two || d.b.dense)
  let w := Walk.of flat d.a.rows d.a.cols d.n
  let ten (x : Ten) : Ten := if flat then x.asWhole else x
  let idx := (List.range w.groups).flatMap w.elems
  let a := if path then pathInput .vuSfu f d.sat d.a w else storeInput s t f.due d.sat (ten d.a) w idx
  let b := if two then storeInput s t f.due d.sat (ten d.b) w idx else noInput idx.length
  let res := (idx.zip (a.vals.zip b.vals)).map (fun p =>
    match p.2.1, p.2.2 with
    | some x, some y => some (d.out s k p.1.1 p.1.2 (sfuLast fn x y))
    | _, _ => none)
  let codes := res.map (fun o => o.map (·.code))
  let ready (g : Nat) : Nat := f.due + g + (if 9 ≤ fn then 14 else 12)
  .ok { last := ready (w.groups - 1)
        reads := a.reads ++ b.reads
        wants := a.wants
        writes := if toVu then [] else placeRows s t (ten d.d) w ready codes
        gives := if toVu then resultGroups .sfuVu w d.d.w ready codes else []
        tally := tallyOf res (a.sat + b.sat) }

end Sys2Proof.Machine
end

