-- ==== Sys2Proof/Machine/Index.lean ====
section
/-!
DEFINITION. The index unit (07): ix.gather, ix.scatter, ix.segred.
-/
namespace Sys2Proof.Machine

/-- The null index (R212). -/
def nullIndex : Nat := 0xFFFFFFFF

/-- Lines per row of a line-aligned tensor. -/
def Ten.rowLines (x : Ten) : Nat := ceilDiv x.rowBytes 128

/-- The checks of an indirect tensor (R213). -/
def Ten.indirectOk (x : Ten) : Bool := x.present && x.rowOk && x.stride % 64 == 0 && decide (x.rowLines ≤ 32)

/-- `n` bytes at a word-aligned address as a copying unit takes them: whole words as stored with their faults, a cut last
word corrected (R532). -/
def copyBytes (s : Dev) (a n : Nat) : Bytes × List (Nat × WordFault) :=
  let whole := n / 8 * 8
  (s.rawBytes a whole ++ s.bytesAt (a + whole) (n - whole), s.faultsAt a whole)

/-- Line `j` of row `r` of a line-aligned tensor, bytes past the row's end as zeros (R190). -/
def copyRowLine (s : Dev) (t : Nat) (x : Ten) (r j : Nat) : Bytes × List (Nat × WordFault) :=
  let c := copyBytes s (storeAddr t (128 * x.base + 32 * r * x.stride + 128 * j)) (min 128 (x.rowBytes - 128 * j))
  (padTo 128 c.1, c.2)

/-- The device with a line of the tile store as a flight has read it in cycle `m`; unchanged before that cycle. -/
def Flight.lineIn (f : Flight) (s : Dev) (t m line : Nat) : Dev :=
  match f.lines.find? (fun c => c.cycle == m && c.line == line) with
  | some c => putRaw s t (128 * line) c.data c.faults
  | none => s

/-- The index words of a one-row index tensor. -/
def indexWords (s : Dev) (t : Nat) (x : Ten) : List Nat :=
  (List.range x.cols).map (fun i => s.storeBits t (1024 * x.base + 32 * i) 32)

/-- Index-line reads: line `k` in cycle d + 32 · k · c (R214, R216). -/
def indexReads (x : Ten) (due c : Nat) : List (Nat × Nat) :=
  (List.range (ceilDiv x.cols 32)).map (fun k => (due + 32 * k * c, x.base + k))

/-- The line of a row of a line-aligned tensor. -/
def Ten.rowLine (x : Ten) (r j : Nat) : Nat := x.base + r * x.stride / 4 + j

/-- Out-of-range indices, counted in INDEX_RANGE_EVENTS (R212). -/
def rangeEvents (rows : Nat) (l : List Nat) : Nat := (l.filter (fun v => v != nullIndex && decide (rows ≤ v))).length

/-- Count out-of-range indices. -/
def countRange (n : Nat) : Dev → Dev := countOps (fun o => { o with indexRange := o.indexRange + n })

/-- A form that ix.gather and ix.scatter may copy, and the rule for a pair of them (R214). -/
def copyForms (a d : Ten) : Bool :=
  a.fmtOk (· != .absent) && d.fmtOk (· != .absent) && (a.code == d.code || a.code == 0x11 || d.code == 0x11)

/-- The items of an indexed copy: index word, its number, and the line of the row (R214). -/
def indexItems (ix : List Nat) (lr : Nat) : List (Nat × Nat × Nat) :=
  (ix.zip (List.range ix.length)).flatMap (fun p => (List.range lr).map (fun j => (p.1, p.2, j)))

/-- ix.gather (R212 to R214). -/
def ixGather (s : Dev) (t : Nat) (f : Flight) (d : Desc) : Except OpFault OpOut := do
  let path := d.p 2 == 1
  check .format (d.rndOk && d.b.fmtOk (· == .idx) && d.c.fmtOk (· == .absent) && copyForms d.a d.d)
  check .descriptor (decide (d.p 2 ≤ 1) && d.a.indirectOk && d.b.rowOk && d.b.rows == 1 && d.c.isZero
    && (if path then d.d.shapeOk else d.d.rowOk) && d.d.aligned && decide (d.b.cols ≤ d.d.rows)
    && d.d.rowBytes == d.a.rowBytes)
  let lr := d.a.rowLines
  let ix := indexWords s t d.b
  let items := indexItems ix lr
  let readAt (p : Nat × Nat × Nat) : Nat := f.due + 1 + p.2.1 * lr + p.2.2
  let got (p : Nat × Nat × Nat) : Bytes × List (Nat × WordFault) :=
    if p.1 < d.a.rows then copyRowLine (f.lineIn s t (readAt p) (d.a.rowLine p.1 p.2.2)) t d.a p.1 p.2.2
    else (zeros 128, [])
  let clean (p : Nat × Nat × Nat) : Bytes :=
    if p.1 < d.a.rows then
      padTo 128 ((f.lineIn s t (readAt p) (d.a.rowLine p.1 p.2.2)).bytesAt (storeAddr t (128 * d.a.rowLine p.1 p.2.2))
        (min 128 (d.a.rowBytes - 128 * p.2.2)))
    else zeros 128
  let rowReads := (items.filter (fun p => decide (p.1 < d.a.rows))).map (fun p => (readAt p, d.a.rowLine p.1 p.2.2))
  let last := f.due + 3 + d.b.cols * lr
  .ok { last := last
        reads := indexReads d.b f.due lr ++ (if path then rowReads else [])
        moves := if path then [] else rowReads
        writes := if path then [] else items.map (fun p =>
          (let g := got p; ⟨readAt p + 3, d.d.rowLine p.2.1 p.2.2, g.1, g.2⟩))
        gives := if path then items.map (fun p =>
          (.ix, ⟨readAt p + 3, p.2.1 * lr + p.2.2, 1, clean p⟩)) else []
        ends := [(last, countRange (rangeEvents d.a.rows ix))] }

/-- ix.scatter (R212, R213, R215). -/
def ixScatter (s : Dev) (t : Nat) (f : Flight) (d : Desc) : Except OpFault OpOut := do
  check .format (d.rndOk && d.b.fmtOk (· == .idx) && d.c.fmtOk (· == .absent) && copyForms d.a d.d)
  check .descriptor (d.d.indirectOk && d.b.rowOk && d.b.rows == 1 && d.c.isZero && d.a.rowOk && d.a.aligned
    && decide (d.b.cols ≤ d.a.rows) && d.d.rowBytes == d.a.rowBytes)
  let lr := d.d.rowLines
  let ix := indexWords s t d.b
  let items := indexItems ix lr
  let readAt (p : Nat × Nat × Nat) : Nat := f.due + 1 + p.2.1 * lr + p.2.2
  let last := f.due + 3 + d.b.cols * lr
  .ok { last := last
        reads := indexReads d.b f.due lr
        moves := items.map (fun p => (readAt p, d.a.rowLine p.2.1 p.2.2))
        writes := (items.filter (fun p => decide (p.1 < d.d.rows))).map (fun p =>
          (let g := copyRowLine s t d.a p.2.1 p.2.2
           ⟨readAt p + 3, d.d.rowLine p.1 p.2.2, g.1, g.2⟩))
        ends := [(last, countRange (rangeEvents d.d.rows ix))] }

/-- What ix.segred keeps while it goes through the rows: the last id accepted, events counted, and per segment its row
count and running values. -/
structure SegState where
  lastId : Nat := 0
  events : Nat := 0
  segs : Sparse (Nat × List Val) := []

/-- One row of ix.segred (R216). -/
def segStep (opx rows : Nat) (st : SegState) (id : Nat) (vals : List Val) : SegState :=
  if id = nullIndex then st
  else if rows ≤ id ∨ id < st.lastId then { st with events := st.events + 1 }
  else
    let cur := Sparse.find st.segs id
    let next := match cur with
      | none => (1, vals)
      | some (n, l) => (n + 1, List.zipWith (redStep (if opx = 3 then 0 else opx)) l vals)
    { st with lastId := id, segs := Sparse.insert st.segs id next }

/-- The result of one element of a segment, before its conversion to D (R216). -/
def segResult (opx n : Nat) (v : Val) : Val :=
  if opx = 3 then (match v with | .fin a m => rn32 (.fin a (m.div (.ofNat n))) | x => x) else v

/-- The value of an empty segment (R216). -/
def segEmpty (opx : Nat) : Val := match opx with | 1 => .inf true | 2 => .inf false | _ => .pzero

/-- ix.segred (R213, R216). DESIGN CHOICE (assumption 83): a saturation at the decoding of an element counts in SATURATIONS
whether or not the row's id lets the row enter a segment. -/
def ixSegred (s : Dev) (t : Nat) (f : Flight) (d : Desc) : Except OpFault OpOut := do
  let opx := d.p 0
  let k := s.owner t
  check .format (d.rndOk && d.b.fmtOk (· == .idx) && d.c.fmtOk (· == .absent) && d.d.fmtOk Fmt.isPlain
    && d.a.fmtOk (fun f => f == .f32 || f == .bf || f == .fh || f == .p43 || f == .p52 || f == .i8))
  check .descriptor (decide (opx ≤ 3) && d.a.rowOk && d.a.aligned && decide (d.a.cols ≤ 1024) && d.b.rowOk
    && d.b.rows == 1 && d.b.cols == d.a.rows && d.c.isZero && d.d.indirectOk && d.d.cols == d.a.cols)
  let c := max d.a.rowLines d.d.rowLines
  let ids := indexWords s t d.b
  let rows := (List.range d.a.rows).map (fun r =>
    decodeAll d.sat ((List.range d.a.cols).map (fun i => d.a.exact s t r i)))
  let st := (ids.zip rows).foldl (fun st p => segStep opx d.d.rows st p.1 p.2.1) {}
  let outs := (List.range d.d.rows).map (fun r =>
    let vals := match Sparse.find st.segs r with
      | some (n, l) => l.map (segResult opx n)
      | none => List.replicate d.d.cols (segEmpty opx)
    (vals.zip (List.range d.d.cols)).map (fun p => d.out s k r p.2 p.1))
  let lines := d.d.fill (outs.map (fun l => packCodes d.d.w (l.map (·.code))))
  let last := f.due + 3 + (d.a.rows + d.d.rows) * c
  .ok { last := last
        reads := indexReads d.b f.due c ++ (List.range d.a.rows).flatMap (fun i =>
          (List.range d.a.rowLines).map (fun j => (f.due + 1 + i * c + j, d.a.rowLine i j)))
        writes := lines.map (fun l =>
          (let e := d.d.lastElem l.1
           ⟨f.due + 4 + (d.a.rows + e.1) * c + (l.1 - d.d.rowLine e.1 0), l.1, l.2, []⟩))
        tally := tallyOf (outs.flatMap (fun l => l.map some)) ((rows.map (·.2)).foldl (· + ·) 0)
        ends := [(last, countRange st.events)] }

end Sys2Proof.Machine
end

