-- ==== Sys2Proof/Machine/Mover.lean ====
section
/-!
DEFINITION. Moves inside the device (07, 03): mv.copy, mv.send, mv.land, mv.imem; digests: dg.open, dg.scan, dg.take.
-/
namespace Sys2Proof.Machine

/-- The row of a row-layout tensor as raw bytes with its word faults. -/
def rowCopy (s : Dev) (t : Nat) (x : Ten) (r : Nat) : Bytes × List (Nat × WordFault) :=
  copyBytes s (storeAddr t (128 * x.base + 32 * r * x.stride)) x.rowBytes

/-- Word faults of a store line, from the rows copied into a tensor. -/
def lineFaults (x : Ten) (rows : List (List (Nat × WordFault))) (l : Nat) : List (Nat × WordFault) :=
  (rows.zip (List.range rows.length)).flatMap (fun p => p.1.filterMap (fun f =>
    let w := (128 * x.base + 32 * p.2 * x.stride) / 8 + f.1
    if w / 16 = l then some (w % 16, f.2) else none))

/-- The source lines that the bytes of line `l` of the destination come from (R217). -/
def copySources (a d : Ten) (l : Nat) : List Nat :=
  ((List.range d.rows).flatMap (fun r =>
    let ds := 128 * d.base + 32 * r * d.stride
    let lo := max ds (128 * l)
    let hi := min (ds + d.rowBytes) (128 * l + 128)
    if lo < hi then linesOf (128 * a.base + 32 * r * a.stride + (lo - ds)) (hi - lo) else []))
    |>.foldl (fun acc x => if acc.contains x then acc else acc ++ [x]) []

/-- The reads of a copy, by destination line; none where a line needs more than two new source lines (R217). -/
def copyReads (a d : Ten) (due : Nat) : Option (List (Nat × Nat)) :=
  let lines := d.lines
  (lines.zip (List.range lines.length)).foldl (fun acc p => match acc with
    | none => none
    | some rd =>
      let fresh := (copySources a d p.1).filter (fun x => !(rd.map (·.2)).contains x)
      if 2 < fresh.length then none else some (rd ++ fresh.map (fun x => (due + p.2, x)))) (some [])

/-- Lines numbered in order. -/
def numbered {α : Type} (l : List α) : List (α × Nat) := l.zip (List.range l.length)

/-- Reads of consecutive lines, one a cycle from `d`. -/
def lineReads (d : Nat) (l : List Nat) : List (Nat × Nat) := (numbered l).map (fun p => (d + p.2, p.1))

/-- mv.copy (R217). -/
def mvCopy (s : Dev) (t : Nat) (f : Flight) (d : Desc) : Except OpFault OpOut := do
  check .format (d.rndOk && d.a.fmtOk (· != .absent) && d.d.fmtOk (· != .absent) && d.b.fmtOk (· == .absent)
    && d.c.fmtOk (· == .absent))
  check .descriptor (d.a.rowOk && d.d.rowOk && d.a.rows == d.d.rows && d.a.rowBytes == d.d.rowBytes
    && d.b.isZero && d.c.isZero)
  let reads ← match copyReads d.a d.d f.due with | some r => Except.ok r | none => .error .descriptor
  let rows := (List.range d.a.rows).map (rowCopy s t d.a)
  let lines := d.d.fill (rows.map (·.1))
  .ok { last := f.due + lines.length + 1
        moves := reads
        writes := (numbered lines).map (fun p =>
          ⟨f.due + p.2 + 2, p.1.1, p.1.2, lineFaults d.d (rows.map (·.2)) p.1.1⟩) }

/-- The directions of a route, hop by hop (R218). -/
def routeOf (legs : List Nat) : List Nat :=
  match legs with
  | [] => []
  | l :: t => if l / 4 = 0 then [] else List.replicate (l / 4) (l % 4) ++ routeOf t

/-- The tiles of a route after its source; none where it leaves the mesh. -/
def routeTiles : Nat → List Nat → Option (List Nat)
  | _, [] => some []
  | t, d :: rest => match neighbour t d with
    | none => none
    | some u => (routeTiles u rest).map (u :: ·)

/-- Whether a route may be used: inside the partition's enabled tiles, at least one hop (R91, R99, R218). -/
def routeOk (s : Dev) (t : Nat) (route : List Nat) : Bool :=
  match routeTiles t route with
  | none => false
  | some l => !l.isEmpty && l.all (fun u => s.tileEnabled u && s.partOfTile u == s.partOfTile t)

/-- mv.send (R218): line `j` enters the first crossing of its route two cycles after its read, 18 where the hop leads to another
compute die (R124). -/
def mvSend (s : Dev) (t : Nat) (f : Flight) (d : Desc) : Except OpFault OpOut := do
  let route := routeOf [d.p 0, d.p 1, d.p 2, d.p 3]
  check .format (d.rndOk && d.a.fmtOk (· != .absent) && d.b.fmtOk (· == .absent) && d.c.fmtOk (· == .absent)
    && d.d.fmtOk (· == .absent))
  check .descriptor (d.a.rowOk && d.b.isZero && d.c.isZero && d.d.isZero && routeOk s t route)
  let lines := d.a.lines
  let far := match (route.head?.bind (neighbour t)) with | some u => tileDie t != tileDie u | none => false
  .ok { last := f.due + lines.length - 1
        moves := lineReads f.due lines
        sends := (numbered lines).map (fun p =>
          (let c := copyBytes s (storeAddr t (128 * p.1)) 128
           (f.due + p.2 + (if far then 18 else 2), route, c.1, c.2))) }

/-- Keep the bytes that a mask selects. -/
def maskBytes (m d : Bytes) : Bytes := List.zipWith (· &&& ·) d m

/-- Line `j` that a flight has taken from a crossing. -/
def Flight.landed (f : Flight) (j : Nat) : Bytes × List (Nat × WordFault) :=
  match f.lines.find? (fun c => c.line == 16384 + j) with | some c => (c.data, c.faults) | none => (zeros 128, [])

/-- mv.land (R219): line `j` is taken in cycle d + j and written into line `j` of D, or passed to the CG. -/
def mvLand (s : Dev) (t : Nat) (f : Flight) (d : Desc) : Except OpFault OpOut := do
  check .format (d.rndOk && d.d.fmtOk (· != .absent) && d.a.fmtOk (· == .absent) && d.b.fmtOk (· == .absent)
    && d.c.fmtOk (· == .absent))
  check .descriptor (d.d.rowOk && d.a.isZero && d.b.isZero && d.c.isZero && decide (d.p 0 ≤ 3) && decide (d.p 2 ≤ 1)
    && (neighbour t (d.p 0)).isSome)
  let lines := numbered (d.d.fill (List.replicate d.d.rows (List.replicate d.d.rowBytes 0xFF)))
  let path := d.p 2 == 1
  .ok { last := f.due + lines.length - 1
        lands := lines.map (fun p => (f.due + p.2, d.p 0))
        writes := if path then [] else lines.map (fun p =>
          (let l := f.landed p.2; ⟨f.due + p.2, p.1.1, maskBytes p.1.2 l.1, l.2⟩))
        gives := if path then lines.map (fun p =>
          (let l := f.landed p.2
           (.mvCg, ⟨f.due + p.2, p.2, 1, (putRaw s t 0 l.1 l.2).bytesAt (storeAddr t 0) 128⟩))) else [] }

/-- Whether a physical bank of a tile is sealed (R327). -/
def Tile.sealed (x : Tile) (bank : Nat) : Bool := if bank = 0 then x.sealed0 else x.sealed1
/-- Set the seal of a bank. -/
def Tile.setSealed (x : Tile) (bank : Nat) (v : Bool) : Tile :=
  if bank = 0 then { x with sealed0 := v } else { x with sealed1 := v }
/-- Whether a bank accepts a write: inactive and unsealed (R327). -/
def Tile.bankOpen (x : Tile) (bank : Nat) : Bool := x.imemActive != bank && !x.sealed bank

/-- A refused instruction-memory write: counts and the per-tile diagnostics (R327, Tables PI-15, PI-16). -/
def refuseImem (s : Dev) (t bank off src : Nat) : Dev :=
  let s := s.updTile t (fun x => { x with
    imemRefusals := x.imemRefusals + 1, lastRefusedOffset := 65536 * bank + off, lastRefusalSource := src })
  s.updOps (fun o => { o with imemRefusals := o.imemRefusals + 1, lastRefusedTile := t })

/-- mv.imem (R221, R326, R327): each line is written in the cycle in which it is read. -/
def mvImem (s : Dev) (t : Nat) (f : Flight) (d : Desc) : Except OpFault OpOut := do
  let sealOnly := bit (d.p 4) 1
  let w := leAt d.param 0 4
  let off := w % 65536
  let bank := (bits w 16 1 + (s.tile t).baseBank) % 2
  check .format (d.rndOk && d.a.fmtOk (fun f => sealOnly || f != .absent)
    && d.b.fmtOk (· == .absent) && d.c.fmtOk (· == .absent) && d.d.fmtOk (· == .absent))
  check .descriptor (decide (d.p 4 < 4)
    && (sealOnly || (d.a.rowOk && decide (off + 128 * d.a.lines.length ≤ 65536) && off % 8 == 0))
    && d.b.isZero && d.c.isZero && d.d.isZero)
  let lines := if sealOnly then [] else d.a.lines
  let last := f.due + max 1 lines.length - 1
  .ok { last := last
        moves := lineReads f.due lines
        ends := (f.due, fun s =>
            if (s.tile t).bankOpen bank then s else opEvent (refuseImem s t bank off 2) t 10 327 .mv f.entry)
          :: (numbered lines).map (fun p =>
            (let c := copyBytes s (storeAddr t (128 * p.1)) 128
             (f.due + p.2, fun s =>
               if (s.tile t).bankOpen bank then writeWords (s.updTile t (·.imemWritten bank (off + 128 * p.2))) (imemAddr t bank (off + 128 * p.2) / 8) 0 c.1 c.2 else s)))
          ++ [(last, fun s => if (s.tile t).bankOpen bank && (sealOnly || bit (d.p 4) 0) then
                s.updTile t (·.setSealed bank true) else s)] }

/-- dg.open (R222): writes in cycles after d contribute. -/
def dgOpen (_s : Dev) (t : Nat) (f : Flight) (d : Desc) : Except OpFault OpOut := do
  check .format (d.rndOk && d.d.fmtOk (· != .absent) && d.a.fmtOk (· == .absent) && d.b.fmtOk (· == .absent)
    && d.c.fmtOk (· == .absent))
  check .descriptor (decide (d.p 0 ≤ 7) && d.d.rowOk && d.a.isZero && d.b.isZero && d.c.isZero)
  .ok { last := f.due
        ends := [(f.due, fun s => s.updTile t (fun x => { x with digests := x.digests.set (d.p 0) (some
          { base := d.d.base, stride := d.d.stride, rows := d.d.rows, cols := d.d.cols, fmt := d.d.code,
            tensorId := d.tensorId, canonBase := d.canonBase, canonPitch := d.canonPitch, crc := 0, count := 0,
            rewrite := false, lines := [] }) }))] }

/-- The slot a descriptor names, where it is open. -/
def digestSlot (s : Dev) (t : Nat) (d : Desc) : Option DigestSlot := ((s.tile t).digests.getD (d.p 0) none)

/-- dg.scan (R224): each line is taken in the cycle in which it is read, as if it had been written then. -/
def dgScan (s : Dev) (t : Nat) (f : Flight) (d : Desc) : Except OpFault OpOut := do
  check .format (d.rndOk && [d.a, d.b, d.c, d.d].all (·.fmtOk (· == .absent)))
  check .descriptor (decide (d.p 0 ≤ 7) && [d.a, d.b, d.c, d.d].all Ten.isZero)
  match digestSlot s t d with
  | none => .error .descriptor
  | some sl =>
    let lines := (Ten.mk sl.fmt sl.base sl.stride sl.rows sl.cols 0 false).lines
    .ok { last := f.due + lines.length - 1
          reads := lineReads f.due lines
          ends := (numbered lines).map (fun p => (f.due + p.2, fun s2 =>
            match digestSlot s2 t d with
            | none => s2
            | some sl =>
              let y := sl.see s t (128 * p.1) 128
              let s2 := s2.updTile t (fun x => { x with digests := x.digests.set (d.p 0) (some y.1) })
              s2.updOps (fun o => { o with digestRewrites := o.digestRewrites + boolNat y.2 }))) }

/-- The digest record of a slot (R514). -/
def DigestSlot.record (d : DigestSlot) : Bytes :=
  leBytes 16 (d.crc + 2 ^ 64 * (d.count % 2 ^ 48) + 2 ^ 112 * d.fmt + 2 ^ 117 * boolNat d.rewrite)

/-- dg.take (R225): the slot closes at d, before the writes of that cycle; the two words of D are written in cycle d + 2. -/
def dgTake (s : Dev) (t : Nat) (f : Flight) (d : Desc) : Except OpFault OpOut := do
  check .format (d.rndOk && d.d.fmtOk (· != .absent) && [d.a, d.b, d.c].all (·.fmtOk (· == .absent)))
  check .descriptor (decide (d.p 0 ≤ 7) && d.d.rowOk && [d.a, d.b, d.c].all Ten.isZero
    && ((digestSlot s t d).isSome || !(s.tile t).eng.record.isEmpty))
  .ok { last := f.due + 2
        starts := [(f.due, fun s => match digestSlot s t d with
          | none => s
          | some sl => s.updTile t (fun x => { x with
              digests := x.digests.set (d.p 0) none, eng := { x.eng with record := sl.record } }))]
        writes := [⟨f.due + 2, d.d.base, (s.tile t).eng.record, []⟩]
        ends := [(f.due + 2, fun s => s.updTile t (·.updEng (fun e => { e with record := [] })))] }

end Sys2Proof.Machine
end

