-- ==== Sys2Proof/Machine/ForestOps.lean ====
section
/-!
DEFINITION. The forest unit (08): fu.load, fu.feat, fu.eval, fu.nsample.
-/
namespace Sys2Proof.Machine

/-- KIND of a node record (Table FR-2). -/
def nodeKind (n : Nat) : Nat := bits n 13 2
/-- FEATURE of an internal record. -/
def nodeFeature (n : Nat) : Nat := bits n 0 11
/-- CHILD of an internal record; NODES of a header. -/
def nodeChild (n : Nat) : Nat := bits n 16 12
/-- THRESHOLD or VALUE. -/
def nodeValue (n : Nat) : Val := fp32.decode (bits n 32 32)

/-- The node records of a half. -/
def Forest.nodes (f : Forest) (half : Nat) : List Nat := if half = 0 then f.nodes0 else f.nodes1
/-- The directory of a half. -/
def Forest.dir (f : Forest) (half : Nat) : List TreeDir := if half = 0 then f.dir0 else f.dir1

/-- Walk headers from record `h` (R231): the complete trees, and whether the directory ended on a layout event. `lim` is
16 L. -/
def rebuildDir (nodes : List Nat) (lim : Nat) : Nat → Nat → List TreeDir × Bool
  | 0, _ => ([], false)
  | n + 1, h =>
    if lim ≤ h then ([], false) else
    let r := nodes.getD h 0
    if r = 0 then ([], false)
    else if nodeKind r ≠ 3 then ([], true)
    else if lim ≤ h + nodeChild r ∨ 4095 < h + nodeChild r then ([], true)
    else
      let rest := rebuildDir nodes lim n (h + nodeChild r + 1)
      (⟨h, nodeChild r, bits r 0 4⟩ :: rest.1, rest.2)

/-- Records written over the start of a half. -/
def overwrite (old fresh : List Nat) : List Nat := fresh ++ old.drop fresh.length

/-- Load records into a half and rebuild its directory; a layout event is counted (R231). -/
def loadHalf (s : Dev) (t half : Nat) (recs : List Nat) : Dev :=
  let nodes := overwrite ((s.tile t).forest.nodes half) recs
  let dir := rebuildDir nodes recs.length 4096 0
  let s := s.updTile t (fun x => { x with forest :=
    if half = 0 then { x.forest with nodes0 := nodes, dir0 := dir.1 } else { x.forest with nodes1 := nodes, dir1 := dir.1 } })
  s.updOps (fun o => { o with layoutEvents := o.layoutEvents + boolNat dir.2 })

/-- The node records in `n` lines of a dense tensor. -/
def nodeRecords (s : Dev) (t : Nat) (x : Ten) (n : Nat) : List Nat :=
  (List.range (16 * n)).map (fun i => s.storeBits t (1024 * x.base + 64 * i) 64)

/-- Lines of a dense tensor. -/
def Ten.denseLines (x : Ten) : Nat := ceilDiv (x.rows * x.rowBytes) 128

/-- A tensor whose elements are packed from its first byte with no gap between rows, as the FU takes a dense one. DESIGN CHOICE
(assumption 85): where the row length is no multiple of 32 bytes and R188 cannot hold, the least STRIDE stands for it. -/
def Ten.compact (x : Ten) : Bool := x.stride == ceilDiv x.rowBytes 32

/-- fu.load (R231). -/
def fuLoad (s : Dev) (t : Nat) (f : Flight) (d : Desc) : Except OpFault OpOut := do
  check .format (d.rndOk && d.a.fmtOk (· == .byte) && [d.b, d.c, d.d].all (·.fmtOk (· == .absent)))
  check .descriptor (decide (d.p 0 ≤ 1) && d.a.rowOk && d.a.compact && decide (d.a.denseLines ≤ 256)
    && [d.b, d.c, d.d].all Ten.isZero)
  let l := d.a.denseLines
  .ok { last := f.due + l + 1
        reads := lineReads f.due (List.range' d.a.base l)
        ends := [(f.due + l + 1, fun s2 => loadHalf s2 t (d.p 0) (nodeRecords s t d.a l))] }

/-- fu.feat (R232): from the store, or line by line from the IX. Elements of a line lost to a feed fault hold a free
value. -/
def fuFeat (s : Dev) (t : Nat) (f : Flight) (d : Desc) : Except OpFault OpOut := do
  let path := d.p 1 == 1
  check .format (d.rndOk && d.a.fmtOk (fun f => f == .f32 || f == .bf || f == .fh || f == .p43 || f == .p52 || f == .i8)
    && [d.b, d.c, d.d].all (·.fmtOk (· == .absent)))
  check .descriptor (decide (d.p 1 ≤ 1) && (if path then d.a.shapeOk else d.a.rowOk)
    && d.a.aligned && decide (d.a.rows ≤ 64) && decide (d.a.cols ≤ 2048) && decide (d.a.rows * d.a.cols ≤ 32768)
    && [d.b, d.c, d.d].all Ten.isZero)
  let lr := d.a.rowLines
  let n := d.a.rows * lr
  let got := if path then (List.range n).map f.group else []
  let fr := s.takeFree 32
  let rows := (List.range d.a.rows).map (fun r => (List.range d.a.cols).map (fun c =>
    if path then
      let b := c * d.a.w
      match got.getD (r * lr + b / 1024) none with
      | some l => d.a.decode 127 (leNat (slice l (b % 1024 / 8) (d.a.w / 8)))
      | none => fp32.decode fr.1
    else d.a.exact s t r c))
  .ok { last := f.due + n + 1
        reads := if path then [] else (List.range d.a.rows).flatMap (fun r =>
          (List.range lr).map (fun j => (f.due + r * lr + j, d.a.rowLine r j)))
        wants := if path then (List.range n).map (fun k => ⟨.ix, f.due + k, k, 1, 128⟩) else []
        ends := [(f.due + n + 1, fun s =>
          let s := if got.any (·.isNone) then { s with free := max s.free fr.2.free } else s
          s.updTile t (fun x => { x with forest := { x.forest with rows := rows, r := d.a.rows, nf := d.a.cols } }))] }

/-- How a walk ends: a leaf value, or one of the three broken limits (R233, R234). -/
inductive WalkEnd where
  | leaf (v : Val)
  | nodeRange
  | featureRange
  | depth

/-- One walk: `n` steps left, at record `at` of a tree whose records are `lo` to `hi` (R233, R234). -/
def walkTree (nodes : List Nat) (row : List Val) (nf lo hi : Nat) : Nat → Nat → WalkEnd
  | n, pos =>
    let r := nodes.getD pos 0
    if nodeKind r = 2 then .leaf (nodeValue r)
    else match n with
      | 0 => .depth
      | n + 1 =>
        if nf ≤ nodeFeature r then .featureRange else
        let x := row.getD (nodeFeature r) .nan
        let left := if x.isNan then nodeKind r == 1 else x.lt (nodeValue r)
        let nxt := pos + nodeChild r + (if left then 0 else 1)
        if lo ≤ nxt ∧ nxt ≤ hi then walkTree nodes row nf lo hi n nxt else .nodeRange
termination_by structural n => n

/-- What the walks of an fu.eval leave: accumulators and the three event counts. -/
structure EvalState where
  accs : Sparse AccRec
  depth : Nat := 0
  node : Nat := 0
  feature : Nat := 0

/-- Add the end of one walk into the accumulator (r, o) (R234, R235). -/
def addWalk (st : EvalState) (key : Nat) (w : WalkEnd) : EvalState :=
  let a := Sparse.get {} st.accs key
  let put (r : AccRec) : Sparse AccRec := Sparse.set {} st.accs key r
  match w with
  | .leaf v => { st with accs := put (a.addProduct true (-266) 0 v) }
  | .nodeRange => { st with accs := put { a with nan := true }, node := st.node + 1 }
  | .featureRange => { st with accs := put { a with nan := true }, feature := st.feature + 1 }
  | .depth => { st with accs := put { a with nan := true }, depth := st.depth + 1 }

/-- All walks of an fu.eval (R237): trees in order, rows in order. -/
def evalWalks (f : Forest) (half tn depth : Nat) (accs : Sparse AccRec) : EvalState :=
  let nodes := f.nodes half
  ((f.dir half).take tn).foldl (fun st tr =>
    (f.rows.zip (List.range f.r)).foldl (fun st row =>
      addWalk st (16 * row.2 + tr.output)
        (walkTree nodes row.1 f.nf (tr.header + 1) (tr.header + tr.nodes) depth (tr.header + 1))) st) { accs := accs }

/-- Empty the accumulators of the first `r` rows and outputs below `o`. -/
def clearAccs (accs : Sparse AccRec) (r o : Nat) : Sparse AccRec :=
  accs.filter (fun p => !(decide (p.1 / 16 < r) && decide (p.1 % 16 < o)))

/-- fu.eval (R233 to R239); each accumulator that is emitted is checked by its residue register (Table IN-2). -/
def fuEval (s : Dev) (t : Nat) (fl : Flight) (d : Desc) : Except OpFault OpOut := do
  let k := s.owner t
  let tn := leAt d.param 0 2
  let half := d.p 2
  let depth := d.p 3
  let o := d.p 4
  let clear := bit (d.p 5) 0
  let emit := bit (d.p 5) 1
  let records := bit (d.p 5) 2
  let ll := leAt d.param 6 2
  let lh := d.p 8
  let f := (s.tile t).forest
  let r := f.r
  let final := emit && !records
  check .format (d.rndOk && d.a.fmtOk (· == (if ll = 0 then .absent else .byte)) && d.b.fmtOk (· == .absent)
    && d.c.fmtOk (fun f => f == .absent || (final && f == .f32))
    && d.d.fmtOk (fun f => if final then f == .f32 || f.isHalf else f == (if emit then .wide else .absent)))
  let trees := (if clear then 0 else f.trees) + tn
  let waves := ceilDiv (r * tn) 64
  let n := r * o
  check .descriptor (decide (1 ≤ tn) && decide (half ≤ 1) && decide (tn ≤ (f.dir half).length) && decide (1 ≤ depth)
    && decide (depth ≤ 16) && decide (1 ≤ o) && decide (o ≤ 16)
    && ((f.dir half).take tn).all (fun x => decide (x.output < o)) && decide (1 ≤ r) && decide (trees ≤ 4096)
    && leAt d.param 9 23 == 0 && decide (d.p 5 < 8) && d.b.isZero && decide (lh ≤ 1) && decide (ll ≤ 256))
  check .descriptor (if ll = 0 then d.a.isZero else lh != half && decide (ll ≤ 4 * depth * waves) && d.a.rowOk
    && d.a.compact && decide (ll ≤ d.a.denseLines))
  check .descriptor (if !emit then d.c.isZero && d.d.isZero else d.d.rowOk
    && (if final then d.d.rows == r && d.d.cols == o
          && (if d.c.present then d.c.rowOk && d.c.rows == 1 && d.c.cols == o else d.c.isZero)
        else d.d.compact && d.d.rows * d.d.cols == n && d.c.isZero))
  let e := fl.due + 4 * depth * waves + 6
  let accs0 := if clear then clearAccs f.accs r 16 else f.accs
  let st := evalWalks f half tn depth accs0
  let idx := (List.range r).flatMap (fun i => (List.range o).map (fun j => (i, j)))
  let recs := idx.map (fun p => Sparse.get {} st.accs (16 * p.1 + p.2))
  let outs := (recs.zip idx).map (fun p =>
    let c := if d.c.present then d.c.exact s t 0 p.2.2 else .nzero
    d.d.fmt.round d.d.sigma (d.modeAt s k p.2.1 p.2.2) d.sat ((p.1.value true 0).add c))
  let dt := d.d.asWhole
  let writes := if final then
      placeRows s t dt (Walk.of dt.dense dt.rows dt.cols 1) (fun i => e + 19 + i / 4) (outs.map (fun x => some x.code))
    else if emit then
      (addBytes [] (128 * d.d.base) (recs.flatMap (·.toBytes true))).map
        (fun l => ⟨e + 19 + (l.1 - d.d.base), l.1, l.2, []⟩)
    else []
  let last := if emit then e + 18 + max (ceilDiv n 4) writes.length else e - 1
  .ok { last := last
        reads := lineReads fl.due (List.range' d.a.base ll)
          ++ (if final && d.c.present then d.c.lines.map (fun l => (e + 18, l)) else [])
        writes := writes
        tally := if final then tallyOf (outs.map some) 0 else {}
        ends := [(last, fun s2 =>
          let s2 := s2.updOps (fun x => { x with
            forestWalks := x.forestWalks + r * tn, depthOverruns := x.depthOverruns + st.depth,
            nodeRange := x.nodeRange + st.node, featureRange := x.featureRange + st.feature })
          let s2 := if emit then (recs.zip idx).foldl (fun s2 p =>
              checkRecord s2 t 0 fl.entry.slot (p.2.1 * o + p.2.2) p.1) s2 else s2
          let s2 := s2.updTile t (fun x => { x with forest := { x.forest with
            accs := if emit then clearAccs st.accs r o else st.accs, trees := trees } })
          if ll = 0 then s2 else loadHalf s2 t lh (nodeRecords s t d.a ll))] }

/-- The samples of one seed (R240): `u j` is the random word of sample j. The second component tells that the pair's range
ends past the index space. -/
def samplesOf (start count k : Nat) (u : Nat → Nat) : List Nat × Bool :=
  if start = nullIndex then (List.replicate k nullIndex, false)
  else if nullIndex < start + count then (List.replicate k nullIndex, true)
  else if count ≤ k then ((List.range k).map (fun j => if j < count then start + j else nullIndex), false)
  else ((List.range k).map (fun j =>
    let lo := j * count / k
    let hi := (j + 1) * count / k
    start + lo + u j * (hi - lo) / 2 ^ 32), false)

/-- fu.nsample (R240, R241). -/
def fuNsample (s : Dev) (t : Nat) (fl : Flight) (d : Desc) : Except OpFault OpOut := do
  let p := s.part (s.owner t)
  let k := d.p 0
  let two := d.c.present
  check .format (d.rndOk && d.b.fmtOk (· == .idx) && d.d.fmtOk (· == .idx)
    && d.c.fmtOk (fun f => f == .absent || f == .idx) && d.a.fmtOk (· == .absent))
  check .descriptor (decide (1 ≤ k) && decide (k ≤ 32) && d.a.isZero && d.b.rowOk && d.b.rows == 1 && d.b.compact
    && d.d.rowOk && d.d.compact && d.d.cols == k && d.b.cols == 2 * d.d.rows
    && (if two then d.c.rowOk && d.c.compact && d.c.same d.d else d.c.isZero))
  let sd := d.d.rows
  let words := indexWords s t d.b
  let seed := p.audit.seeds.getD d.seed 0
  let per := (List.range sd).map (fun i => samplesOf (words.getD (2 * i) 0) (words.getD (2 * i + 1) 0) k
    (fun j => randomWord seed p.audit.step d.tensorId (d.canonBase + i * d.canonPitch + j)))
  let flat := per.flatMap (·.1)
  let segs := (per.zip (List.range sd)).flatMap (fun x => x.1.1.map (fun v => if v = nullIndex then nullIndex else x.2))
  let f := if two then 2 else 1
  let g := ceilDiv (sd * k) 16
  let cyc (l : Nat) : Nat := fl.due + 4 + f * min (g - 1) (2 * l + 1) + 1
  let dl := addBytes [] (128 * d.d.base) (packCodes 32 flat)
  let cl := if two then addBytes [] (128 * d.c.base) (packCodes 32 segs) else []
  let last := fl.due + 4 + f * g
  .ok { last := last
        reads := (List.range d.b.denseLines).map (fun m => (fl.due + f * m * k, d.b.base + m))
        writes := dl.map (fun l => ⟨cyc (l.1 - d.d.base), l.1, l.2, []⟩)
          ++ cl.map (fun l => ⟨cyc (l.1 - d.c.base) + 1, l.1, l.2, []⟩)
        ends := [(last, fun s =>
          let s := countRange (per.filter (·.2)).length s
          s.updOps (fun o => { o with samples := o.samples + (flat.filter (· != nullIndex)).length }))] }

end Sys2Proof.Machine
end

