-- ==== Sys2Proof/Machine/Rings.lean ====
section
/-!
DEFINITION. Rings, responses and interrupts (20): posting entries, the backlog, dropped entries, MSI-X.
-/
namespace Sys2Proof.Machine

/-- Change a function. -/
def Dev.updFn (s : Dev) (f : Nat) (g : HostFn → HostFn) : Dev := { s with fns := Sparse.update .reset s.fns f g }
/-- Whether a function exists (R580). -/
def Dev.fnEnabled (s : Dev) (f : Nat) : Bool := f ≤ s.pcie.numVfs && f ≤ 16
/-- A ring of a function. -/
def HostFn.ring (f : HostFn) (r : Nat) : Ring := f.rings.getD r .reset
/-- Change a ring of a function. -/
def HostFn.updRing (f : HostFn) (r : Nat) (g : Ring → Ring) : HostFn := { f with rings := f.rings.set r (g (f.ring r)) }
/-- Set a bit of HI_ERR (Table HI-2). -/
def Dev.hiErr (s : Dev) (f b : Nat) : Dev := s.updFn f (fun x => { x with err := setBit x.err b true })

/-- Posted writes into host memory (R31). -/
def Dev.post (s : Dev) (a : Nat) (d : Bytes) : Dev := { s with hostMem := putBytes s.hostMem a d }

/-- Ring size in bytes. -/
def Ring.size (r : Ring) : Nat := 2 ^ r.sizeLog2
/-- PAD bytes before an entry of length `n` (R597). -/
def Ring.pad (r : Ring) (n : Nat) : Nat := if r.size < r.tail % r.size + n then r.size - r.tail % r.size else 0
/-- Whether a ring has room for an entry (R597). -/
def Ring.room (r : Ring) (n : Nat) : Bool := r.tail + r.pad n + n - r.head ≤ r.size
/-- PHASE of an entry that begins at the present tail (R597). -/
def Ring.phase (r : Ring) : Nat := 1 - r.tail / r.size % 2

/-- The ring header (Table HI-9). -/
def ringHeader (s : Dev) (f : Nat) (r : Ring) (kind n : Nat) : Bytes :=
  leBytes 1 kind ++ leBytes 1 (r.phase + 2 * boolNat (s.time.sync != 2)) ++ leBytes 2 f ++ leBytes 4 n
    ++ leBytes 8 s.time.bc

/-- Whether a vector may not send its message: it is masked, or its function is, or MSI-X is not enabled (R600). -/
def HostFn.vectorMasked (x : HostFn) (v : Nat) : Bool := !x.msixOn || x.allMasked || bit x.masked v

/-- A vector signals: its message is sent, or its PBA bit set while it is masked (R600). -/
def signalVector (s : Dev) (f v : Nat) : Dev :=
  s.updFn f (fun x =>
    if x.vectorMasked v then { x with pba := setBit x.pba v true }
    else { x with messages := Sparse.set 0 x.messages v (Sparse.get 0 x.messages v + 1) })

/-- A ring's interrupt (R600). -/
def signalRing (s : Dev) (f r : Nat) : Dev :=
  let v := ((s.fn f).ring r).vector
  if !(s.fn f).busMaster then s else
  signalVector (s.updFn f (·.updRing r (fun g => { g with unsignalled := 0 }))) f v

/-- Whether a function may post at all (R581, R602). -/
def Dev.canPost (s : Dev) (f r : Nat) : Bool :=
  s.fnEnabled f && (s.fn f).busMaster && !(s.fn f).clearing && s.pcie.linkUp && ((s.fn f).ring r).enable

/-- Write an entry at the ring's tail, after its PAD, and post the tail (R597, R600). -/
def writeEntry (s : Dev) (f r kind : Nat) (body : Bytes) : Dev :=
  let g := (s.fn f).ring r
  let n := entryLength body
  let p := g.pad n
  let s := if p = 0 then s else s.post (g.base + g.tail % g.size) (ringHeader s f g 0 p)
  let g := { g with tail := g.tail + p }
  let a := g.base + g.tail % g.size
  let s := s.post a (ringHeader s f g kind n ++ padTo (n - 16) body)
  let g := { g with
    tail := g.tail + n, unsignalled := g.unsignalled + 1
    unsignalledBc := if g.unsignalled = 0 then s.time.bc else g.unsignalledBc }
  let s := s.updFn f (·.updRing r (fun _ => g))
  let s := if g.shadow = 0 then s else s.post g.shadow (leBytes 8 g.tail)
  if max 1 g.modCount ≤ g.unsignalled then signalRing s f r else s

/-- The entry that a waiting item is posted as (Table HI-10a). -/
def Waiting.entry (w : Waiting) : Nat × Bytes :=
  if w.count = 0 then (w.kind, w.body)
  else (0x02, leBytes 1 w.kind ++ zeros 3 ++ leBytes 4 w.count ++ leBytes 8 w.bcFirst ++ leBytes 8 w.bcLast)

/-- Post the oldest item of a ring that waits, once the ring has room (R599). -/
def postNext (s : Dev) (f r : Nat) : Dev :=
  if !s.canPost f r then s else
  match (s.fn f).backlog.find? (·.ring == r) with
  | some w =>
    if ((s.fn f).ring r).room (entryLength w.entry.2) then
      writeEntry (s.updFn f (fun x => { x with backlog := x.backlog.erase w })) f r w.entry.1 w.entry.2
    else s
  | none => s

/-- Add a dropped entry to the run of its kind that ends a ring's waiting items. -/
def addDrop (r kind bc : Nat) : List Waiting → List Waiting
  | [] => [⟨r, kind, [], 1, bc, bc⟩]
  | w :: t =>
    if w.ring = r ∧ w.kind = kind ∧ w.count ≠ 0 ∧ ¬ t.any (fun v => v.ring == r && v.count == 0) then
      { w with count := w.count + 1, bcLast := bc } :: t
    else w :: addDrop r kind bc t

/-- Count a dropped entry (R599). -/
def dropEntry (s : Dev) (f r kind : Nat) : Dev :=
  let s := { s with hostTotals := { s.hostTotals with ringDrops := s.hostTotals.ringDrops + 1 } }
  if !s.fnEnabled f then s else
  s.updFn f (fun x =>
    let x := x.updRing r (fun g => { g with drops := g.drops + 1 })
    { x with backlog := addDrop r kind s.time.bc x.backlog })

/-- An entry arises for a ring: it is posted at once when nothing of its ring waits and the ring can take it; otherwise it
waits in the backlog, or is dropped where the backlog is full (R597 to R599). -/
def pushEntry (s : Dev) (f r kind : Nat) (body : Bytes) : Dev :=
  if !s.fnEnabled f then dropEntry s f r kind else
  let x := s.fn f
  let waits := x.backlog.any (·.ring == r)
  if s.canPost f r && !waits && (x.ring r).room (entryLength body) then writeEntry s f r kind body
  else if r = 0 ∨ x.backlogBytes + entryLength body ≤ 2 ^ 20 then
    s.updFn f (fun x => { x with backlog := x.backlog ++ [⟨r, kind, body, 0, 0, 0⟩] })
  else dropEntry s f r kind

/-- The body of a response (Table HI-10a). -/
def responseBody (tag seq opcode ts cs bc detail : Nat) : Bytes :=
  leBytes 8 tag ++ leBytes 4 seq ++ leBytes 2 opcode ++ leBytes 1 ts ++ leBytes 1 cs ++ leBytes 8 bc ++ leBytes 8 detail

/-- A command's one response (R587, R589): it is dropped where the function has been reset since (R602). -/
def respond (s : Dev) (c : Cmd) (ts cs detail : Nat) : Dev :=
  let s := { s with commands := s.commands.filter (·.id != c.id) }
  if (s.fn c.fn).gen ≠ c.gen then s else
  let s := s.updFn c.fn (fun x => { x with owed := x.owed - 1 })
  pushEntry s c.fn 0 0x01 (responseBody c.tag c.seq c.opcode ts cs c.accepted detail)

/-- An event entry of a function (R598). -/
def pushEvent (s : Dev) (f kind : Nat) (body : Bytes) : Dev := pushEntry s f 1 kind body

/-- The accepted command of a number. -/
def Dev.command (s : Dev) (id : Nat) : Option Cmd := s.commands.find? (·.id == id)

/-- Bytes as a control-plane read delivers them: corrected words, rebuilt words of a page that decodes (R530, R537). -/
def Dev.deliveredBytes (s : Dev) (a n : Nat) : Bytes :=
  let word (w : Nat) : Nat :=
    if (isHbm (8 * w) || isCap (8 * w)) && s.wordClassAt w == .uncorrectable && pageDecodes s (8 * w / 2048)
    then s.rebuiltWord w else s.goodWord w
  if (s.faultySpan a n).isEmpty then s.rawBytes a n
  else ((wordSpan a n).flatMap (fun w => leBytes 8 (word w))).drop (a % 8) |>.take n

/-- Whether a control-plane read meets a word that no code delivers (Table IN-6). -/
def Dev.readLost (s : Dev) (a n : Nat) : Bool :=
  (s.faultySpan a n).any (fun w => (s.wordClassAt w).lost
    && !((isHbm (8 * w) || isCap (8 * w)) && s.wordClassAt w == .uncorrectable && pageDecodes s (8 * w / 2048)))

/-- The last part of a MEM_READ has been read: the bytes are copied into the bulk window as posted writes, and the response
follows (R592); a word that cannot be delivered is an error, and nothing is copied (Table IN-6). -/
def memReadDone (s : Dev) (c : Cmd) : Dev :=
  let n := c.arg1
  if s.readLost c.arg0 n then respond s c 0 1 0
  else
    let x := s.fn c.fn
    let base := x.bulkBase.getD (c.arg2 % 2) 0 + c.arg2 / 256 * 256
    let s := if x.gen = c.gen ∧ x.busMaster ∧ s.pcie.linkUp then s.post base (s.deliveredBytes c.arg0 n) else s
    respond s c 0 0 n

/-- Tell a started command how many parts it waits for and what it will answer. -/
def setParts (s : Dev) (c : Cmd) (n status detail : Nat) : Dev :=
  { s with commands := s.commands.map (fun x => if x.id = c.id then
    { x with started := true, left := n, status := status, detail := detail } else x) }

/-- One part of a command's work is complete; with the last part it is answered (R592). -/
def commandPart (s : Dev) (id : Nat) : Dev :=
  match s.command id with
  | none => s
  | some c =>
    if c.left ≤ 1 then (if c.opcode = 0x0101 then memReadDone s c else respond s c 0 c.status c.detail)
    else { s with commands := s.commands.map (fun x => if x.id = id then { x with left := x.left - 1 } else x) }

end Sys2Proof.Machine
end

