-- ==== Sys2Proof/Machine/LinkBase.lean ====
section
/-!
DEFINITION. What links, fabric and synchronisation share (12 to 14): packets and flits as bytes, the notice queue, link
timers, signal counts and inboxes.
-/
namespace Sys2Proof.Machine

/-- Link `l`. -/
def Dev.link (s : Dev) (l : Nat) : LinkState := Sparse.get .reset s.links l
/-- Change link `l`. -/
def Dev.updLink (s : Dev) (l : Nat) (f : LinkState → LinkState) : Dev :=
  { s with links := Sparse.update .reset s.links l f }
/-- Change the router. -/
def Dev.updRouter (s : Dev) (f : Router → Router) : Dev := { s with router := f s.router }
/-- Change the synchronisation totals. -/
def Dev.updSync (s : Dev) (f : SyncTotals → SyncTotals) : Dev := { s with sync := f s.sync }
/-- Change what a partition holds of fabric and synchronisation. -/
def Dev.updNet (s : Dev) (k : Nat) (f : Net → Net) : Dev := s.updPart k (fun p => { p with net := f p.net })
/-- Change a link's counters. -/
def LinkState.count (l : LinkState) (f : LinkCounters → LinkCounters) : LinkState := { l with cnt := f l.cnt }

/-- The network die of a link: ND0 links 0 to 31, ND1 links 32 to 63 (R14). -/
def linkDie (l : Nat) : Nat := l / 32
/-- The network die of a tile's edge column (R125): ND0 for columns 0 to 11. -/
def tileNd (t : Nat) : Nat := if tileCol t < 12 then 0 else 1

/-- The links of a mask, in rising order. -/
def linksOf (m : Nat) : List Nat := (List.range 64).filter (bit m)

/-- LATENCY in whole beats (R346). -/
def LinkState.beats (l : LinkState) : Nat := ceilDiv l.latency 16
/-- ROUND_TRIP in whole beats (R346). -/
def LinkState.tripBeats (l : LinkState) : Nat := ceilDiv l.roundTrip 16

/-- The header of a packet (Table FB-1). -/
def Packet.header (p : Packet) : Bytes :=
  leBytes 4 (p.dest % 2 ^ 20 + p.kind * 2 ^ 20 + p.flow * 2 ^ 24 + boolNat p.planned * 2 ^ 28 + p.vc * 2 ^ 29)
    ++ leBytes 4 (p.src % 2 ^ 20 + p.srcId * 2 ^ 20) ++ leBytes 6 p.addr ++ leBytes 2 p.fence ++ leBytes 2 p.len
    ++ leBytes 2 p.lastRank ++ leBytes 4 (p.mid % 2 ^ 20 + p.phase * 2 ^ 20)
    ++ leBytes 2 (p.rtag % 2 ^ 12 + p.status * 2 ^ 12) ++ leBytes 2 (p.xfer % 2 ^ 14 + p.hop * 2 ^ 14)
    ++ leBytes 4 p.route

/-- The packet a header spells, with its payload (Table FB-1). -/
def Packet.parse (b : Bytes) : Packet :=
  let w0 := leAt b 0 4
  let w4 := leAt b 4 4
  let w20 := leAt b 20 4
  let w24 := leAt b 24 2
  let w26 := leAt b 26 2
  let kind := bits w0 20 4
  let len := leAt b 16 2 % 2 ^ 13
  { dest := bits w0 0 20, kind := kind, flow := bits w0 24 4, planned := bit w0 28, vc := bits w0 29 3,
    src := bits w4 0 20, srcId := bits w4 20 12, addr := leAt b 8 6, fence := leAt b 14 2, len := len,
    lastRank := leAt b 18 2, mid := bits w20 0 20, phase := bits w20 20 1, rtag := bits w24 0 12,
    status := bits w24 12 4, xfer := bits w26 0 14, hop := bits w26 14 2, route := leAt b 28 4 % 2 ^ 18,
    payload := if kind = 3 then [] else slice b 32 len }

/-- Flits of a packet with `n` payload bytes (R377). -/
def flitCount (n : Nat) : Nat := if n ≤ 184 then 1 else 1 + ceilDiv (n - 184) 216

/-- The flits of a packet (R350, R352, R377). -/
def Packet.flits (p : Packet) : List Flit :=
  let b := p.header ++ p.payload
  let n := flitCount p.payload.length
  (List.range n).map (fun i =>
    ⟨1 + 4 * boolNat (i == 0) + 8 * boolNat (i == n - 1) + 16 * boolNat p.planned + 32 * p.vc, slice b (216 * i) 216⟩)

/-- Whether a link carries notices: it is UP and runs DLP 2.1 (Table LK-9). -/
def LinkState.carriesNotices (l : LinkState) : Bool := l.st == 4 && l.dlp == 0x0201

/-- Put a tree message into the notice FIFO of a link (R354, R410). -/
def sendTree (s : Dev) (l kind fence : Nat) (body : Bytes) : Dev :=
  if (s.link l).carriesNotices then
    s.updLink l (fun x => { x with notices := x.notices ++ [(kind, leBytes 2 fence ++ padTo 12 body)] })
  else s

/-- The body of a hold notice (Table LK-4). -/
def holdBody (fence serial dev cause ph : Nat) : Bytes :=
  leBytes 2 fence ++ leBytes 1 serial ++ leBytes 3 (dev % 2 ^ 20 + cause * 2 ^ 20) ++ leBytes 8 ph

/-- Ph, serial and tag of a hold notice's body. -/
def holdPh (b : Bytes) : Nat := leAt b 6 8
/-- The episode serial of a body. -/
def bodySerial (b : Bytes) : Nat := byteAt b 2
/-- The fence tag of a body. -/
def bodyFence (b : Bytes) : Nat := leAt b 0 2

/-- Send a hold notice on a link: a smaller Ph replaces the one of the episode that is being repeated; one that cannot lower a hold point that
the link has already carried in the episode is not sent (R354). -/
def sendHold (s : Dev) (l : Nat) (body : Bytes) : Dev :=
  let x := s.link l
  let key (e : Nat × Nat × Nat) : Bool := e.1 == bodyFence body && e.2.1 == bodySerial body
  let before := x.holdSent.find? key
  if !x.carriesNotices || (match before with | some e => decide (e.2.2 ≤ holdPh body) | none => false) then s
  else s.updLink l (fun x => { x with
    holds := x.holds.filter (fun h => bodyFence h.body != bodyFence body) ++ [⟨body, 0⟩], copies := 0
    holdSent := (bodyFence body, bodySerial body, holdPh body) :: x.holdSent.filter (fun e => !key e) })

/-- The repetition of a hold notice ends: the link has carried the RESUME, or the serial has moved on (R354). -/
def endHold (s : Dev) (l fence serial : Nat) : Dev :=
  s.updLink l (fun x => { x with
    holds := x.holds.filter (fun h => !(bodyFence h.body == fence && bodySerial h.body == serial)) })

/-- The episode serial of a job moves on or is cleared: no link repeats its hold notice any longer, and none remembers the
hold points that it carried in the episode (R354, R411, R433). -/
def endEpisode (s : Dev) (fence : Nat) : Dev :=
  (List.range 64).foldl (fun s l => s.updLink l (fun x => { x with
    holds := x.holds.filter (fun h => bodyFence h.body != fence)
    holdSent := x.holdSent.filter (fun e => e.1 != fence) })) s

/-- Whether this device is the crown of a partition's job (R408). -/
def Net.isCrown (n : Net) : Bool := n.treeState != 1 || n.parentLink == 0xFE

/-- Whether a wake cause still counts: the wake in progress, if any, is not complete (R265). -/
def Core.wakeOpen (c : Core) (bc : Nat) : Bool := match c.wakeDone with | some b => decide (bc < b) | none => true

/-- A wake cause of a napping or waking tile is noted (R265). -/
def Tile.noteWake (x : Tile) (bc i : Nat) : Tile :=
  if (x.clock.gen == .napped || x.clock.gen == .waking) && x.core.wakeOpen bc then
    { x with core := { x.core with wakeCauses := setBit x.core.wakeCauses i true } }
  else x

/-- A signal count of a tile increments; a napping or waking tile notes its cause (R256, R265). -/
def signalTile (s : Dev) (t j : Nat) : Dev :=
  let bc := s.time.bc
  s.updTile t (fun x => { x with signals := x.signals.set j (x.signals.getD j 0 + 1) }.noteWake bc j)

/-- A notice enters the inbox of a tile that has room (R258, R431). -/
def inboxPut (s : Dev) (t : Nat) (n : Bytes) : Dev :=
  let bc := s.time.bc
  s.updTile t (fun x => (x.updCore (fun c => { c with inbox := c.inbox ++ [padTo 16 n] })).noteWake bc 16)

/-- Travel time in planned cycles from a tile to a network die: 24, and 2 for each hop along its row to the edge column,
with 16 more where the row crosses the die boundary (R124, R125). -/
def travelTo (t nd : Nat) : Nat :=
  24 + (if nd = 0 then 2 * tileCol t + (if 12 ≤ tileCol t then 16 else 0)
        else 2 * (23 - tileCol t) + (if tileCol t < 12 then 16 else 0))

/-- The beat edge at which what a tile posts in its present planned cycle arrives at a network die: the first at or after the
actual start of the cycle plus T nominal cycles, plus one beat (R379, R388, R413, R686). -/
def arrivalBeat (s : Dev) (t nd : Nat) : Nat :=
  let c := s.cyclesPerBeat (s.owner t)
  let moment := (s.tile t).clock.cycleAt + (travelTo t nd * beatTime / c : Nat)
  (s.time.bc + (moment + beatTime - 1) / beatTime + 1).toNat

/-- The partition that holds a fence tag (R401). -/
def Dev.partOfTag (s : Dev) (tag : Nat) : Option Nat :=
  if tag = 0 ∨ tag = 0xFFFF then none else (List.range 16).find? (fun k => (s.part k).fenceTag == tag)

end Sys2Proof.Machine
end

