-- ==== Sys2Proof/Machine/Guard.lean ====
section
/-!
DEFINITION. The regions of weight batches (16): which batch an access touches, and what is guarded.
-/
namespace Sys2Proof.Machine

/-- The weights of a partition. -/
def Dev.weights (s : Dev) (k : Nat) : Weights := (s.part k).weights
/-- Change the weights of a partition. -/
def Dev.updWeights (s : Dev) (k : Nat) (f : Weights → Weights) : Dev :=
  s.updPart k (fun p => { p with weights := f p.weights })
/-- Change the weight totals. -/
def Dev.updWt (s : Dev) (f : WeightTotals → WeightTotals) : Dev := { s with weightTotals := f s.weightTotals }
/-- A batch. -/
def Weights.batch (w : Weights) (b : Nat) : Batch := w.batches.getD b .reset
/-- Change a batch. -/
def Weights.updBatch (w : Weights) (b : Nat) (f : Batch → Batch) : Weights :=
  { w with batches := w.batches.set b (f (w.batch b)) }

/-- Whether two ranges of bytes meet. -/
def rangesMeet (a n b m : Nat) : Bool := decide (a < b + m) && decide (b < a + n) && decide (0 < n) && decide (0 < m)

/-- The regions of a batch. -/
def WConfig.regionsOf (c : WConfig) (b : Nat) : List (Nat × Nat) := c.table.getD b []
/-- Bytes of a manifest area (R482). -/
def manifestArea : Nat := 8388608

/-- Whether an access touches a region of a READY, ARMED or LIVE batch, or, with `area`, its manifest area (R493). -/
def Dev.protectedWeights (s : Dev) (k a n : Nat) (area : Bool) : Bool :=
  match (s.weights k).config with
  | none => false
  | some c => (List.range 2).any (fun b => 2 ≤ ((s.weights k).batch b).state &&
      ((c.regionsOf b).any (fun r => rangesMeet a n r.1 r.2)
        || (area && rangesMeet a n (c.manifestAddr.getD b 0) manifestArea)))

/-- Whether GUARD turns a memory-queue write away (R493). -/
def Dev.guardTouched (s : Dev) (k a n : Nat) : Bool :=
  (match (s.weights k).config with | some c => c.guard | none => false) && s.protectedWeights k a n false

end Sys2Proof.Machine
end

