-- ==== Sys2Proof/Machine/MemQueue.lean ====
section
/-!
DEFINITION. The memory queue (10): requests, their checks and costs, posting, MQ-full waits, and the recording of
completions.
-/
namespace Sys2Proof.Machine

/-- The die of a channel: 0–3 compute die, 4 and 5 network dies (R13, R275). -/
def channelDie (c : Nat) : Nat := if c < 256 then c / 64 else if c < 264 then 4 else 5

/-- The fixed latency of a read or a write (Table ME-7). -/
def fixedLatency (t c : Nat) (write : Bool) : Nat :=
  let td := tileDie t
  let cd := channelDie c
  if cd < 4 then
    if cd = td then (if write then 20 else 24)
    else if cd + td = 3 then (if write then 36 else 40)
    else (if write then 28 else 32)
  else if cd - 4 = td % 2 then (if write then 52 else 60) else (if write then 64 else 72)

/-- Whether a write covers every page it touches as a whole. -/
def wholePages (a n : Nat) : Bool := a % 2048 == 0 && n % 2048 == 0

/-- Planned slots P of a channel of a partition (Table ME-3). -/
def Dev.planSlots (s : Dev) (k c : Nat) : Nat := if c < 256 then 304 - (s.part k).hbmCp else 132 - (s.part k).capCp

/-- The share of a bound of one access: fixed latency, and `extra` slots beside its cost at the channel's planned rate (R293,
R294, R542). -/
def boundShare (s : Dev) (t k a n : Nat) (write : Bool) (extra : Nat) : Nat :=
  let c := channelOf a
  let lfix := if write && !wholePages a n then fixedLatency t c false + 8 else fixedLatency t c write
  lfix + ceilDiv (((if write then writeCost a n else readCost a n) + extra) * 64) (s.planSlots k c)

/-- The bound of a request that reads `extra` further slots at its source (R294, R538). -/
def boundWith (s : Dev) (t k : Nat) (e : MqEntry) (extra : Nat) : Nat :=
  128 + match e.op with
    | .read | .gather => boundShare s t k e.addr e.len false extra
    | .write | .scatter => boundShare s t k e.addr e.len true extra
    | .move => boundShare s t k e.addr e.len false extra + boundShare s t k e.dest e.len true 0

/-- The service bound Tbound of a request (R294). -/
def serviceBound (s : Dev) (t k : Nat) (e : MqEntry) : Nat := boundWith s t k e 0

/-- The bound Tpage of a read that needs the page code for `n` pages: 33 further slots for each, and the decoder's 24 beats
(R538). -/
def pageBound (s : Dev) (t k : Nat) (e : MqEntry) (n : Nat) : Nat := boundWith s t k e (33 * n) + 24

/-- Whether `n` bytes at an address are memory of partition `k` within one channel window (R271, R286). -/
def Dev.memOf (s : Dev) (k a n : Nat) : Bool :=
  (isHbm a || isCap a) && (isHbm (a + n - 1) || isCap (a + n - 1)) && channelOf a == channelOf (a + n - 1)
    && s.memBacked a n && s.partOfChannel (channelOf a) == some k

/-- Whether a request writes memory from the tile store. -/
def MqEntry.pays (e : MqEntry) : Bool := match e.op with | .write | .scatter => true | _ => false

/-- Lines of the write-data buffer in use: those that have not left the port (R283). -/
def MemQueue.bufferLines (q : MemQueue) : Nat := q.entries.foldl (fun n e => n + e.inPort) 0

/-- Whether the queue has room for a row, beside `rows` that have had their first step and are not yet posted (R288). -/
def MemQueue.room (q : MemQueue) (rows : List MqEntry) (e : MqEntry) : Bool :=
  let lines (e : MqEntry) : Nat := if e.pays then ceilDiv e.len 128 else 0
  decide (q.entries.length + rows.length < 64)
    && (!e.pays || decide (q.bufferLines + (rows.map lines).foldl (· + ·) 0 + lines e ≤ 256))

/-- An address fault of a request (R271, R286): contained; the request completes unperformed. -/
def addressFault (s : Dev) (t a : Nat) : Dev :=
  let s := s.updMemTotals (fun m => { m with addressFaults := m.addressFaults + 1 })
  let s := s.updTile t (·.updMq (fun q => { q with lastFaultAddr := a }))
  raiseTile s 9 286 t (tileDetail (s.tile t).core.cycle 6 a)

/-- The destination lines of a read or gather are undefined (R292). -/
def freeRow (s : Dev) (t : Nat) (e : MqEntry) : Dev := freeRange s (storeAddr t e.offset) (128 * ceilDiv e.len 128)

/-- The BC of the edge at or before the start of a tile's planned cycle in progress. -/
def Dev.cycleBeat (s : Dev) (t : Nat) : Nat := s.time.bc - ceilDiv (-(s.tile t).clock.cycleAt).toNat beatTime

/-- Post one request (R286, R287): it enters the queue with its payload; the destination lines of a read or gather are
undefined until its completion is recorded (R292); an address out of reach faults; a null index completes at once, a gather's
row then being zeros. -/
def postRequest (s : Dev) (t : Nat) (e : MqEntry) (isNull : Bool) : Dev :=
  let k := s.owner t
  let id := s.accessSeq
  let s := { s with accessSeq := id + 1 }
  let s := s.updMemTotals (fun m => { m with requests := m.requests + 1 })
  let add (s : Dev) (e : MqEntry) : Dev := s.updTile t (·.updMq (fun q => { q with entries := q.entries ++ [e] }))
  let e := { e with id := id, posted := s.cycleBeat t }
  if isNull then
    if e.op = .gather then
      let s := digestSee (writeStore s t e.offset (zeros e.len) []) t e.offset e.len
      freeRow (add s { e with phase := .complete, data := zeros e.len, faults := [] }) t e
    else add s { e with phase := .complete, data := [], faults := [] }
  else
    let bad := !s.memOf k e.addr e.len || (e.pays && s.guardTouched k e.addr e.len)
    let badDest := e.op == .move && (!s.memOf k e.dest e.len || s.guardTouched k e.dest e.len)
    if bad || badDest then
      addressFault (add s { e with phase := .complete, data := [], faults := [] }) t (if bad then e.addr else e.dest)
    else
      let s := if e.op = .read ∨ e.op = .gather then freeRow s t e else s
      add s { e with
        bound := serviceBound s t k e, phase := .access
        left := if e.pays then writeCost e.addr e.len else readCost e.addr e.len
        inPort := if e.pays then ceilDiv e.len 128 else 0 }

/-- The kind of an mv.mq as a request (Table ME-6). -/
def mqOpOf (kind : Nat) : MqOp :=
  match kind with | 0 => .read | 1 => .write | 2 => .gather | 3 => .scatter | _ => .move

/-- The cycle of the step that posts row `i`, from d (R287). -/
def postStep (kind lr i : Nat) : Nat :=
  match kind with
  | 2 => i + i / 32 + 1
  | 1 => (i + 1) * lr - 1
  | 3 => i / 32 + (i + 1) * lr
  | _ => i

/-- The cycle of the first step of row `i`, from d (R287). -/
def firstStep (kind lr i : Nat) : Nat := if kind = 1 ∨ kind = 3 then postStep kind lr i + 1 - lr else postStep kind lr i

/-- mv.mq (R284 to R288): a row's request is posted in the cycle of its last step, with the payload lines read in its steps. -/
def mvMq (s : Dev) (t : Nat) (f : Flight) (d : Desc) : Except OpFault OpOut := do
  let kind := d.p 6
  let byIndex := kind == 2 || kind == 3
  let pays := kind == 1 || kind == 3
  check .format (d.rndOk && d.a.fmtOk (· == .byte) && d.b.fmtOk (· == .byte)
    && d.c.fmtOk (fun f => if byIndex then f == .idx else f == .absent) && d.d.fmtOk (· == .absent))
  let maddr := leAt d.param 0 6
  let stride := leAt d.param 8 6
  let mdest := leAt d.param 16 6
  let mstep := leAt d.param 24 4
  check .descriptor (decide (kind ≤ 4) && decide (d.p 7 < 8) && maddr % 8 == 0 && stride % 8 == 0 && mdest % 8 == 0
    && leAt d.param 14 2 == 0 && leAt d.param 22 2 == 0 && leAt d.param 28 4 == 0 && d.a.aligned
    && decide (8 ≤ d.a.cols) && decide (d.a.cols ≤ 16384) && d.a.cols % 8 == 0
    && decide (d.a.rows ≤ 4096) && (if kind = 4 then d.a.shapeOk else d.a.rowOk) && d.d.isZero
    && (if byIndex then d.c.rowOk && d.c.rows == 1 && d.c.cols == d.a.rows else d.c.isZero))
  let base := maddr + d.b.base * mstep
  let lr := d.a.rowLines
  let ix := if byIndex then indexWords s t d.c else []
  let rows := (List.range d.a.rows).map (fun i =>
    let idx := ix.getD i 0
    let off := 128 * d.a.rowLine i 0
    let pay := if pays then copyBytes s (storeAddr t off) d.a.cols else ([], [])
    (⟨f.due + firstStep kind lr i, f.due + postStep kind lr i,
      { id := 0, op := mqOpOf kind, count := d.p 7, addr := base + (if byIndex then idx else i) * stride
        dest := if kind = 4 then mdest + d.b.base * mstep + i * stride else 0
        len := d.a.cols, offset := off, data := pay.1, faults := pay.2, bound := 0, posted := 0, phase := .access, left := 0
        landing := 0, late := false, inPort := 0, paged := false, yielded := [] },
      byIndex && idx == nullIndex⟩ : QueueRow))
  .ok { last := f.due + postStep kind lr (d.a.rows - 1)
        reads := if byIndex then (List.range (ceilDiv d.a.rows 32)).map (fun g =>
          (f.due + g * (1 + 32 * (if kind = 3 then lr else 1)), d.c.base + g)) else []
        moves := if pays then (List.range d.a.rows).flatMap (fun i => (List.range lr).map (fun j =>
          (f.due + firstStep kind lr i + j, d.a.rowLine i j))) else []
        rows := rows }

/-- Record completions of count `n` in order: 1 for each complete request that no earlier request of the count precedes (R290);
what a read or gather has landed becomes the contents of its lines (R292), and a completion after the bound is counted
(R296). -/
def recordAux : Nat → Dev → Nat → Nat → Dev
  | 0, s, _, _ => s
  | f + 1, s, t, n =>
    match (s.tile t).mq.entries.find? (fun e => e.count == n) with
    | none => s
    | some e =>
      if e.phase = .complete then
        let lateNow := boolNat e.late
        let s := if e.op = .read ∨ e.op = .gather then writeStore s t e.offset e.data e.faults else s
        let s := s.updTile t (·.updMq (fun q => { q with
          entries := q.entries.filter (·.id != e.id)
          counts := q.counts.set n (q.counts.getD n 0 + 1)
          boundOverruns := q.boundOverruns + lateNow }))
        recordAux f (s.updMemTotals (fun m => { m with boundOverruns := m.boundOverruns + lateNow })) t n
      else s

/-- MQ_COMPLETION (R290). -/
def mqCompletion (s : Dev) (t n : Nat) : Dev := recordAux (s.tile t).mq.entries.length s t n

/-- A request is complete (R289). It is late where the edge at or after this moment lies past its bound, counted from the edge
at or before its posting; a read that needs the page code has no service bound (R294, R296, R538). -/
def MqEntry.completed (e : MqEntry) (bc : Nat) : MqEntry :=
  { e with phase := .complete, left := 0, landing := 0, late := !e.paged && decide (e.posted + e.bound < bc + 1) }

end Sys2Proof.Machine
end

