-- ==== Sys2Proof/Machine/CtlWrite.lean ====
section
/-!
DEFINITION. Control-plane accesses (10, 13): their reach, their parts, landings and the park buffer.
-/
namespace Sys2Proof.Machine

/-- Whether an address lies in the tile stores (Table ME-1). -/
def isStore (a : Nat) : Bool := 0x080000000000 ≤ a && a < 0x080054000000
/-- Whether an address lies in the instruction memories (Table ME-1). -/
def isImem (a : Nat) : Bool := 0x090000000000 ≤ a && a < 0x090005400000
/-- The tile of a tile-store address. -/
def storeTile (a : Nat) : Nat := (a - 0x080000000000) / 0x200000
/-- The tile of an instruction-memory address. -/
def imemTile (a : Nat) : Nat := (a - 0x090000000000) / 0x20000

/-- The window an address lies in: a channel, a tile store, or one bank of an instruction memory. -/
def windowSize (a : Nat) : Nat :=
  if isHbm a then 0x80000000 else if isCap a then 0x2000000000 else if isImem a then 0x10000 else 0x200000

/-- The parts of an access: address and length within one window each (R271). `fuel` bounds their number. -/
def accessParts : Nat → Nat → Nat → List (Nat × Nat)
  | 0, _, _ => []
  | f + 1, a, n =>
    if n = 0 then [] else
    let w := windowSize a
    let k := min n (w - a % w)
    (a, k) :: accessParts f (a + k) (n - k)

/-- The parts of an access of at most 16 MiB. -/
def partsOf (a n : Nat) : List (Nat × Nat) := accessParts (n / 0x10000 + 2) a n

/-- Whether an address lies in a resource that is being cleared (R565). -/
def Dev.isClearing (s : Dev) (a : Nat) : Bool :=
  if isHbm a then bit s.power.clearingHbm (channelOf a)
  else if isCap a then bit s.power.clearingCap (channelOf a - 256)
  else if isStore a then bit s.power.clearingGroups (tileGroup (storeTile a))
  else isImem a && bit s.power.clearingGroups (tileGroup (imemTile a))

/-- Whether one part lies in memory or a tile store that partition `k` holds (R271). -/
def Dev.partHeld (s : Dev) (k : Nat) (p : Nat × Nat) : Bool :=
  if isHbm p.1 || isCap p.1 then s.memBacked p.1 p.2 && s.partOfChannel (channelOf p.1) == some k
  else isStore p.1 && s.tileEnabled (storeTile p.1) && s.partOfTile (storeTile p.1) == some k

/-- Whether one part is held by partition `k` and not being cleared (R271, R565). -/
def Dev.partReach (s : Dev) (k : Nat) (p : Nat × Nat) : Bool := !s.isClearing p.1 && s.partHeld k p

/-- Whether every byte of a control-plane access is within reach of partition `k` (R271). -/
def Dev.reach (s : Dev) (k a n : Nat) : Bool := (partsOf a n).all (s.partReach k)

/-- Count an access that was rejected for its address (Table ME-2). -/
def addressReject (s : Dev) : Dev := s.updMemTotals (fun m => { m with addressRejects := m.addressRejects + 1 })

/-- Whether a tile's store is withheld from control-plane writes: beats 4 to 55 of a region stop, or a nap (R93, R266,
R382). -/
def Dev.storeHeld (s : Dev) (t : Nat) : Bool :=
  (match s.stopBeat t with | some b => 4 ≤ b && b ≤ 55 | none => false)
    || (s.tile t).clock.gen == .napped || (s.tile t).clock.gen == .waking

/-- Cut bytes at the lines of a store: offset and bytes of each part. -/
def lineParts : Nat → Nat → Bytes → List (Nat × Bytes)
  | 0, _, _ => []
  | f + 1, off, d =>
    if d.isEmpty then [] else
    let k := min d.length (128 - off % 128)
    (off, d.take k) :: lineParts f (off + k) (d.drop k)

/-- Landings arrive at a tile: 32 are held by the landing port, the rest by the network (R118, R298). -/
def addLandings (s : Dev) (t : Nat) (l : List Landing) : Dev :=
  s.updTile t (fun x => Tile.takeHeld { x with landingsHeld := x.landingsHeld ++ l })

/-- The landings of a control-plane write; the last one names what is told (R118). -/
def controlLandings (off : Nat) (d : Bytes) (owes : Option Nat) : List Landing :=
  let l := lineParts (d.length / 128 + 2) off d
  (l.zip (List.range l.length)).map (fun p =>
    ⟨.control (if p.2 + 1 = l.length then owes else none), p.1.1, p.1.2, []⟩)

/-- A control-plane write into a tile store: it lands, or waits in the park buffer (R382). -/
def storeCtlWrite (s : Dev) (t off : Nat) (d : Bytes) (owes : Option Nat) : Dev :=
  if s.storeHeld t || s.router.parked.any (·.tile == t) then
    s.updRouter (fun r => { r with parked := r.parked ++ [⟨t, off, d, owes⟩] })
  else addLandings s t (controlLandings off d owes)

/-- Bytes in a network die's park buffer (R382). -/
def Router.parkBytes (r : Router) (nd : Nat) : Nat :=
  (r.parked.filter (fun p => tileNd p.tile == nd)).foldl (fun n p => n + p.data.length) 0

/-- Whether the held parts of a write fit in the park buffers (R382). -/
def Dev.parkFits (s : Dev) (a n : Nat) : Bool :=
  let held := (partsOf a n).filter (fun p => isStore p.1 && s.storeHeld (storeTile p.1))
  (List.range 2).all (fun nd =>
    s.router.parkBytes nd + (held.filter (fun p => tileNd (storeTile p.1) == nd)).foldl (fun x p => x + p.2) 0 ≤ 65536
      || (held.filter (fun p => tileNd (storeTile p.1) == nd)).isEmpty)

/-- Deliver a tile's parked writes in arrival order (R382). -/
def unpark (s : Dev) (t : Nat) : Dev :=
  let mine := s.router.parked.filter (·.tile == t)
  let s := s.updRouter (fun r => { r with parked := r.parked.filter (·.tile != t) })
  mine.foldl (fun s p => addLandings s t (controlLandings p.off p.data p.owes)) s

/-- A new number for an access. -/
def Dev.newId (s : Dev) : Nat × Dev := (s.accessSeq, { s with accessSeq := s.accessSeq + 1 })

/-- Put a control-plane access into its channel's queue (R280). -/
def addCp (s : Dev) (write : Bool) (a : Nat) (d : Bytes) (n : Nat) (own : CpOwner) : Dev :=
  let i := s.newId
  { i.2 with cp := s.cp ++ [⟨i.1, write, a, d, n, if write then writeCost a n else readCost a n, false, own⟩] }

/-- The parts of a control-plane write go to their channels and tiles; `id` is told of the completion of each. -/
def ctlWrite (s : Dev) (a : Nat) (d : Bytes) (own : CpOwner) (id : Nat) : Dev :=
  (partsOf a d.length).foldl (fun s p =>
    let piece := (d.drop (p.1 - a)).take p.2
    if isStore p.1 then storeCtlWrite s (storeTile p.1) (p.1 % 0x200000) piece (some id)
    else addCp s true p.1 piece p.2 own) s

end Sys2Proof.Machine
end

