-- ==== Sys2Proof/Machine/Sha.lean ====
section
/-!
DEFINITION. SHA-384, which the plan images, weight manifests and firmware images use (FIPS 180-4; assumption 40).
-/
namespace Sys2Proof

/-- The modulus of 64-bit words. -/
abbrev w64 : Nat := 2 ^ 64

/-- The largest root of degree `deg` whose power does not exceed `n`, by its bits from bit `b - 1` down. -/
def rootBits (deg n : Nat) : Nat → Nat → Nat
  | 0, r => r
  | b + 1, r => rootBits deg n b (if (r + 2 ^ b) ^ deg ≤ n then r + 2 ^ b else r)

/-- The first 64 bits of the fraction of the root of degree `deg` of a number below 2^16. -/
def rootWord (deg p : Nat) : Nat := rootBits deg (p * w64 ^ deg) 72 0 % w64

/-- The primes below 410, the first eighty: a composite number below 21² has a divisor from 2 to 20. -/
def shaPrimes : List Nat :=
  (List.range 410).filter (fun n => 2 ≤ n && (List.range 19).all (fun k => n % (k + 2) != 0 || n == k + 2))

/-- The 80 round constants: the fractions of the cube roots of the first eighty primes. -/
def shaK : List Nat := shaPrimes.map (rootWord 3)

/-- The initial hash value of SHA-384: the fractions of the square roots of the ninth to the sixteenth prime. -/
def shaInit : List Nat := ((shaPrimes.drop 8).take 8).map (rootWord 2)

/-- Rotation right of a 64-bit word. -/
def rotr64 (x n : Nat) : Nat := (x / 2 ^ n + x * 2 ^ (64 - n)) % w64

/-- A big-endian number. -/
def beNat (l : Bytes) : Nat := l.foldl (fun n b => 256 * n + b.toNat) 0

/-- `n` bytes of a number, most significant first. -/
def beBytes (n v : Nat) : Bytes := (leBytes n v).reverse

/-- The sixteen words of a block. -/
def shaWords (b : Bytes) : List Nat := (List.range 16).map (fun i => beNat (slice b (8 * i) 8))

/-- The next word of the message schedule, from the sixteen before it. -/
def shaNext (w : List Nat) : Nat :=
  let x := w.getD 1 0
  let y := w.getD 14 0
  let s0 := (rotr64 x 1 ^^^ rotr64 x 8) ^^^ x / 2 ^ 7
  let s1 := (rotr64 y 19 ^^^ rotr64 y 61) ^^^ y / 2 ^ 6
  (w.getD 0 0 + s0 + w.getD 9 0 + s1) % w64

/-- One round on the eight working words. -/
def shaRound (v : List Nat) (k w : Nat) : List Nat :=
  match v with
  | [a, b, c, d, e, f, g, h] =>
    let s1 := (rotr64 e 14 ^^^ rotr64 e 18) ^^^ rotr64 e 41
    let ch := (e &&& f) ^^^ ((w64 - 1 - e) &&& g)
    let t1 := h + s1 + ch + k + w
    let s0 := (rotr64 a 28 ^^^ rotr64 a 34) ^^^ rotr64 a 39
    let mj := ((a &&& b) ^^^ (a &&& c)) ^^^ (b &&& c)
    [(t1 + s0 + mj) % w64, a, b, c, (d + t1) % w64, e, f, g]
  | _ => v

/-- The rounds of a block: constants still to come, the window of the schedule, the working words. -/
def shaRounds : List Nat → List Nat → List Nat → List Nat
  | [], _, v => v
  | k :: ks, w, v => shaRounds ks (w.drop 1 ++ [shaNext w]) (shaRound v k (w.getD 0 0))

/-- One block. -/
def shaBlock (h : List Nat) (b : Bytes) : List Nat :=
  List.zipWith (fun x y => (x + y) % w64) h (shaRounds shaK (shaWords b) h)

/-- Whole blocks of a string; `fuel` bounds their number. -/
def shaBlocks : Nat → List Nat → Bytes → List Nat × Bytes
  | 0, h, l => (h, l)
  | n + 1, h, l => if l.length < 128 then (h, l) else shaBlocks n (shaBlock h (l.take 128)) (l.drop 128)

open Machine

/-- A hash just begun. -/
def shaStart : ShaState := ⟨shaInit, [], 0⟩

/-- Extend a hash by some bytes. -/
def shaAdd (s : ShaState) (d : Bytes) : ShaState :=
  let l := s.pending ++ d
  let r := shaBlocks (l.length / 128) s.words l
  ⟨r.1, r.2, s.total + d.length⟩

/-- The 48 bytes of the digest. -/
def shaEnd (s : ShaState) : Bytes :=
  let l := s.pending ++ [0x80]
  let z := (240 - l.length % 128) % 128
  let l := l ++ zeros z ++ beBytes 16 (8 * s.total)
  ((shaBlocks 2 s.words l).1.take 6).flatMap (beBytes 8)

/-- SHA-384 of a string. -/
def sha384 (d : Bytes) : Bytes := shaEnd (shaAdd shaStart d)

end Sys2Proof
end

