-- ==== Sys2Proof/Machine/Ecdsa.lean ====
section
/-!
DEFINITION. ECDSA verification on P-384, as R486, R487 and R605 name it (FIPS 186; assumption 40).
-/
namespace Sys2Proof

/-- The field prime of P-384. -/
def ecP : Nat := 2 ^ 384 - 2 ^ 128 - 2 ^ 96 + 2 ^ 32 - 1
/-- The order of the base point. -/
def ecN : Nat :=
  0xffffffffffffffffffffffffffffffffffffffffffffffffc7634d81f4372ddf581a0db248b0a77aecec196accc52973
/-- The coefficient b; a is −3. -/
def ecB : Nat :=
  0xb3312fa7e23ee7e4988e056be3f82d19181d9c6efe8141120314088f5013875ac656398d8a2ed19d2a85c8edd3ec2aef
/-- The base point. -/
def ecGx : Nat :=
  0xaa87ca22be8b05378eb1c71ef320ad746e1d3b628ba79b9859f741e082542a385502f25dbf55296c3a545e3872760ab7
/-- The base point. -/
def ecGy : Nat :=
  0x3617de4a96262c6f5d9e98bf9292dc29f8f41dbd289a147ce9da3113b5f0b8c00a60b1ce1d7e819d7a431d7c90ea0e5f

/-- `a ^ e` modulo `m`, over the low `fuel` bits of `e`. -/
def powMod : Nat → Nat → Nat → Nat → Nat
  | 0, _, _, m => 1 % m
  | n + 1, a, e, m =>
    let r := powMod n (a * a % m) (e / 2) m
    if e % 2 = 1 then a * r % m else r

/-- The inverse modulo a 384-bit prime. -/
def invMod (a m : Nat) : Nat := powMod 384 (a % m) (m - 2) m

/-- A point in Jacobian coordinates; z = 0 is the point at infinity. -/
structure EcPoint where
  x : Nat
  y : Nat
  z : Nat
deriving DecidableEq, Repr

/-- A difference in the field. -/
def ecSub (a b : Nat) : Nat := (a + (ecP - b % ecP)) % ecP

/-- Doubling. -/
def ecDouble (q : EcPoint) : EcPoint :=
  if q.z = 0 ∨ q.y = 0 then ⟨1, 1, 0⟩ else
  let zz := q.z * q.z % ecP
  let yy := q.y * q.y % ecP
  let s := 4 * q.x * yy % ecP
  let m := 3 * (ecSub q.x zz) * (q.x + zz) % ecP
  let x := ecSub (m * m % ecP) (2 * s)
  ⟨x, ecSub (m * ecSub s x % ecP) (8 * (yy * yy % ecP)), 2 * q.y * q.z % ecP⟩

/-- Addition. -/
def ecAdd (p q : EcPoint) : EcPoint :=
  if p.z = 0 then q else if q.z = 0 then p else
  let z1 := p.z * p.z % ecP
  let z2 := q.z * q.z % ecP
  let u1 := p.x * z2 % ecP
  let u2 := q.x * z1 % ecP
  let s1 := p.y * (q.z * z2 % ecP) % ecP
  let s2 := q.y * (p.z * z1 % ecP) % ecP
  if u1 = u2 then (if s1 = s2 then ecDouble p else ⟨1, 1, 0⟩) else
  let h := ecSub u2 u1
  let r := ecSub s2 s1
  let hh := h * h % ecP
  let hhh := h * hh % ecP
  let v := u1 * hh % ecP
  let x := ecSub (r * r % ecP) (hhh + 2 * v)
  ⟨x, ecSub (r * ecSub v x % ecP) (s1 * hhh % ecP), h * (p.z * q.z % ecP) % ecP⟩

/-- The multiple of a point by the low `fuel` bits of a number. -/
def ecMul : Nat → Nat → EcPoint → EcPoint
  | 0, _, _ => ⟨1, 1, 0⟩
  | n + 1, k, q =>
    let r := ecMul n (k / 2) (ecDouble q)
    if k % 2 = 1 then ecAdd q r else r

/-- The affine x coordinate. -/
def EcPoint.affineX (q : EcPoint) : Nat := let i := invMod q.z ecP; q.x * (i * i % ecP) % ecP

/-- Whether 96 bytes, X and Y little-endian, are a point of the curve (R487). -/
def keyOnCurve (k : Bytes) : Bool :=
  let x := leAt k 0 48
  let y := leAt k 48 48
  decide (x < ecP) && decide (y < ecP) && y * y % ecP == (x * x % ecP * x + (ecP - 3) * x + ecB) % ecP

/-- Whether the signature of 96 bytes, r and s little-endian, verifies for a digest under a key. -/
def ecdsaVerify (key digest sig : Bytes) : Bool :=
  let r := leAt sig 0 48
  let s := leAt sig 48 48
  if r = 0 ∨ ecN ≤ r ∨ s = 0 ∨ ecN ≤ s ∨ ¬ keyOnCurve key then false else
  let w := invMod s ecN
  let u1 := beNat digest * w % ecN
  let u2 := r * w % ecN
  let q := ecAdd (ecMul 384 u1 ⟨ecGx, ecGy, 1⟩) (ecMul 384 u2 ⟨leAt key 0 48, leAt key 48 48, 1⟩)
  q.z != 0 && q.affineX % ecN == r

end Sys2Proof
end

