-- ==== Sys2Proof/Machine/Weights.lean ====
section
/-!
DEFINITION. Weight batches (16): manifests and keys, chunks, mirror loads, arming and the switch.
-/
namespace Sys2Proof.Machine

/-- A chunk entry of a manifest (Table WT-4). -/
structure ChunkEntry where
  region : Nat
  len : Nat
  off : Nat
  hash : Bytes
deriving DecidableEq, Repr

/-- CHUNKS of a manifest (Table WT-3). -/
def Batch.chunkCount (b : Batch) : Nat := leAt b.manifest 8 4

/-- Chunk entry `i` of a manifest (Table WT-4). -/
def manifestChunk (m : Bytes) (i : Nat) : ChunkEntry :=
  let e := slice m (128 + 64 * i) 64
  ⟨byteAt e 0, leAt e 4 4, leAt e 8 8, slice e 16 48⟩

/-- The WEIGHT ring entry (Table HI-10a). -/
def weightEntry (sub b confirmed failed bc : Nat) : Bytes :=
  leBytes 1 sub ++ leBytes 1 b ++ zeros 2 ++ leBytes 4 confirmed ++ leBytes 4 failed ++ zeros 4 ++ leBytes 8 bc

/-- Whether the key that signed a batch is installed (R486, R492, R496). -/
def Weights.keyOf (w : Weights) (m : Bytes) : Option Bytes :=
  w.keys.find? (fun k => k.any (· != 0) && sha384 k == slice m 40 48)

/-- A RECEIVING batch becomes READY at the first moment at which every chunk is matched and its key installed (R492). -/
def checkReady (s : Dev) (k b : Nat) : Dev :=
  let w := s.weights k
  let x := w.batch b
  if x.state = 1 ∧ x.matched.length = x.chunkCount ∧ (w.keyOf x.manifest).isSome then
    let s := s.updWeights k (·.updBatch b (fun x => { x with state := 2, chunks := [] }))
    pushEvent s (k + 1) 0x22 (weightEntry 1 b x.chunkCount 0xFFFFFFFF s.time.bc)
  else s

/-- Open chunks over all partitions (R490). -/
def Dev.openChunks (s : Dev) : Nat :=
  (List.range 16).foldl (fun n k => (s.weights k).batches.foldl (fun n b => n + b.chunks.length) n) 0

/-- Take data of a chunk into its hash (R489, R490, Table WT-6): the status, and the state with the chunk's new standing;
a refused command gives a status other than 0 and 5. -/
def chunkData (s : Dev) (k b i off : Nat) (d : Bytes) (mirror : Bool) : Nat × Dev :=
  let x := (s.weights k).batch b
  let e := manifestChunk x.manifest i
  let drop (s : Dev) : Dev := s.updWeights k (·.updBatch b (fun x => { x with chunks := x.chunks.filter (·.chunk != i) }))
  if x.state ≠ 1 then (2, s)
  else if x.chunkCount ≤ i ∨ e.len < off + d.length then (1, s)
  else
    let cur := x.chunks.find? (·.chunk == i)
    let start : Option OpenChunk :=
      if off = 0 then some ⟨i, 0, shaStart, mirror⟩
      else match cur with
        | some c => if c.next = off then some c else none
        | none => none
    match start with
    | none =>
      let back (s : Dev) : Dev := s.updWeights k (·.updBatch b (fun x => { x with matched := x.matched.filter (· != i) }))
      (6, if mirror then back (drop s) else if cur.any (·.mirrored) then drop s else s)
    | some c =>
      if off = 0 ∧ cur.isNone ∧ 256 ≤ s.openChunks then (7, s)
      else
        let c := { c with next := off + d.length, hash := shaAdd c.hash d, mirrored := c.mirrored || mirror }
        let s := s.updWt (fun t => { t with bytesHashed := t.bytesHashed + d.length })
        let s := s.updWeights k (·.updBatch b (fun x => { x with
          matched := x.matched.filter (· != i), chunks := x.chunks.filter (·.chunk != i) ++ [c] }))
        if c.next < e.len then (0, s)
        else if shaEnd c.hash = e.hash then
          (0, checkReady ((drop s).updWeights k (·.updBatch b (fun x => { x with matched := i :: x.matched }))) k b)
        else (5, (drop s).updWt (fun t => { t with mismatches := t.mismatches + 1 }))

/-- The device address of a chunk (R489). -/
def chunkAddr (s : Dev) (k b i : Nat) : Nat :=
  let e := manifestChunk ((s.weights k).batch b).manifest i
  match (s.weights k).config with
  | some c => ((c.regionsOf b).getD e.region (0, 0)).1 + e.off
  | none => 0

/-- The RECEIVING batch whose regions a control-plane write touches (R491). -/
def receivingBatch (s : Dev) (k a n : Nat) : Option Nat :=
  match (s.weights k).config with
  | none => none
  | some c => (List.range 2).find? (fun b => ((s.weights k).batch b).state == 1
      && (c.regionsOf b).any (fun r => rangesMeet a n r.1 r.2))

/-- The chunk of a RECEIVING batch that holds a write, with the offset in it. -/
def chunkAt (s : Dev) (k b a n : Nat) : Option (Nat × Nat) :=
  let x := (s.weights k).batch b
  ((List.range x.chunkCount).find? (fun i =>
    let ca := chunkAddr s k b i
    decide (ca ≤ a) && decide (a + n ≤ ca + (manifestChunk x.manifest i).len))).map (fun i => (i, a - chunkAddr s k b i))

/-- Set LAST_WSTATUS and answer (R502). -/
def weightStatus (s : Dev) (k : Nat) (c : Cmd) (st : Nat) : Dev :=
  respond (s.updWeights k (fun w => { w with lastStatus := st })) c 0 st 0

/-- The regions of a WCONFIG record. -/
def configRegions (p : Bytes) (n b : Nat) : List (Nat × Nat) :=
  (List.range n).map (fun r => (let o := 64 + (b * n + r) * 16; (leAt p o 6, leAt p (o + 8) 8)))

/-- Whether a range of memory lies wholly within one backed channel of the partition (R482). -/
def Dev.ownMemory (s : Dev) (k a n : Nat) (hbm : Bool) : Bool :=
  (isHbm a || (!hbm && isCap a)) && s.memBacked a n && !s.isClearing a && s.partOfChannel (channelOf a) == some k

/-- Whether no two ranges of a list overlap. -/
def disjointRanges : List (Nat × Nat) → Bool
  | [] => true
  | r :: t => t.all (fun q => !rangesMeet r.1 r.2 q.1 q.2) && disjointRanges t

/-- WCONFIG (R482, R483). -/
def wConfig (s : Dev) (k : Nat) (c : Cmd) : Dev :=
  let p := c.payload
  let n := byteAt p 0
  if c.len ≠ 64 + 32 * n then respond s c 4 0 0 else
  let regs := (List.range 2).map (configRegions p n)
  let cfg : WConfig := ⟨n, bit (byteAt p 1) 0, leAt p 4 4, leAt p 8 16, [leAt p 24 6, leAt p 32 6], regs⟩
  let w := s.weights k
  let malformed := n == 0 || decide (32 < n) || decide (1 < byteAt p 1) || leAt p 2 2 != 0 || leAt p 30 2 != 0
    || (slice p 38 26).any (· != 0) || (List.range (2 * n)).any (fun i => leAt p (64 + 16 * i + 6) 2 != 0)
  let busy := w.batches.any (fun b => b.state == 1 || b.state == 3)
  let changes := (List.range 2).any (fun b => 2 ≤ (w.batch b).state && (match w.config with
    | some o => o.regionsOf b != cfg.regionsOf b || o.manifestAddr.getD b 0 != cfg.manifestAddr.getD b 0
    | none => true))
  let areas := cfg.manifestAddr.map (fun a => (a, manifestArea))
  let ok := regs.all (fun l => l.all (fun r => s.ownMemory k r.1 r.2 false && r.1 % 2048 == 0 && r.2 % 2048 == 0))
    && areas.all (fun r => s.ownMemory k r.1 r.2 true && r.1 % 2048 == 0)
    && disjointRanges (regs.flatten ++ areas) && cfg.wptrOffset % 8 == 0 && decide (cfg.wptrOffset + 8 ≤ 0x200000)
  if malformed then weightStatus s k c 1
  else if busy || changes then weightStatus s k c 2
  else if !ok then weightStatus s k c 9
  else weightStatus (s.updWeights k (fun w => { w with config := some cfg })) k c 0

/-- The layout check of a manifest (R486, step 2). -/
def manifestLayout (cfg : WConfig) (b : Nat) (m : Bytes) : Bool :=
  let n := leAt m 8 4
  let used := byteAt m 88
  let es := (List.range n).map (manifestChunk m)
  leAt m 0 4 == 0x57565045 && leAt m 4 2 == 1 && leAt m 6 2 == 0 && decide (1 ≤ n) && decide (n ≤ 65536)
    && leAt m 12 4 == 128 + 64 * n + 96 && m.length == 128 + 64 * n + 96 && decide (1 ≤ used)
    && decide (used ≤ cfg.regions) && (slice m 89 39).all (· == 0)
    && (List.range n).all (fun i => leAt m (128 + 64 * i + 1) 3 == 0)
    && es.all (fun e => decide (e.region < used) && decide (2048 ≤ e.len) && decide (e.len ≤ 2 ^ 28) && e.len % 2048 == 0
        && e.off % 2048 == 0 && decide (e.off + e.len ≤ ((cfg.regionsOf b).getD e.region (0, 0)).2))
    && (es.zip (es.drop 1)).all (fun p => decide (p.1.region < p.2.region)
        || (p.1.region == p.2.region && decide (p.1.off + p.1.len ≤ p.2.off)))

/-- The outcome of a manifest that is complete (R486). -/
def manifestCheck (w : Weights) (cfg : WConfig) (b : Nat) (m : Bytes) : Nat :=
  if (w.batch b).state ≠ 0 then 2
  else if ¬ manifestLayout cfg b m then 1
  else match w.keyOf m with
    | none => 3
    | some key => if ecdsaVerify key (sha384 (m.take (m.length - 96))) (m.drop (m.length - 96)) then 0 else 4

/-- WMANIFEST (R486). -/
def wManifest (s : Dev) (k : Nat) (c : Cmd) : Dev :=
  if c.len < 9 then respond s c 4 0 0 else
  let b := byteAt c.payload 0
  let off := leAt c.payload 4 4
  let d := c.payload.drop 8
  let w := s.weights k
  let x := w.batch b
  match w.config with
  | none => weightStatus s k c 9
  | some cfg =>
    if 1 < b ∨ leAt c.payload 1 3 ≠ 0 then weightStatus s k c 1
    else if x.state ≠ 0 then weightStatus s k c 2
    else if off ≠ 0 ∧ off ≠ x.manifest.length then weightStatus s k c 6
    else
      let m := (if off = 0 then [] else x.manifest) ++ d
      let total := leAt m 12 4
      let clear (s : Dev) : Dev := s.updWeights k (·.updBatch b (fun x => { x with manifest := [] }))
      if manifestArea < m.length ∨ 16 ≤ m.length ∧ (total < 224 ∨ total < m.length) then weightStatus (clear s) k c 1
      else
        let s := writeMem s (cfg.manifestAddr.getD b 0 + off) d []
        let s := s.updWeights k (·.updBatch b (fun x => { x with manifest := m }))
        if m.length < 16 ∨ m.length < total then weightStatus s k c 0
        else
          let st := manifestCheck w cfg b m
          if st = 0 then
            weightStatus (s.updWeights k (·.updBatch b (fun x => { x with
              state := 1, digest := sha384 m, version := leAt m 32 8, matched := [], chunks := [] }))) k c 0
          else
            let s := s.updWt (fun t => { t with signatureFails := t.signatureFails + boolNat (st == 4) })
            weightStatus (clear s) k c st

/-- WDATA (R489, R490, R493): its write is a control-plane access, and its response follows. -/
def wData (s : Dev) (k : Nat) (c : Cmd) : Dev :=
  if c.len < 24 ∨ 65536 < c.len then respond s c 4 0 0 else
  let b := byteAt c.payload 0
  let i := leAt c.payload 4 4
  let off := leAt c.payload 8 4
  let d := c.payload.drop 16
  if 1 < b ∨ leAt c.payload 1 3 ≠ 0 ∨ leAt c.payload 12 4 ≠ 0 then weightStatus s k c 1 else
  let x := (s.weights k).batch b
  let a := chunkAddr s k b i + off
  let r := chunkData s k b i off d false
  if x.state ≠ 1 then
    weightStatus (if 2 ≤ x.state then s.updWt (fun t => { t with refusals := t.refusals + 1 }) else s) k c 2
  else if r.1 = 0 ∨ r.1 = 5 then
    let s := r.2.updWeights k (fun w => { w with lastStatus := r.1 })
    let s := { s with commands := s.commands.map (fun x => if x.id = c.id then
      { x with started := true, left := (partsOf a d.length).length, status := r.1 } else x) }
    ctlWrite s a d (.host c.id) c.id
  else weightStatus r.2 k c r.1

/-- WCLEAR (R494). -/
def wClear (s : Dev) (k : Nat) (c : Cmd) : Dev :=
  if c.len ≠ 1 then respond s c 4 0 0 else
  let b := byteAt c.payload 0
  let st := ((s.weights k).batch b).state
  if 1 < b then weightStatus s k c 1
  else if st = 1 ∨ st = 2 then weightStatus (s.updWeights k (·.updBatch b (fun _ => .reset))) k c 0
  else weightStatus s k c 2

/-- The ARMED batch becomes LIVE and the LIVE batch READY (R497). -/
def weightSwitch (s : Dev) (k : Nat) : Dev :=
  match (List.range 2).find? (fun b => ((s.weights k).batch b).state == 3) with
  | none => s
  | some b =>
    let s := s.updWeights k (fun w => { w with
      batches := w.batches.map (fun x => if x.state = 4 then { x with state := 2 } else if x.state = 3 then
        { x with state := 4 } else x) })
    let s := s.updWt (fun t => { t with switches := t.switches + 1 })
    pushEvent s (k + 1) 0x22 (weightEntry 2 b 0 0xFFFFFFFF s.time.bc)

/-- WARM (R496). -/
def wArm (s : Dev) (k : Nat) (c : Cmd) : Dev :=
  if c.len ≠ 16 then respond s c 4 0 0 else
  let b := byteAt c.payload 0
  let pw := leAt c.payload 8 8
  let w := s.weights k
  let stopped := (s.part k).time.mode == .stopped
  if 1 < b ∨ leAt c.payload 1 7 ≠ 0 then weightStatus s k c 1
  else if (w.batch b).state ≠ 2 ∨ (w.batch (1 - b)).state = 3 then weightStatus s k c 2
  else if (w.keyOf (w.batch b).manifest).isNone then weightStatus s k c 3
  else if ¬ stopped ∧ pw < (s.part k).time.pbc + s.weightTotals.warmLead then weightStatus s k c 8
  else
    let s := s.updWeights k (fun w => { w with armPbc := pw }) |>.updWeights k (·.updBatch b (fun x => { x with state := 3 }))
    weightStatus (if stopped then weightSwitch s k else s) k c 0

/-- WDISARM (R498). -/
def wDisarm (s : Dev) (k : Nat) (c : Cmd) : Dev :=
  if c.len ≠ 1 then respond s c 4 0 0 else
  let b := byteAt c.payload 0
  if 1 < b then weightStatus s k c 1
  else if ((s.weights k).batch b).state ≠ 3 ∨ (s.weights k).switching then weightStatus s k c 2
  else weightStatus (s.updWeights k (·.updBatch b (fun x => { x with state := 2 }))) k c 0

/-- ARMED becomes READY at a cold load or a successor switch; a partition reset empties RECEIVING too (Tables WT-1,
WT-6). -/
def weightsDisturbed (s : Dev) (k : Nat) (reset : Bool) : Dev :=
  s.updWeights k (fun w => { w with
    batches := w.batches.map (fun x => if x.state = 3 then { x with state := 2 }
      else if x.state = 1 && reset then .reset else x) })

/-- The pointer word (R484). -/
def pointerWord (w : Weights) : Nat :=
  match (List.range 2).find? (fun b => (w.batch b).state == 4) with
  | some b => b + 2 + ((w.batch b).version % 2 ^ 48) * 2 ^ 16
  | none => 0

/-- A write of a publisher key entry (R487): refused where the point is not on the curve; a batch that waited for the key
becomes READY (R492). -/
def pubKeyWrite (s : Dev) (k i : Nat) (key : Bytes) : Bool × Dev :=
  if key.length ≠ 96 ∨ 16 ≤ i then (false, s)
  else if key.any (· != 0) && !keyOnCurve key then (false, s)
  else
    let s := s.updWeights k (fun w => { w with keys := w.keys.set i key })
    (true, checkReady (checkReady s k 0) k 1)

end Sys2Proof.Machine
end

