-- ==== Sys2Proof/Machine/Fabric.lean ====
section
/-!
DEFINITION. The fabric (13): fences, best-effort routes, outstanding requests, sinks, signals and notices at their
targets (14).
-/
namespace Sys2Proof.Machine

/-- This device's ID (R24). -/
def Dev.selfDev (s : Dev) : Nat := s.deviceId % 2 ^ 20

/-- Whether a link is open for a partition (R402). -/
def Dev.openFor (s : Dev) (k l : Nat) : Bool :=
  let p := s.part k
  p.fenceTag != 0 && p.net.routeState == 1 && bit p.net.openLinks l && (s.link l).st == 4 && s.selfDev != 0xFFFFF
    && !s.mgmt.idConflict

/-- The fence check of ingress (R403). A packet of this device itself carries its partition's tag. -/
def fenceOk (s : Dev) (link : Option Nat) (p : Packet) : Bool :=
  if p.fence = 0 then false
  else if p.fence = 0xFFFF then p.kind == 7
  else match s.partOfTag p.fence with
    | none => false
    | some k => (match link with | some l => s.openFor k l | none => true)

/-- The fence check of a packet, which one accepted before its link went down has passed (R369, R403). -/
def Dev.passes (s : Dev) (q : InPacket) : Bool := fenceOk s (if q.passed then none else q.link) q.pkt

/-- The rank of a device in a partition's job (R394). -/
def Dev.rankOf (s : Dev) (k dev : Nat) : Option Nat :=
  ((s.part k).job.jobMap.getD []).findIdx? (· == dev)

/-- The intermediate rank of R395. -/
def midRank (src dst flow salt ranks : Nat) (resp : Bool) : Nat :=
  crc64 (leBytes 8 (src % 2 ^ 14 + dst % 2 ^ 14 * 2 ^ 14 + flow * 2 ^ 28 + salt * 2 ^ 32 + boolNat resp * 2 ^ 48))
    % 2 ^ 32 % ranks

/-- Choose phase, intermediate and virtual channel of a packet that this device sends (R395, Table FB-2). -/
def startRoute (s : Dev) (k : Nat) (p : Packet) : Packet :=
  let resp := p.kind == 4
  let direct : Packet := { p with
    phase := 1, mid := p.dest, lastRank := 0, vc := if p.kind = 7 then 4 else if p.kind = 6 then 5 else if resp then 3 else 1 }
  if p.kind = 6 ∨ p.kind = 7 ∨ p.dest = s.selfDev then direct else
  match (s.part k).net.route, s.rankOf k p.dest with
  | some r, some dr =>
    let i := midRank r.thisRank dr p.flow r.salt (max 1 r.ranks) resp
    if i = r.thisRank ∨ i = dr then direct
    else { p with phase := 0, mid := ((s.part k).job.jobMap.getD []).getD i 0, lastRank := 0, vc := if resp then 2 else 0 }
  | _, _ => direct

/-- A packet of this device enters the router (R396). -/
def enterRouter (s : Dev) (p : Packet) : Dev :=
  let i := s.newId
  i.2.updRouter (fun r => { r with
    ingress := r.ingress ++ [⟨i.1, none, 6, flitCount p.payload.length, s.time.bc, p, 0, false⟩] })

/-- Free `n` buffers of a packet at its inbound link (R365, R366). -/
def freeFlits (s : Dev) (q : InPacket) (n : Nat) : Dev :=
  match q.link with
  | some l => if q.buf < 6 then
      s.updLink l (fun x => { x with freed := x.freed.set q.buf ((x.freed.getD q.buf 0 + n) % 256) })
    else s
  | none => s

/-- Flits of a packet in the bridge. -/
def Router.inBridge (r : Router) (id : Nat) : Nat := ((r.bridge.filter (·.1 == id)).map (·.2.2)).sum

/-- Free the buffers that a packet still holds at its inbound link: those of its flits that have not entered the bridge. -/
def freeBuffers (s : Dev) (q : InPacket) : Dev := freeFlits s q (q.flits - q.handed - s.router.inBridge q.id)

/-- Remove a packet from every list of the router. -/
def Router.remove (r : Router) (id : Nat) : Router :=
  { r with
    ingress := r.ingress.filter (·.id != id), plannedIn := r.plannedIn.filter (·.id != id)
    sink := r.sink.filter (·.id != id), out := r.out.filter (·.2.id != id), bridge := r.bridge.filter (·.1 != id) }

/-- The inbound buffers that a packet holds. -/
def InPacket.buffers (q : InPacket) : Option (Nat × Nat × Nat) :=
  match q.link with | some l => if q.buf < 6 then some (l, q.buf, q.flits) else none | none => none

/-- Free inbound buffers that an access held (R281). -/
def freeHeld (s : Dev) : Option (Nat × Nat × Nat) → Dev
  | none => s
  | some (l, v, n) => s.updLink l (fun x => { x with freed := x.freed.set v ((x.freed.getD v 0 + n) % 256) })

/-- This device has finished with a packet. -/
def finishPacket (s : Dev) (q : InPacket) : Dev := (freeBuffers s q).updRouter (·.remove q.id)

/-- The network die on which a packet entered the router: that of its inbound link, or of the requester's entry; a packet
of this device without an entry starts on the die `die` of its outbound link. -/
def InPacket.entryDie (q : InPacket) (die : Nat) : Nat :=
  match q.link with
  | some l => linkDie l
  | none => if q.pkt.kind = 2 ∨ q.pkt.kind = 3 ∨ q.pkt.kind = 5 then q.pkt.rtag / 2048 else die

/-- Flits that hold bridge buffers toward a die in a virtual channel. -/
def Router.bridgeUse (r : Router) (die vc : Nat) : Nat :=
  (r.out.map (fun o => if linkDie o.1 = die ∧ o.2.pkt.vc = vc then r.inBridge o.2.id else 0)).sum

/-- Flits of the packets that wait for a link of the other network die enter the bridge, oldest packet first, as far as the
16 buffers of their channel and direction reach; their inbound buffers are free (R16, R397). -/
def crossBridge (s : Dev) : Dev :=
  s.router.out.foldl (fun s o =>
    let q := o.2
    let die := linkDie o.1
    let n := min (q.flits - q.handed - s.router.inBridge q.id) (16 - s.router.bridgeUse die q.pkt.vc)
    if q.entryDie die = die ∨ n = 0 then s
    else
      let bc := s.time.bc
      freeFlits (s.updRouter (fun r => { r with bridge := r.bridge ++ [(q.id, bc, n)] })) q n) s

/-- An ingress drop of R403, counted for the link of arrival. -/
def fenceDrop (s : Dev) (q : InPacket) : Dev :=
  let s := (finishPacket s q).updRouter (fun r => { r with fenceDrops := r.fenceDrops + 1 })
  match q.link with
  | some l => s.updLink l (·.count (fun c => { c with fenceDrops := c.fenceDrops + 1 }))
  | none => s

/-- Whether KIND is defined and VC matches it (R378, Table FB-2). -/
def kindOk (p : Packet) : Bool :=
  match p.kind with
  | 0 => p.planned && p.vc == 0
  | 1 | 2 | 3 | 5 => !p.planned && decide (p.vc ≤ 1)
  | 4 => !p.planned && (p.vc == 2 || p.vc == 3)
  | 6 => !p.planned && p.vc == 5
  | 7 => !p.planned && p.vc == 4
  | _ => false

/-- A drop of R378. -/
def badKindDrop (s : Dev) (q : InPacket) : Dev := (finishPacket s q).updRouter (fun r => { r with badKind := r.badKind + 1 })

/-- BE_FORWARD (R396): fence, kind, phase switch, sink or outbound link under the rank rule. -/
def beForward (s : Dev) (id : Nat) : Dev :=
  match s.router.ingress.find? (·.id == id) with
  | none => s
  | some q =>
    if !s.passes q then fenceDrop s q
    else if !kindOk q.pkt || q.pkt.planned then badKindDrop s q
    else
      let p := if q.pkt.phase = 0 ∧ q.pkt.mid = s.selfDev then
        { q.pkt with phase := 1, vc := if q.pkt.vc = 0 then 1 else if q.pkt.vc = 2 then 3 else q.pkt.vc, lastRank := 0 } else q.pkt
      let q := { q with pkt := p }
      if p.dest = s.selfDev then
        s.updRouter (fun r => { (r.remove id) with sink := r.sink ++ [q] })
      else
        let lost (s : Dev) : Dev := (finishPacket s q).updRouter (fun r => { r with unroutable := r.unroutable + 1 })
        match (s.partOfTag p.fence) with
        | none => lost s
        | some k =>
          match (s.part k).net.route, s.rankOf k (if p.phase = 0 then p.mid else p.dest) with
          | some rt, some d =>
            let out := rt.next.getD d 0xFF
            if 64 ≤ out ∨ ¬ s.openFor k out then lost s
            else if rt.linkRank.getD out 0 ≤ p.lastRank then
              (finishPacket s q).updRouter (fun r => { r with rankDrops := r.rankDrops + 1 })
            else
              let q := { q with pkt := { p with lastRank := rt.linkRank.getD out 0 } }
              let mine (e : OrtEntry) : Bool := q.link.isNone && e.die * 2048 + e.ix == p.rtag && p.kind != 4
              s.updRouter (fun r => { (r.remove id) with
                out := r.out ++ [(out, q)]
                ort := r.ort.map (fun e => if mine e then { e with link := some out } else e) })
          | _, _ => lost s

/-- Flits of a packet that may go to the transmitter of a link now: all that it still has, or, where it crosses the bridge, those
that entered it 6 beats ago (R126, R397). -/
def Dev.flitsAtLink (s : Dev) (q : InPacket) (die : Nat) : Nat :=
  if q.entryDie die = die then q.flits - q.handed
  else ((s.router.bridge.filter (fun b => b.1 == q.id && decide (b.2.1 + 6 ≤ s.time.bc))).map (·.2.2)).sum

/-- CREDIT_SEND (R126, R363, R396): the oldest packet that waits for a link and channel is handed to its transmitter once a credit
is available, as far as its flits have come; its inbound buffers are free. -/
def creditSend (s : Dev) (l v : Nat) : Dev :=
  let x := s.link l
  match s.router.out.find? (fun o => o.1 == l && o.2.pkt.vc == v) with
  | none => s
  | some (_, q) =>
    let n := s.flitsAtLink q (linkDie l)
    let bc := s.time.bc
    if x.st == 4 && decide (0 < x.credits.getD v 0) && decide (v < 6) && n != 0 then
      let s := if q.flits ≤ q.handed + n then finishPacket s q
        else s.updRouter (fun r => { r with
          out := r.out.map (fun o => if o.2.id = q.id then (o.1, { o.2 with handed := q.handed + n }) else o)
          bridge := r.bridge.filter (fun b => b.1 != q.id || decide (bc < b.2.1 + 6)) })
      s.updLink l (fun x => { x with beQ := x.beQ.set v (x.beQ.getD v [] ++ (q.pkt.flits.drop q.handed).take n) })
    else s

/-- STALE_DROP (R399). -/
def staleDrop (s : Dev) (id : Nat) : Dev :=
  let all := s.router.ingress ++ s.router.sink ++ s.router.out.map (·.2)
  match all.find? (·.id == id) with
  | some q =>
    if q.buf < 6 ∧ q.since + 65536 ≤ s.time.bc then
      (finishPacket s q).updRouter (fun r => { r with staleDrops := r.staleDrops + 1 })
    else s
  | none => s

/-- The RESPONSE to a request (R381, R395). -/
def answerPacket (s : Dev) (p : Packet) (status : Nat) (data : Bytes) : Dev :=
  match s.partOfTag p.fence with
  | none => s
  | some k =>
    enterRouter s (startRoute s k { p with
      dest := p.src, kind := 4, src := s.selfDev, srcId := 256 * k + 0xE0, addr := 0, len := data.length, status := status
      payload := data, xfer := 0, hop := 0, route := 0 })

/-- What a control-plane access owes when one of its parts is complete: a remote write answers its WRITE_C (R381), a READ's
response that has landed raises its signal (R379), a host command is answered. -/
def partDone (s : Dev) (id : Nat) : Dev :=
  match s.router.writes.find? (·.id == id) with
  | some w =>
    let done := w.left ≤ 1
    let s := s.updRouter (fun r => { r with
      writes := r.writes.map (fun w => if w.id = id then
        { w with left := w.left - 1, answer := if done then none else w.answer, held := if done then none else w.held } else w) })
    let s := if done then freeHeld s w.held else s
    match w.answer with
    | some p => if done then answerPacket s p 0 [] else s
    | none => s
  | none =>
    match s.router.landingReads.find? (·.1 == id) with
    | some e => signalTile (s.updRouter (fun r => { r with landingReads := r.landingReads.filter (·.1 != id) })) e.2.1 e.2.2
    | none => commandPart s id

/-- Count the LEN of a WRITE or WRITE_C on its data path (R421). -/
def countSend (s : Dev) (k dest flow len : Nat) : Dev :=
  let paths := (s.part k).net.sendPaths
  if paths.any (·.1 == (dest, flow)) then
    s.updNet k (fun n => { n with sendPaths := n.sendPaths.map (fun e =>
      if e.1 = (dest, flow) then (e.1, (e.2 + len) % 2 ^ 48) else e) })
  else if paths.length < 1024 then
    s.updNet k (fun n => { n with sendPaths := n.sendPaths ++ [((dest, flow), len)] })
  else
    raise (s.updSync (fun x => { x with pathOverflows := x.pathOverflows + 1 })) 1 13 421 (some k) none
      (zeros 16)

/-- Packets of 4,096 bytes that mirror loads still have to send, as far as outstanding-request entries are free: at most 32
chunks in flight, chunk after chunk in address order (R491). -/
def mirrorAux : Nat → Dev → Nat → Nat → Dev
  | 0, s, _, _ => s
  | n + 1, s, k, job =>
    match (s.weights k).mirrors.find? (·.id == job) with
    | none => s
    | some m =>
      let man := ((s.weights k).batch m.batch).manifest
      let set (s : Dev) (m : MirrorJob) : Dev := s.updWeights k (fun w => { w with
        mirrors := w.mirrors.map (fun x => if x.id = job then m else x) })
      match m.flight.find? (fun f => f.2.1 < (manifestChunk man f.1).len) with
      | some f =>
        let used := (s.router.ort.filter (·.die == 0)).map (·.ix)
        match (List.range 2048).find? (fun i => !used.contains i) with
        | none => s
        | some ix =>
          let e := manifestChunk man f.1
          let len := min 4096 (e.len - f.2.1)
          let data := s.bytesAt (chunkAddr s k m.batch f.1 + f.2.1) len
          let p : Packet := {
            dest := m.dest, kind := 2, flow := f.1 % max 1 m.flows, planned := false, vc := 0, src := s.selfDev,
            srcId := 256 * k + 0xE0, addr := (m.regions.getD e.region (0, 0)).1 + e.off + f.2.1,
            fence := (s.part k).fenceTag, len := len, lastRank := 0, mid := 0, phase := 0, rtag := ix, status := 0, xfer := 0,
            hop := 0, route := 0, payload := data }
          let s := set s { m with flight := m.flight.map (fun g =>
            if g.1 = f.1 then (g.1, g.2.1 + len, g.2.2.1 + 1, g.2.2.2) else g) }
          let s := s.updRouter (fun r => { r with
            ort := r.ort ++ [⟨0, ix, none, .mirror k job f.1, k, 0, len, s.time.bc, none, none, none⟩] })
          mirrorAux n (enterRouter (countSend s k m.dest p.flow len) (startRoute s k p)) k job
      | none =>
        if m.todo ≠ 0 ∧ m.flight.length < 32 then
          mirrorAux n (set s { m with
            next := m.next + 1, todo := m.todo - 1, flight := m.flight ++ [(m.next, 0, 0, false)] }) k job
        else s

/-- Let a mirror load go on. -/
def mirrorPump (s : Dev) (k job : Nat) : Dev := mirrorAux 4096 s k job

/-- A response of a mirror load's packet (R491): with its last, a chunk is confirmed or has failed; with the last chunk the
ring entry is posted. -/
def mirrorAnswer (s : Dev) (k job chunk status : Nat) : Dev :=
  match (s.weights k).mirrors.find? (·.id == job) with
  | none => s
  | some m =>
    let man := ((s.weights k).batch m.batch).manifest
    let m : MirrorJob := { m with flight := m.flight.map (fun g =>
      if g.1 = chunk then (g.1, g.2.1, g.2.2.1 - 1, g.2.2.2 || status != 0) else g) }
    let m : MirrorJob := match m.flight.find? (fun (g : Nat × Nat × Nat × Bool) => g.1 == chunk && g.2.2.1 == 0
        && decide ((manifestChunk man chunk).len ≤ g.2.1)) with
      | some g => { m with
          flight := m.flight.filter (·.1 != chunk), confirmed := m.confirmed + boolNat (!g.2.2.2)
          firstFailed := if g.2.2.2 then min m.firstFailed chunk else m.firstFailed }
      | none => m
    if m.flight.isEmpty ∧ m.todo = 0 then
      let s := s.updWeights k (fun w => { w with mirrors := w.mirrors.filter (·.id != job) })
      pushEvent s m.fn 0x22 (weightEntry 3 m.batch m.confirmed m.firstFailed s.time.bc)
    else
      mirrorPump (s.updWeights k (fun w => { w with mirrors := w.mirrors.map (fun x => if x.id = job then m else x) })) k job

/-- Whether a NOTICE entry answers BUSY and is sent again (R430). -/
def retryNotice (s : Dev) (e : OrtEntry) : Dev :=
  let s := s.updSync (fun x => { x with noticeBusy := x.noticeBusy + 1 })
  s.updRouter (fun r => { r with ort := r.ort.map (fun x =>
    if x.die = e.die ∧ x.ix = e.ix then { x with retryAt := some (s.time.bc + s.sync.noticeRetry) } else x) })

/-- The detail of a link or fabric event (R642). -/
def Dev.linkEvent (s : Dev) (l : Option Nat) : Bytes :=
  match l with
  | some l => linkDetail l (s.link l).downCause (s.link l).peerDev
  | none => linkDetail 0xFF 0 s.selfDev

/-- Close an outstanding-request entry with a status other than 0 or, where nothing lands, 0 (R370, R379, R430). -/
def closeOrt (s : Dev) (e : OrtEntry) (status : Nat) : Dev :=
  let s := s.updRouter (fun r => { r with ort := r.ort.filter (fun x => !(x.die == e.die && x.ix == e.ix)) })
  match e.owner with
  | .tile k t j =>
    if status = 0 then signalTile s t j
    else
      let s := s.updRouter (fun r => { r with remoteFails := r.remoteFails + 1 })
      raise s 1 12 379 (some k) (some t) (s.linkEvent e.link)
  | .notice k t j =>
    if status = 0 then signalTile s t j
    else
      let s := s.updSync (fun x => { x with noticeFails := x.noticeFails + 1 })
      raise s 1 13 430 (some k) (some t) (zeros 16)
  | .mirror k job chunk => mirrorAnswer s k job chunk status
  | .firmware => s

/-- The landing space of a READ is undefined after a synthetic completion (R371). -/
def loseLanding (s : Dev) (e : OrtEntry) : Dev :=
  match e.owner with
  | .tile _ _ _ => if e.len = 0 then s else freeRange s e.land e.len
  | _ => s

/-- Whether a response to an open entry that was accepted no later than beat `b` is on its way to it (R371). -/
def Dev.answered (s : Dev) (e : OrtEntry) (b : Nat) : Bool :=
  (s.router.ingress ++ s.router.sink).any (fun q =>
    q.pkt.kind == 4 && q.pkt.dest == s.selfDev && q.pkt.rtag == e.die * 2048 + e.ix && decide (q.since ≤ b))

/-- The synthetic completions with status LINK_DOWN of the links that went down in the last beat (R370); a response accepted in
the beat of the cause goes first (R371). -/
def closeLost (s : Dev) : Dev :=
  (s.router.ort.filter (fun e => match e.lost with | some b => !s.answered e b | none => false)).foldl (fun s e =>
    let s := match e.link with
      | some l => s.updLink l (·.count (fun c => { c with synthCompletions := c.synthCompletions + 1 }))
      | none => s
    loseLanding (closeOrt s e 1) e) s

/-- Mirror loads that wait for an outstanding-request entry go on (R370, R491). -/
def pumpMirrors (s : Dev) : Dev :=
  s.parts.foldl (fun s p => p.2.weights.mirrors.foldl (fun s m => mirrorPump s p.1 m.id) s) s

/-- RESP_TIMEOUT (R370, R371): a synthetic completion with status TIMEOUT, in the beat after the last of its beats; a response
accepted by then goes first. -/
def respTimeout (s : Dev) (die ix : Nat) : Dev :=
  match s.router.ort.find? (fun e => e.die == die && e.ix == ix) with
  | none => s
  | some e =>
    let last := e.opened + s.router.respTimeout
    if last < s.time.bc ∧ e.lost = none ∧ ¬ s.answered e last then
      loseLanding (closeOrt (s.updRouter (fun r => { r with respTimeouts := r.respTimeouts + 1 })) e 2) e
    else s

/-- The data path of a packet (R421): source device, source partition, flow. -/
def pathOf (p : Packet) : Nat := p.src * 256 + p.srcId / 256 * 16 + p.flow

/-- Whether a control-plane write must be turned away for the weights it touches (R493). -/
def weightRefused (s : Dev) (k a n : Nat) : Bool := s.protectedWeights k a n true

/-- A WRITE or WRITE_C at its destination (R381, R271, R281, R382, R491, R493): while it waits for slots of a channel it holds its
inbound buffers; refused writes are dropped, or answered with STATUS 3. A mirror write that completes a chunk with a hash mismatch
is performed and answered with STATUS 0: DESIGN CHOICE (assumption 94). -/
def remoteWrite (s : Dev) (q : InPacket) : Dev :=
  let p := q.pkt
  let s := s.updRouter (·.remove q.id)
  match s.partOfTag p.fence with
  | none => freeHeld s q.buffers
  | some k =>
    let n := p.payload.length
    let answer := p.kind == 2
    let refuse (s : Dev) : Dev := (let s := freeHeld s q.buffers; if answer then answerPacket s p 3 [] else s)
    if !s.reach k p.addr n then refuse (addressReject s)
    else if weightRefused s k p.addr n then refuse (s.updWt (fun t => { t with refusals := t.refusals + 1 }))
    else if !s.parkFits p.addr n then refuse (s.updRouter (fun r => { r with parkRejects := r.parkRejects + 1 }))
    else
      let chunk : Option (Dev × Bool) := match receivingBatch s k p.addr n with
        | none => some (s, true)
        | some b => match chunkAt s k b p.addr n with
          | none => none
          | some (i, off) =>
            let r := chunkData s k b i off p.payload true
            some (r.2, r.1 == 0 || r.1 == 5)
      match chunk with
      | none => refuse s
      | some (s, false) => refuse s
      | some (s, true) =>
        let i := s.newId
        let parts := (partsOf p.addr n).length
        let waits := (partsOf p.addr n).any (fun x => !isStore x.1)
        let s := if waits then i.2 else freeHeld i.2 q.buffers
        let s := s.updRouter (fun r => { r with
          writes := r.writes ++ [⟨i.1, k, pathOf p, n, parts, if answer then some p else none, if waits then q.buffers else none⟩] })
        if parts = 0 then (if answer then answerPacket s p 0 [] else s)
        else ctlWrite s p.addr p.payload (.packet i.1) i.1

/-- A packet at its sink, by its number, if it has the kind. -/
def Dev.sunk (s : Dev) (id kind : Nat) : Option InPacket :=
  s.router.sink.find? (fun q => q.id == id && q.pkt.kind == kind)

/-- WRITE. -/
def writeSink (s : Dev) (id : Nat) : Dev := match s.sunk id 1 with | some q => remoteWrite s q | none => s
/-- WRITE_C. -/
def writeCSink (s : Dev) (id : Nat) : Dev := match s.sunk id 2 with | some q => remoteWrite s q | none => s

/-- REMOTE_WRITE_COMPLETE (R423): a complete write with no earlier write of its path outstanding is recorded. -/
def recordWrite (s : Dev) (id : Nat) : Dev :=
  match s.router.writes.find? (·.id == id) with
  | none => s
  | some w =>
    let first := s.router.writes.find? (·.path == w.path)
    if w.left ≠ 0 ∨ first.any (·.id != id) then s else
    let s := s.updRouter (fun r => { r with writes := r.writes.filter (·.id != id) })
    let paths := (s.part w.part).net.recvPaths
    if paths.any (·.1 == w.path) then
      s.updNet w.part (fun n => { n with recvPaths := n.recvPaths.map (fun e =>
        if e.1 = w.path then (e.1, (e.2 + w.len) % 2 ^ 48) else e) })
    else if paths.length < 1024 then
      s.updNet w.part (fun n => { n with recvPaths := n.recvPaths ++ [(w.path, w.len % 2 ^ 48)] })
    else
      raise (s.updSync (fun x => { x with pathOverflows := x.pathOverflows + 1 })) 1 13 423 (some w.part) none
        (zeros 16)

/-- Answer a READ whose parts have all been read (R381). -/
def readDone (s : Dev) (id : Nat) : Dev :=
  match s.router.reads.find? (·.id == id) with
  | none => s
  | some r =>
    if r.left ≤ 1 then
      answerPacket ((freeHeld s r.held).updRouter (fun x => { x with reads := x.reads.filter (·.id != id) })) r.pkt 0
        (s.bytesAt r.pkt.addr r.pkt.len)
    else s.updRouter (fun x => { x with reads := x.reads.map (fun y => if y.id = id then { y with left := y.left - 1 } else y) })

/-- A READ whose data cannot be delivered is answered with STATUS 3. -/
def readFailed (s : Dev) (id : Nat) : Dev :=
  match s.router.reads.find? (·.id == id) with
  | none => s
  | some r =>
    answerPacket ((freeHeld s r.held).updRouter (fun x => { x with reads := x.reads.filter (·.id != id) })) r.pkt 3 []

/-- READ (R381, R382, R271): while it waits for slots it holds its inbound buffers (R281). -/
def readSink (s : Dev) (id : Nat) : Dev :=
  match s.sunk id 3 with
  | none => s
  | some q =>
    let p := q.pkt
    let s := s.updRouter (·.remove q.id)
    let done (s : Dev) : Dev := freeHeld s q.buffers
    match s.partOfTag p.fence with
    | none => done s
    | some k =>
      let parts := partsOf p.addr p.len
      let mem := parts.filter (fun x => !isStore x.1)
      if !s.reach k p.addr p.len then answerPacket (addressReject (done s)) p 3 []
      else if parts.any (fun x => isStore x.1 && (s.storeHeld (storeTile x.1)
          || (s.stopBeat (storeTile x.1)).isSome)) then answerPacket (done s) p 3 []
      else if mem.isEmpty then answerPacket (done s) p 0 (s.bytesAt p.addr p.len)
      else
        let i := s.newId
        let s := i.2.updRouter (fun r => { r with reads := r.reads ++ [⟨i.1, p, mem.length, q.buffers⟩] })
        mem.foldl (fun s x => addCp s false x.1 [] x.2 (.packet i.1)) s

/-- RESPONSE (R371, R379, R430): it closes its entry; the data of a READ land, and the signal follows the last byte. -/
def responseSink (s : Dev) (id : Nat) : Dev :=
  match s.sunk id 4 with
  | none => s
  | some q =>
    let p := q.pkt
    let s := finishPacket s q
    match s.router.ort.find? (fun e => e.die * 2048 + e.ix == p.rtag) with
    | none =>
      (match q.link with
       | some l => s.updLink l (·.count (fun c => { c with orphanResponses := c.orphanResponses + 1 }))
       | none => s)
    | some e =>
      match e.owner with
      | .notice _ _ _ => if p.status = 4 then retryNotice s e else closeOrt s e p.status
      | .tile _ t j =>
        if p.status = 0 ∧ ¬ p.payload.isEmpty then
          let i := s.newId
          let s := i.2.updRouter (fun r => { r with
            ort := r.ort.filter (fun x => !(x.die == e.die && x.ix == e.ix))
            landingReads := r.landingReads ++ [(i.1, t, j)] })
          storeCtlWrite s t (e.land % 0x200000) p.payload (some i.1)
        else closeOrt s e p.status
      | _ => closeOrt s e p.status

/-- NOTICE at its target (R429, R430). -/
def noticeSink (s : Dev) (id : Nat) : Dev :=
  match s.sunk id 5 with
  | none => s
  | some q =>
    let p := q.pkt
    let s := finishPacket s q
    let t := p.addr % 2 ^ 16
    let delivered (s : Dev) : Dev := s.updSync (fun x => { x with noticesDelivered := x.noticesDelivered + 1 })
    if t = 0xFFFF then
      if s.router.fwInbox.length < 256 then
        answerPacket (delivered (s.updRouter (fun r => { r with fwInbox := r.fwInbox ++ [p.payload] }))) p 0 []
      else answerPacket s p 4 []
    else if s.partOfTile t ≠ s.partOfTag p.fence ∨ ¬ s.tileEnabled t then answerPacket s p 3 []
    else if (s.tile t).core.inbox.length < 16 then answerPacket (delivered (inboxPut s t p.payload)) p 0 []
    else answerPacket s p 4 []

/-- NOTICE_RETRY (R430). -/
def noticeRetry (s : Dev) (die ix : Nat) : Dev :=
  match s.router.ort.find? (fun e => e.die == die && e.ix == ix) with
  | none => s
  | some e =>
    match e.again, e.retryAt with
    | some p, some b =>
      if b ≤ s.time.bc then
        let s := s.updRouter (fun r => { r with ort := r.ort.map (fun x =>
          if x.die = die ∧ x.ix = ix then { x with retryAt := none } else x) })
        enterRouter s p
      else s
    | _, _ => s

/-- A signal is delivered to its tile. -/
def deliverSignal (s : Dev) (t j : Nat) : Dev :=
  (signalTile s t j).updSync (fun x => { x with signalsDelivered := x.signalsDelivered + 1 })

/-- SIGNAL (R424 to R426): it enters the hold table of its network die, or stays where the table is full; a signal to its
own device is delivered at once. -/
def signalSink (s : Dev) (id : Nat) : Dev :=
  match s.sunk id 6 with
  | none => s
  | some q =>
    let p := q.pkt
    let t := leAt p.payload 6 2
    let j := byteAt p.payload 8
    let part := s.partOfTag p.fence
    if s.partOfTile t ≠ part ∨ part.isNone ∨ ¬ s.tileEnabled t ∨ 16 ≤ j then
      (finishPacket s q).updSync (fun x => { x with rejectedSignals := x.rejectedSignals + 1 })
    else match q.link with
      | none => deliverSignal (finishPacket s q) t j
      | some l =>
        if 512 ≤ (s.router.holds.filter (·.die == linkDie l)).length then s
        else
          (finishPacket s q).updRouter (fun r => { r with
            holds := r.holds ++ [⟨q.id, linkDie l, part.getD 0, pathOf p, leAt p.payload 0 6, t, j, s.time.bc⟩] })

/-- SIGNAL_RELEASE (R424). -/
def signalRelease (s : Dev) (id : Nat) : Dev :=
  match s.router.holds.find? (·.id == id) with
  | none => s
  | some h =>
    let l := Sparse.get 0 (s.part h.part).net.recvPaths h.path
    if (l + 2 ^ 48 - h.s % 2 ^ 48) % 2 ^ 48 < 2 ^ 47 then
      let s := s.updRouter (fun r => { r with holds := r.holds.filter (·.id != id) })
      deliverSignal (s.updSync (fun x => { x with signalHoldBeats := x.signalHoldBeats + (s.time.bc - h.since) })) h.tile h.j
    else s

/-- MGMT (R398). -/
def mgmtSink (s : Dev) (id : Nat) : Dev :=
  match s.sunk id 7 with
  | none => s
  | some q =>
    let s := finishPacket s q
    if s.router.fwInbox.length < 256 then s.updRouter (fun r => { r with fwInbox := r.fwInbox ++ [q.pkt.payload] })
    else s.updRouter (fun r => { r with mgmtDrops := r.mgmtDrops + 1 })

end Sys2Proof.Machine
end

