-- ==== Sys2Proof/Machine/MvLink.lean ====
section
/-!
DEFINITION. mv.link (13, 14): packets, barrier entries, signals and notices that a tile posts; their arrival at the
network die, the planned queues, and planned packets on their way and at their receiver.
-/
namespace Sys2Proof.Machine

/-- The link record of a partition's plan for a link (R316). -/
def Dev.linkRec (s : Dev) (k l : Nat) : Option LinkRec :=
  (s.planOf k).bind (fun q => q.links.find? (fun r => r.link == l && r.ownerRank == q.header.rank))

/-- A packet as the network die stamps it (R380, Table SY-7). -/
def stampPacket (s : Dev) (t kind dest flow addr : Nat) (payload : Bytes) : Packet :=
  let k := s.owner t
  { dest := dest, kind := kind, flow := flow, planned := kind == 0, vc := 0, src := s.selfDev,
    srcId := 256 * k + tileGroup t, addr := addr, fence := (s.part k).fenceTag, len := payload.length, lastRank := 0,
    mid := dest, phase := 0, rtag := 0, status := 0, xfer := 0, hop := 0, route := 0, payload := payload }

/-- The send count of a data path (R421, R422); 0 toward this device itself (R426). -/
def sendCount (s : Dev) (k dest flow : Nat) : Nat :=
  if dest = s.selfDev then 0 else
  match (s.part k).net.sendPaths.find? (·.1 == (dest, flow)) with | some e => e.2 | none => 0

/-- Post an item toward a network die. -/
def postItem (s : Dev) (t nd : Nat) (it : PostedItem) : Dev :=
  s.updRouter (fun r => { r with posted := r.posted ++ [⟨s.owner t, t, arrivalBeat s t nd, it⟩] })

/-- Whether a partition may send best-effort packets to a device (R379, R394). -/
def maySend (s : Dev) (k dest : Nat) : Bool := dest == s.selfDev || (s.part k).net.routeState == 1

/-- Payload or landing space of a packet form: one row of bytes within the store (R379). -/
def linkTensorOk (x : Ten) : Bool :=
  x.rows == 1 && x.cols % 8 == 0 && decide (8 ≤ x.cols) && decide (x.cols ≤ 4096) && x.rowOk
    && decide (128 * x.base + x.cols ≤ 0x200000)

/-- The packet forms of mv.link (R379, Table FB-2a). -/
def mvLinkPacket (s : Dev) (t : Nat) (f : Flight) (d : Desc) : Except OpFault OpOut := do
  let k := s.owner t
  let form := d.p 0
  let dest := leAt d.param 8 4
  let addr := leAt d.param 16 6
  let route := leAt d.param 12 4
  let xfer := leAt d.param 4 2
  check .format (d.rndOk && d.a.fmtOk (· == .byte) && d.b.fmtOk (· == .absent) && d.c.fmtOk (· == .absent)
    && d.d.fmtOk (· == .absent))
  check .descriptor (linkTensorOk d.a && d.b.isZero && d.c.isZero && d.d.isZero && leAt d.param 6 2 == 0
    && leAt d.param 22 10 == 0 && decide (dest < 2 ^ 20) && d.p 3 == 0
    && (if form = 0 then d.p 2 == 0 && decide (d.p 1 < 64) && decide (xfer < 2 ^ 14) && decide (route < 2 ^ 18)
          && bit (s.part k).net.plannedLinks (d.p 1) && (s.linkRec k (d.p 1)).isSome
        else decide (d.p 2 < 16) && xfer == 0 && route == 0 && maySend s k dest
          && (if form = 1 then d.p 1 == 0 else decide (d.p 1 < 16))))
  let lines := linesOf (128 * d.a.base) d.a.cols
  let data := s.bytesAt (storeAddr t (128 * d.a.base)) d.a.cols
  let p := if form = 3 then f.due else f.due + lines.length - 1
  let lost := form ≠ 3 ∧ (s.faultySpan (storeAddr t (128 * d.a.base)) d.a.cols).any (fun w => (s.wordClassAt w).lost)
  .ok { last := p
        reads := if form = 3 then [] else lineReads f.due lines
        ends := [(p, fun s =>
          -- a lost word is not placed into a flit: the packet is not sent (Table IN-6)
          if lost then s
          else if form = 0 then
            postItem s t (linkDie (d.p 1)) (.planned (d.p 1)
              { stampPacket s t 0 dest 0 addr data with xfer := xfer, route := route })
          else
            let pk := { stampPacket s t form dest (d.p 2) addr (if form = 3 then [] else data) with len := d.a.cols }
            let s := if form = 3 then freeRange s (storeAddr t (128 * d.a.base)) (128 * ceilDiv d.a.cols 128) else s
            let s := postItem s t (tileNd t) (.packet pk (d.p 1) (storeAddr t (128 * d.a.base)))
            if form = 3 then s else countSend s k dest (d.p 2) d.a.cols)] }

/-- Reserved forms of mv.link (R379, R413). -/
def mvLinkReserved (d : Desc) : Bool := (decide (4 ≤ d.p 0) && decide (d.p 0 < 16)) || decide (0x13 ≤ d.p 0)

/-- The planned form of mv.link; an entry that names a reserved form raises a descriptor fault (R379). -/
def mvLinkPlanned (s : Dev) (t : Nat) (f : Flight) (d : Desc) : Except OpFault OpOut :=
  if mvLinkReserved d then .error .descriptor else mvLinkPacket s t f d

/-- The barrier form of mv.link (R413). -/
def mvLinkBarrier (s : Dev) (t : Nat) (f : Flight) (d : Desc) : Except OpFault OpOut := do
  let k := s.owner t
  let ids := match s.planOf k with | some pl => pl.header.barrierIds | none => 0
  let e := leAt d.param 4 2
  check .format (d.rndOk && d.a.fmtOk (· == .absent) && d.b.fmtOk (fun _ => true) && d.c.fmtOk (· == .absent)
    && d.d.fmtOk (· == .absent))
  check .descriptor (d.a.isZero && d.c.isZero && d.d.isZero && decide (d.p 1 < ids) && decide (d.p 2 < 16) && d.p 3 == 0
    && decide (1 ≤ e) && decide (e ≤ 1024) && leAt d.param 6 26 == 0)
  .ok { last := f.due
        ends := [(f.due, fun s => postItem s t (tileNd t) (.barrier (d.p 1) (d.b.base % 256) e (d.p 2)))] }

/-- The signal form of mv.link (R422). -/
def mvLinkSignal (s : Dev) (t : Nat) (f : Flight) (d : Desc) : Except OpFault OpOut := do
  let k := s.owner t
  let dest := leAt d.param 8 4
  check .format (d.rndOk && d.a.fmtOk (· == .absent) && d.b.fmtOk (· == .absent) && d.c.fmtOk (· == .absent)
    && d.d.fmtOk (· == .absent))
  check .descriptor (d.a.isZero && d.b.isZero && d.c.isZero && d.d.isZero && decide (d.p 1 < 16) && decide (d.p 2 < 16)
    && d.p 3 == 0 && leAt d.param 6 2 == 0 && decide (dest < 2 ^ 20) && leAt d.param 12 20 == 0 && maySend s k dest)
  .ok { last := f.due
        ends := [(f.due, fun s =>
          let body := leBytes 6 (sendCount s k dest (d.p 2)) ++ leBytes 2 (leAt d.param 4 2) ++ leBytes 1 (d.p 1) ++ zeros 7
          postItem s t (tileNd t) (.packet (stampPacket s t 6 dest (d.p 2) 0 body) 0 0))] }

/-- A notice with the bytes that the device writes (R427, Table SY-6). -/
def stampNotice (sender dev pos : Nat) (d : Bytes) : Bytes :=
  padTo 11 d ++ leBytes 5 (sender % 2 ^ 12 + dev % 2 ^ 20 * 2 ^ 12 + pos % 8 * 2 ^ 32)

/-- The notice form of mv.link (R429). -/
def mvLinkNotice (s : Dev) (t : Nat) (f : Flight) (d : Desc) : Except OpFault OpOut := do
  let k := s.owner t
  let dest := leAt d.param 8 4
  check .format (d.rndOk && d.a.fmtOk (· == .byte) && d.b.fmtOk (· == .absent) && d.c.fmtOk (· == .absent)
    && d.d.fmtOk (· == .absent))
  check .descriptor (d.a.rowOk && d.b.isZero && d.c.isZero && d.d.isZero && decide (d.p 1 < 16) && decide (d.p 2 < 16)
    && d.p 3 == 0 && leAt d.param 6 2 == 0 && decide (dest < 2 ^ 20) && leAt d.param 12 20 == 0 && maySend s k dest)
  let body := stampNotice (256 * k + tileGroup t) s.selfDev (tilePos t) (s.bytesAt (storeAddr t (128 * d.a.base)) 11)
  .ok { last := f.due + 1
        reads := [(f.due, d.a.base)]
        ends := [(f.due + 1, fun s => postItem s t (tileNd t)
          (.packet (stampPacket s t 5 dest (d.p 2) (leAt d.param 4 2) body) (d.p 1) 0))] }

/-- Remove the first posting that a test accepts, and give it. -/
def Router.takePosting (r : Router) (f : Posting → Bool) : Option (Posting × Router) :=
  (r.posted.find? f).map (fun x => (x, { r with posted := r.posted.erase x }))

/-- BE_PACKET_INJECT (R370, R379): the oldest best-effort packet that a tile has posted and that is due reaches its network
die; one that expects a response waits for an outstanding-request entry. -/
def beInject (s : Dev) (t : Nat) : Dev :=
  let mine (x : Posting) : Bool := x.tile == t && decide (x.due ≤ s.time.bc)
    && (match x.item with | .packet _ _ _ => true | _ => false)
  match s.router.takePosting mine with
  | none => s
  | some (x, r) =>
    match x.item with
    | .packet p j land =>
      let p := startRoute s x.part p
      if p.kind = 2 ∨ p.kind = 3 ∨ p.kind = 5 then
        let nd := tileNd t
        let used := (s.router.ort.filter (·.die == nd)).map (·.ix)
        match (List.range 2048).find? (fun i => !used.contains i) with
        | none => s
        | some ix =>
          let p := { p with rtag := ix + 2048 * nd }
          let notice := p.kind == 5
          let e : OrtEntry := {
            die := nd, ix := ix, link := none, owner := if notice then .notice x.part t j else .tile x.part t j, part := x.part,
            land := land, len := if p.kind = 3 then p.len else 0, opened := s.time.bc
            again := if notice then some p else none, retryAt := none
            lost := none }
          enterRouter { s with router := { r with ort := r.ort ++ [e] } } p
      else enterRouter { s with router := r } p
    | _ => s

/-- Put a planned packet's flits into a link's planned queue: each flit that finds 256 there is dropped, and the owner's job
ends (R388, R393). -/
def enqueuePlanned (s : Dev) (l : Nat) (p : Packet) : Dev :=
  let room := 256 - (s.link l).plannedQ.length
  let fl := p.flits
  let s := s.updLink l (fun x =>
    let q := x.plannedQ ++ fl.take room
    { x with plannedQ := q, cnt := { x.cnt with queuePeak := max x.cnt.queuePeak q.length } })
  if fl.length ≤ room then s
  else
    let s := s.updRouter (fun r => { r with plannedOverflows := r.plannedOverflows + (fl.length - room) })
    raise s 2 12 393 (s.partOfTag p.fence) none (s.linkEvent (some l))

/-- Count a planned packet that is dropped (R384, R389, R392). -/
def plannedDrop (s : Dev) : Dev := s.updRouter (fun r => { r with plannedDrops := r.plannedDrops + 1 })

/-- PLANNED_ENQUEUE (R388): the oldest planned packet posted for a link that is due enters its queue whole. -/
def plannedEnqueue (s : Dev) (l : Nat) : Dev :=
  let mine (x : Posting) : Bool := decide (x.due ≤ s.time.bc)
    && (match x.item with | .planned m _ => m == l | _ => false)
  match s.router.takePosting mine with
  | none => s
  | some (x, r) =>
    match x.item with
    | .planned _ p =>
      let s := { s with router := r }
      if (s.link l).st = 4 then enqueuePlanned s l p else plannedDrop s
    | _ => s

/-- PLANNED_FORWARD (R389): 2 beats after acceptance, 8 across the bridge. -/
def plannedForward (s : Dev) (id : Nat) : Dev :=
  match s.router.plannedIn.find? (fun q => q.id == id && q.pkt.dest != s.selfDev) with
  | none => s
  | some q =>
    let p := q.pkt
    let out := bits p.route (6 * p.hop) 6
    let inl := q.link.getD 0
    if s.time.bc < q.since + (if linkDie out = linkDie inl then 2 else 8) then s
    else if !s.passes q then fenceDrop s q
    else if !kindOk p || !p.planned then badKindDrop s q
    else
      let s := s.updRouter (·.remove id)
      let owned : Bool := match s.partOfTag p.fence with | some k => bit (s.part k).net.plannedLinks out | none => false
      if 3 ≤ p.hop ∨ ¬ owned ∨ (s.link out).st ≠ 4 then plannedDrop s
      else enqueuePlanned s out { p with hop := p.hop + 1 }

/-- `n` payload bytes of transfer `i` have been accepted: they count for its oldest instance that has not landed (R392). -/
def countArrival (i n : Nat) : List Arrival → List Arrival
  | [] => []
  | a :: t => if a.ix = i ∧ a.left ≠ 0 then { a with left := a.left - n } :: t else a :: countArrival i n t

/-- PLANNED_PACKET_ARRIVAL (R392, R383): LEN counts against the transfer record, and the data go to their tile or channel. -/
def plannedArrival (s : Dev) (id : Nat) : Dev :=
  match s.router.plannedIn.find? (fun q => q.id == id && q.pkt.dest == s.selfDev) with
  | none => s
  | some q =>
    let p := q.pkt
    if !s.passes q then fenceDrop s q
    else if !kindOk p || !p.planned then badKindDrop s q
    else
      let s := s.updRouter (·.remove id)
      match s.partOfTag p.fence with
      | none => s
      | some k =>
        let known := match s.planOf k with | some pl => decide (p.xfer < pl.transfers.length) | none => false
        if !known || (s.part k).time.mode == .stopped then plannedDrop s
        else
          let s := s.updPlan k (fun x => { x with arrivals := countArrival p.xfer p.payload.length x.arrivals })
          if !s.reach k p.addr p.payload.length then addressReject s
          else
            (partsOf p.addr p.payload.length).foldl (fun s x =>
              let piece := (p.payload.drop (x.1 - p.addr)).take x.2
              if isStore x.1 then
                let off := x.1 % 0x200000
                addLandings s (storeTile x.1)
                  ((lineParts (piece.length / 128 + 2) off piece).map (fun y => ⟨.link, y.1, y.2, []⟩))
              else
                let i := s.newId
                { i.2 with plannedLandings := s.plannedLandings ++ [⟨i.1, x.1, piece, writeCost x.1 x.2⟩] }) s

/-- Whether a link still waits for its anchor to move to BC: its owner's plan no longer runs (R384). -/
def Dev.anchorWaits (s : Dev) (l : Nat) : Bool :=
  (s.link l).anchorPbc && !(List.range 16).any (fun k =>
    bit (s.part k).net.plannedLinks l && (s.part k).plan.state == 3 && (s.part k).time.mode != .stopped
      && (s.linkRec k l).isSome)

/-- ANCHOR_CHANGE (R384): at the next beat edge at which BC[5:0] is 0, the frame is anchored to BC; planned flits still queued
are dropped, counted by packet. -/
def anchorChange (s : Dev) (l : Nat) : Dev :=
  if s.anchorWaits l && s.time.bc % 64 == 0 then
    let n := ((s.link l).plannedQ.filter (fun f => bit f.kind 3)).length
    let s := s.updRouter (fun r => { r with plannedDrops := r.plannedDrops + n })
    s.updLink l (fun x => { x with anchorPbc := false, plannedQ := [], missed := 0 })
  else s

/-- LINK_RECHECK (R402): firmware checks an UP link again against each loaded route table (R394). -/
def linkRecheck (s : Dev) (l : Nat) : Dev :=
  if (s.link l).st ≠ 4 ∨ 64 ≤ l then s else
  (List.range 16).foldl (fun s k =>
    match (s.part k).net.route with
    | none => s
    | some rt =>
      let ok := bit rt.openLinks l && rt.linkRank.getD l 0 != 0 && (match s.rankOf k (s.link l).peerDev with
        | some r => r != rt.thisRank
        | none => false)
      s.updNet k (fun n => { n with openLinks := setBit n.openLinks l ok })) s

/-- Best-effort flits in order, without the packets of a fence tag of which no flit has been sent (R405). -/
def dropTag (tag : Nat) : Bool → List Flit → List Flit
  | _, [] => []
  | dropping, f :: t =>
    let d := if bit f.kind 2 then leAt f.payload 14 2 == tag else dropping
    if d then dropTag tag true t else f :: dropTag tag false t

/-- FENCE_TAG_WRITE (R401, R405): refused while the partition runs, where another partition holds the tag, or while the tag
cools; a change drops the partition's traffic, discards its entries and cools the old tag. The links are fenced for the old
tag because the partition no longer holds it; for a new job tag the four conditions of R402 decide which links are open. -/
def fenceTagWrite (s : Dev) (k tag : Nat) : Bool × Dev :=
  let p := s.part k
  if p.time.mode ≠ .stopped ∨ 0xFFFE < tag ∨ 16 ≤ k then (false, s)
  else if tag ≠ 0 ∧ ((List.range 16).any (fun j => j != k && (s.part j).fenceTag == tag)
      || s.router.cooling.any (·.1 == tag)) then (false, s)
  else if tag = p.fenceTag then (true, s)
  else
    let old := p.fenceTag
    let s := s.updPart k (fun p => { p with fenceTag := tag })
    let gone (x : InPacket) : Bool := x.pkt.fence == old && old != 0
    let waiting := (s.router.ingress.filter (fun q => gone q && q.link.isNone)) ++ (s.router.out.map (·.2)).filter gone
    let s := waiting.foldl finishPacket s
    let s := s.updRouter (fun r => { r with
      posted := r.posted.filter (·.part != k), ort := r.ort.filter (·.part != k)
      cooling := if old = 0 then r.cooling else r.cooling ++ [(old, s.time.bc)] })
    let s := s.updWeights k (fun w => { w with mirrors := [] })
    let s := if old = 0 then s else { s with
      links := Sparse.mapVals .reset s.links (fun x => { x with beQ := x.beQ.map (dropTag old false) }) }
    (true, (linksOf p.net.plannedLinks).foldl (fun s l => s.updLink l (fun x => { x with plannedQ := [], missed := 0 })) s)

/-- TAG_COOLDOWN_EXPIRY (R401). -/
def tagCooled (s : Dev) (tag : Nat) : Dev :=
  s.updRouter (fun r => { r with cooling := r.cooling.filter (fun e =>
    !(e.1 == tag && decide (e.2 + r.tagCooldown ≤ s.time.bc))) })

end Sys2Proof.Machine
end

