-- ==== Sys2Proof/Machine/Cycles.lean ====
section
/-!
DEFINITION. Planned cycles of a tile (04, 03): what its running operations do at the start and at the end of a cycle, and when
the next period of its generator begins (assumptions 12, 20, 75).
-/
namespace Sys2Proof.Machine

/-- What an operation does, by its opcode (Table TO-5, Table FR-3). -/
def opOf (s : Dev) (t : Nat) (f : Flight) (d : Desc) : Except OpFault OpOut :=
  match d.opcode with
  | 0x10 => cgMm s t f d
  | 0x20 => vuEw s t f d
  | 0x21 => vuRed s t f d
  | 0x22 => vuQuant s t f d
  | 0x23 => vuChk s t f d
  | 0x24 => vuStow s t f d
  | 0x25 => vuJoin s t f d
  | 0x26 => vuFin s t f d
  | 0x30 => sfuFn s t f d
  | 0x40 => ixGather s t f d
  | 0x41 => ixScatter s t f d
  | 0x42 => ixSegred s t f d
  | 0x50 => mvCopy s t f d
  | 0x51 => mvSend s t f d
  | 0x52 => mvLand s t f d
  | 0x53 => mvMq s t f d
  | 0x54 => match d.p 0 with
    | 1 | 2 | 3 => mvLinkPacket s t f d
    | 0x10 => mvLinkBarrier s t f d
    | 0x11 => mvLinkSignal s t f d
    | 0x12 => mvLinkNotice s t f d
    | _ => mvLinkPlanned s t f d
  | 0x55 => mvImem s t f d
  | 0x60 => dgOpen s t f d
  | 0x61 => dgScan s t f d
  | 0x62 => dgTake s t f d
  | 0x70 => fuLoad s t f d
  | 0x71 => fuFeat s t f d
  | 0x72 => fuEval s t f d
  | 0x73 => fuNsample s t f d
  | _ => .error .descriptor

/-- The descriptor that a flight runs. -/
def Flight.desc (f : Flight) : Desc := Desc.parse f.entry.desc

/-- A flight that has yet to start. -/
def Flight.of (e : Engine) (q : QEntry) : Flight := ⟨e, q, 0, 0, [], [], 0, none⟩

/-- The device as a running operation takes it in cycle `m`: the store as engines see it then, and the lines that the
operation has read as it read them. -/
def flightView (s : Dev) (t m : Nat) (f : Flight) : Dev :=
  (f.lines.filter (fun c => decide (c.line < 16384))).foldl
    (fun s c => putRaw s t (128 * c.line) c.data c.faults) (s.seenAt t m true)

/-- What an operation does, as far as its reads up to cycle `m` decide it. -/
def outAt (s : Dev) (t m : Nat) (f : Flight) : OpOut :=
  match opOf (flightView s t m f) t f f.desc with
  | .ok o => o
  | .error _ => { last := f.last }

/-- Whether a flight is on MV channel 1. -/
def Flight.second (f : Flight) : Bool := f.engine == .mv && f.desc.form == 1

/-- The flights in the order in which they act within a cycle: MV channel 1 last (R218, R285). -/
def Engines.order (x : Engines) : List Nat :=
  let l := List.range x.flights.length
  let second (i : Nat) : Bool := match x.flights[i]? with | some f => f.second | none => false
  l.filter (!second ·) ++ l.filter second

/-- Change flight `i` of a tile. -/
def updFlight (s : Dev) (t i : Nat) (g : Flight → Flight) : Dev :=
  s.updTile t (·.updEng (fun x => { x with flights := x.flights.modify i g }))

/-- Do something for flight `i` of a tile, with what it does in the cycle in progress. -/
def onFlight (s : Dev) (t i : Nat) (g : Dev → Flight → OpOut → Dev) : Dev :=
  match (s.tile t).eng.flights[i]? with
  | none => s
  | some f => g s f (outAt s t (s.tile t).core.cycle f)

/-- Flight `i` reads line `l` in cycle `m`; a computing unit checks the words of the line (R532). -/
def readLine (t i m : Nat) (checked : Bool) (s : Dev) (l : Nat) : Dev :=
  let v := s.seenAt t m true
  let a := storeAddr t (128 * l)
  let s := if checked then checkStoreRead v s t (128 * l) 128 else s
  updFlight s t i (fun f => { f with lines := f.lines ++ [⟨m, l, v.rawBytes a 128, v.faultsAt a 128⟩] })

/-- Flight `i` takes a group from a direct path, or meets a feed fault (R196). -/
def takeGroup (t i : Nat) (s : Dev) (w : PathWant) : Dev :=
  let x := (s.tile t).eng
  match (x.path w.path).find? w.meets with
  | some g =>
    let s := s.updTile t (·.updEng (fun x => x.setPath w.path ((x.path w.path).erase g)))
    updFlight s t i (fun f => { f with groups := f.groups ++ [(w.index, some g.data)] })
  | none =>
    let s := match x.flights[i]? with | some f => feedFault s t f.engine f.entry | none => s
    updFlight s t i (fun f => { f with groups := f.groups ++ [(w.index, none)] })

/-- Flight `i` takes line `j` of its landing from the crossing at a port (R219). -/
def takeLine (t i : Nat) (s : Dev) (j port : Nat) : Dev :=
  match (s.crossing t port).lines with
  | [] => s
  | l :: _ =>
    let s := s.setCrossing t port ((s.crossing t port).take (s.tile t).clock.cycleAt)
    updFlight s t i (fun f => { f with lines := f.lines ++ [⟨(s.tile t).core.cycle, 16384 + j, l.data, l.faults⟩] })

/-- What flight `i` does at the start of the cycle in progress: it reads its lines, takes groups and mesh lines, and acts
(R108, R116, R196, R219). -/
def captureFlight (s : Dev) (t i : Nat) : Dev :=
  let m := (s.tile t).core.cycle
  onFlight s t i (fun s _ o =>
    let pick (l : List (Nat × Nat)) : List Nat := (l.filter (·.1 == m)).map (·.2)
    let s := (pick o.reads).foldl (readLine t i m true) s
    let s := (pick o.moves).foldl (readLine t i m false) s
    let s := (o.wants.filter (·.cycle == m)).foldl (takeGroup t i) s
    let s := ((numbered o.lands).filter (·.1.1 == m)).foldl (fun s p => takeLine t i s p.2 p.1.2) s
    (o.starts.filter (·.1 == m)).foldl (fun s p => p.2 s) s)

/-- The next tile of a route, and the port by which a line enters it. -/
def firstHop (t : Nat) (route : List Nat) : Option (Nat × Nat) :=
  route.head?.bind (fun d => (neighbour t d).map (fun u => (u, entryPort d)))

/-- When the cycle `c` begins, as the cycle in progress has: after the last cycle of a stint, periods follow it back to back
(R77). -/
def Dev.cycleTime (s : Dev) (t c : Nat) : Int :=
  (s.tile t).clock.cycleAt + ((c - (s.tile t).core.cycle) * s.periodOf t : Nat)

/-- Flight `i` puts its next lines into the crossing. A second line on one hop in one cycle follows a period later (R124,
R218). -/
def sendLines (t i : Nat) : Dev → List (Nat × List Nat × Bytes × List (Nat × WordFault)) → Dev
  | s, [] => s
  | s, x :: rest =>
    match firstHop t x.2.1 with
    | none => s
    | some (u, p) =>
      let c := s.crossing u p
      match c.roomAt (s.periodOf t) with
      | none => s
      | some r =>
        let at_ := s.cycleTime t x.1
        let s := if at_ < r then countWriteWait s t else s
        let s := s.setCrossing u p (c.put (max at_ r) x.2.1.tail ⟨0, [], x.2.2.1, x.2.2.2⟩)
        sendLines t i (updFlight s t i (fun f => { f with sent := f.sent + 1 })) rest

/-- The lines of a flight that are due to enter their crossing by cycle `m`. -/
def OpOut.dueSends (o : OpOut) (f : Flight) (m : Nat) : List (Nat × List Nat × Bytes × List (Nat × WordFault)) :=
  (o.sends.drop f.sent).takeWhile (fun x => decide (x.1 ≤ m))

/-- An operation writes a line at the end of a cycle (Table TL-5, R117, R119). -/
def writeLine (t : Nat) (e : Engine) (s : Dev) (w : LineWrite) : Dev :=
  let m := w.cycle
  let hit := w.words.filter (fun x => (s.tile t).eng.wrote.any (fun y => y.1 == m && y.2.1 == x))
  let s := writeSeen s t (m + 1) (m + 2) (128 * w.line) w.data w.faults
  let s := hit.foldl (fun s x => writeCollision s t m e.unit x) s
  let s := digestSee s t (128 * w.line) w.data.length
  s.updTile t (·.updEng (fun x => { x with wrote := x.wrote ++ w.words.map (fun y => (m, y, false)) }))

/-- An operation writes a group into a direct path; over eight, the oldest is overwritten, a feed fault (R196). -/
def giveGroup (t : Nat) (f : Flight) (s : Dev) (g : PathId × PathGroup) : Dev :=
  let l := (s.tile t).eng.path g.1
  let s := if l.length < 8 then s else feedFault s t f.engine f.entry
  s.updTile t (·.updEng (fun x => x.setPath g.1 ((if l.length < 8 then l else l.tail) ++ [g.2])))

/-- What an operation counts with its last cycle (R154, R202). -/
def countTally (s : Dev) (y : Tally) : Dev :=
  s.updOps (fun x => { x with
    saturations := x.saturations + y.sat, nanResults := x.nanResults + y.nan, nanBlocks := x.nanBlocks + y.blk
    intNanZeros := x.intNanZeros + y.intNan })

/-- What flight `i` does at the end of the cycle in progress: its writes, its groups, its requests and other effects. -/
def endFlight (s : Dev) (t i : Nat) : Dev :=
  let m := (s.tile t).core.cycle
  onFlight s t i (fun s f o =>
    let s := (o.writes.filter (·.cycle == m)).foldl (writeLine t f.engine) s
    let s := (o.gives.filter (·.2.cycle == m)).foldl (giveGroup t f) s
    let s := (o.rows.filter (·.post == m)).foldl (fun s r => postRequest s t r.entry r.isNull) s
    let s := (o.ends.filter (·.1 == m)).foldl (fun s p => p.2 s) s
    if m = f.last then countTally s o.tally else s)

/-- The digests see the words that stores of the control core write in cycle `m` (R119). -/
def digestWords (s : Dev) (t m : Nat) : Dev :=
  let due (y : Nat × Nat × Bool) : Bool := y.1 == m && y.2.2
  let s' := ((s.tile t).eng.wrote.filter due).foldl (fun s y => digestSee s t (8 * y.2.1) 8) s
  s'.updTile t (·.updEng (fun x => { x with wrote := x.wrote.map (fun y => if due y then (y.1, y.2.1, false) else y) }))

/-- The cycle in progress ends: its writes are made (R116, R117). -/
def endCycle (s : Dev) (t : Nat) : Dev :=
  let s := digestWords ((s.tile t).eng.order.foldl (fun s i => endFlight s t i) s) t (s.tile t).core.cycle
  s.updTile t (·.updEng (fun x => { x with ended := true }))

/-- The banks that the planned accesses of the cycle in progress use, each access once (R115). -/
def Dev.banksUsed (s : Dev) (t : Nat) : List Nat :=
  let m := (s.tile t).core.cycle
  let x := (s.tile t).eng
  let lines := x.flights.flatMap (fun f =>
    let o := outAt s t m f
    ((o.reads ++ o.moves).filter (·.1 == m)).map (·.2) ++ (o.writes.filter (·.cycle == m)).map (·.line))
  (lines ++ (x.coreUse.filter (·.1 == m)).map (·.2)).map (· % 16)

/-- Accesses to one bank. -/
def bankCount (l : List Nat) (b : Nat) : Nat := (l.filter (· == b)).length

/-- The periods that a cycle takes for its banks: the largest number of accesses to one bank (R116). -/
def bankPeriods (l : List Nat) : Nat := (List.range 16).foldl (fun n b => max n (bankCount l b)) 1

/-- Whether an entry that is due still stands at the head of a queue (R108). -/
def Engines.headDue (x : Engines) (m : Nat) : Bool :=
  [x.cg, x.vu, x.sfu, x.ix, x.fu, x.mv, x.dg].any (fun q => match q with | e :: _ => decide (e.due ≤ m) | [] => false)

/-- A period of the generator begins at time `at_` in which no planned cycle begins: `f` counts it. -/
def passPeriod (s : Dev) (t : Nat) (at_ : Int) (f : Dev → Dev) : Dev :=
  let tp := s.periodOf t
  let s := s.updTile t (fun x => { x with clock := x.clock.beginPeriod at_ tp, core := { x.core with spare := true } })
  countFull (f s) t 1

/-- A further period of a cycle in which banks conflict (R116). -/
def holdPeriod (s : Dev) (t : Nat) : Dev :=
  passPeriod s t (s.tile t).clock.next (fun s =>
    let first := boolNat ((s.tile t).core.held == 0)
    let s := s.updTile t (fun x => { x with
      core := { x.core with held := x.core.held + 1 }
      eng := { x.eng with bankConflicts := x.eng.bankConflicts + first, conflictPeriods := x.eng.conflictPeriods + 1 } })
    s.updTileTotals (fun x => { x with bankConflicts := x.bankConflicts + first, conflictPeriods := x.conflictPeriods + 1 }))

/-- A late-action wait of one period (R111); a wait of the control core that holds the release cycle counts it too (R268). -/
def latePeriod (s : Dev) (t : Nat) (at_ : Int) : Dev :=
  passPeriod s t at_ (fun s =>
    let w := match (s.tile t).core.state with | .waiting _ => 1 | _ => 0
    let s := s.updTile t (fun x => { x with
      core := { x.core with waitPeriods := x.core.waitPeriods + w }
      eng := { x.eng with latePeriods := x.eng.latePeriods + 1 } })
    let s := s.updOps (fun o => { o with waitPeriods := o.waitPeriods + w })
    s.updTileTotals (fun x => { x with latePeriods := x.latePeriods + 1 }))

/-- An MQ-full wait of one period (R288). -/
def mqFullPeriod (s : Dev) (t : Nat) (at_ : Int) : Dev :=
  passPeriod s t at_ (fun s =>
    (s.updTile t (·.updMq (fun q => { q with fullWaits := q.fullWaits + 1 }))).updMemTotals (fun m => { m with
      fullWaits := m.fullWaits + 1 }))

/-- The operations that may act in cycle `m`: those in progress, and the MV entries due then. -/
def Engines.acting (x : Engines) (m : Nat) : List Flight :=
  x.flights ++ ((x.mv.takeWhile (fun q => decide (q.due ≤ m))).map (Flight.of .mv))

/-- Whether the memory queue has room for the rows whose first step falls in cycle `m` (R288). -/
def MemQueue.roomFor (q : MemQueue) (m : Nat) (rows : List QueueRow) : Bool :=
  let held := (rows.filter (fun r => decide (r.first < m) && decide (m ≤ r.post))).map (·.entry)
  ((rows.filter (·.first == m)).foldl (fun (acc : Bool × List MqEntry) r =>
    (acc.1 && q.room acc.2 r.entry, acc.2 ++ [r.entry])) (true, held)).1

/-- When the lines that cycle `m` takes from crossings are readable: none where one has not come (R85, R89). -/
def Dev.landsReady (s : Dev) (t m : Nat) (outs : List OpOut) : Option Int :=
  let ports := outs.flatMap (fun o => (o.lands.filter (·.1 == m)).map (·.2))
  (List.range 4).foldl (fun acc p =>
    let k := (ports.filter (· == p)).length
    let l := (s.crossing t p).lines.take k
    acc.bind (fun a => if l.length < k || l.any (fun x => !x.route.isEmpty) then none
      else some (l.foldl (fun a x => max a (x.written + s.periodOf t)) a))) (some longAgo)

/-- When the crossings have room for the lines that are due to enter them in cycle `m`: none while one is full (R90). -/
def Dev.sendsReady (s : Dev) (t m : Nat) (outs : List (Flight × OpOut)) : Option Int :=
  let hops := (outs.flatMap (fun p => p.2.dueSends p.1 m)).filterMap (fun x => firstHop t x.2.1)
  hops.foldl (fun acc h =>
    let c := s.crossing h.1 h.2
    acc.bind (fun a => if c.freed.length < (hops.filter (· == h)).length then none
      else (c.roomAt (s.periodOf t)).map (max a))) (some longAgo)

/-- The beat edge before which cycle `m` may not begin, where `m` is the first of its beat; the end of the present period
otherwise (R76). -/
def Dev.cycleStart (s : Dev) (t m : Nat) : Int :=
  let k := s.owner t
  let c := s.cyclesPerBeat k
  let next := (s.tile t).clock.next
  if m % c = 0 then
    max next ((((s.part k).plan.stintStart + m / c : Nat) - (s.part k).time.pbc : Int) * beatTime)
  else next

/-- Cycle `m` begins at time `x` (R76, R108, R116): every operation in progress acts for its start. -/
def beginCycle (s : Dev) (t m : Nat) (x : Int) : Dev :=
  let tp := s.periodOf t
  let s := s.updTile t (fun y => { y with
    clock := { y.clock.beginPeriod x tp with cycleAt := x }
    core := { y.core with cycle := m, held := 0, spare := true }
    eng := { y.eng.pruneUndo m with
      ended := false
      flights := y.eng.flights.filter (fun f => decide (m ≤ f.fin))
      coreUse := y.eng.coreUse.filter (fun u => decide (m ≤ u.1))
      wrote := y.eng.wrote.filter (fun u => decide (m ≤ u.1)) } })
  let s := countFull s t 1
  (s.tile t).eng.order.foldl (fun s i =>
    onFlight (captureFlight s t i) t i (fun s f o => sendLines t i s (o.dueSends f m))) s

/-- The generator begins its next period, where it can in the present beat; the flag tells whether it has (R76, R89, R90,
R106, R108, R111, R116, R288). -/
def openPeriod (s : Dev) (t : Nat) : Dev × Bool :=
  let x := s.tile t
  let m := x.core.cycle + 1
  if x.eng.headDue x.core.cycle then (s, false)
  else if x.core.held + 1 < bankPeriods (s.banksUsed t) then
    if x.clock.next < beatTime then (holdPeriod s t, true) else (s, false)
  else
    let s := if x.eng.ended then s else endCycle s t
    let x := s.tile t
    let start := s.cycleStart t m
    if beatTime ≤ start then (s, false)
    else if x.core.release < m then (latePeriod s t start, true)
    else
      let outs := (x.eng.acting m).map (fun f => (f, outAt s t m f))
      if !x.mq.roomFor m (outs.flatMap (·.2.rows)) then (mqFullPeriod s t start, true)
      else match s.landsReady t m (outs.map (·.2)), s.sendsReady t m outs with
        | some r, some w =>
          let from_ := max start (max r w)
          if beatTime ≤ from_ then (s, false)
          else
            let s := if start < r then countReadWait s t ((r - start).toNat / 408) else s
            let s := if start < w then countWriteWait s t else s
            (beginCycle s t m from_, true)
        | _, _ => (s, false)

end Sys2Proof.Machine
end

