-- ==== Sys2Proof/Machine/Runner.lean ====
section
/-!
DEFINITION. How a tile runs from period to period (04, 09): timed actions of the control core in their due cycles, engines that
take their entries, the landing port.
-/
namespace Sys2Proof.Machine

/-- A load of `n` bytes in its due cycle: it sees the store as Table TL-5 says, and takes two periods (R247, R254, R255). -/
def performLoad (s : Dev) (t n : Nat) (a : Fin 16) (off : Nat) : Dev :=
  let m := (s.tile t).core.cycle
  let v := s.seenAt t m false
  let x := leNat (v.bytesAt (storeAddr t off) n)
  let s := checkStoreRead v s t off n
  s.updTile t (fun y => { y with
    eng := { y.eng with coreUse := y.eng.coreUse ++ [(m, off / 128)] }
    core := (
      let c := y.core.setS a (BitVec.ofNat 32 x)
      let c := if n = 8 then c.setS (a + 1) (BitVec.ofNat 32 (x / 2 ^ 32)) else c
      { c.next with state := .running, spare := false, rest := true }) })

/-- A store of `n` bytes in its due cycle (R254): engines see it from the second cycle after it, loads from the next, or, of a
narrow write, from the second (Table TL-5, R114, R117, R540). A word that another write of the cycle has written is a write
collision; the digests see the word with the end of the cycle in which it is written (R119). -/
def performStore (s : Dev) (t n : Nat) (a : Fin 16) (off : Nat) : Dev :=
  let c := (s.tile t).core
  let m := c.cycle
  let w := off / 8
  let narrow := n != 8
  let v := (c.sreg a).toNat + (if narrow then 0 else (c.sreg (a + 1)).toNat * 2 ^ 32)
  let hit := (s.tile t).eng.wrote.any (fun y => y.1 == m && y.2.1 == w)
  let late := (s.tile t).eng.ended
  let s := writeSeen s t (m + 2) (if narrow then m + 2 else m + 1) off (leBytes n v) []
  let s := if hit then writeCollision s t m 0 w else s
  let s := if late && !narrow then digestSee s t (8 * w) 8 else s
  s.updTile t (fun y => { y with
    eng := { y.eng with
      coreUse := y.eng.coreUse ++ (m, off / 128) :: (if narrow then [(m + 1, off / 128)] else [])
      wrote := y.eng.wrote ++ (m, w, !narrow && !late) :: (if narrow then [(m + 1, w, true)] else []) }
    core := { y.core.next with state := .running, spare := false } })

/-- A wait's condition holds: the wait completes in this period (R106, R256). -/
def finishWait (s : Dev) (t : Nat) (w : Wait) : Dev :=
  s.updCore t (fun c => { w.finish c with spare := false })

/-- A wait tests its condition in its due cycle; short of it, the release cycle stays (R106, R256). -/
def performWait (s : Dev) (t : Nat) (w : Wait) : Dev :=
  let s := s.updCore t (fun c => { c with lastWaitKind := waitCode w.kind, spare := false })
  if w.holds (s.tile t) then finishWait s t w else s.updCore t (fun c => { c with state := .waiting w })

/-- The error of an operation that would run past a stint end (R112). -/
def pastEnd (t : Nat) (s : Dev) (f : Engine × QEntry) : Dev := engineOverlap s t 112 3 f.1 f.2

/-- The engines, in the order of their unit codes. -/
def allEngines : List Engine := [.cg, .vu, .sfu, .ix, .fu, .mv, .dg]

/-- The last cycle of an entry that still stands in a queue. -/
def QEntry.lastCycle (s : Dev) (t : Nat) (e : Engine) (q : QEntry) : Nat :=
  max q.due (outAt s t q.due (Flight.of e q)).last

/-- The operations, running or queued, whose last cycle lies after `d` (R112). -/
def Dev.pastBound (s : Dev) (t d : Nat) : List (Engine × QEntry) :=
  ((s.tile t).eng.flights.filter (fun f => decide (d < f.last))).map (fun f => (f.engine, f.entry))
    ++ allEngines.flatMap (fun e =>
      (((s.tile t).eng.queue e).filter (fun q => decide (d < q.lastCycle s t e))).map (fun q => (e, q)))

/-- Queued entries that would run past a stint end leave their queues. -/
def dropPast (s : Dev) (t d : Nat) : Dev :=
  allEngines.foldl (fun s e =>
    (let keep := ((s.tile t).eng.queue e).filter (fun q => decide (q.lastCycle s t e ≤ d))
     s.updTile t (·.updEng (·.setQueue e keep)))) s

/-- The stint end in its due cycle (R106, R112, R262), with the nap that stint.nap asks for (R264). -/
def performEnd (s : Dev) (t : Nat) (nap : Option (Nat × Nat)) : Dev :=
  let d := (s.tile t).core.cycle
  if nap.any (fun n => n.2 == 0) then ccFault s t 1 8 267 0
  else
    let s := s.updCore t (fun c => { c.next with
      state := .atEnd, endDue := some d, napAsk := nap, spare := false })
    dropPast ((s.pastBound t d).foldl (pastEnd t) s) t d

/-- A timed action is performed in its due cycle (R106). -/
def perform (s : Dev) (t : Nat) : TimedAct → Dev
  | .load n a off => performLoad s t n a off
  | .store n a off => performStore s t n a off
  | .wait w => performWait s t w
  | .finish nap => performEnd s t nap

/-- An issue places its entry: the entry is in the queue, and R becomes its due cycle (R106). -/
def placeEntry (s : Dev) (t : Nat) (e : Engine) (q : QEntry) : Dev :=
  s.updTile t (fun x => { x with
    eng := x.eng.setQueue e (x.eng.queue e ++ [q])
    core := { x.core.next with release := q.due, state := .running, spare := false } })

/-- Whether the cycle in progress can end: no entry due in it waits, and its banks have had their periods. -/
def Dev.cycleOver (s : Dev) (t : Nat) : Bool :=
  let x := s.tile t
  !x.eng.headDue x.core.cycle && decide (bankPeriods (s.banksUsed t) ≤ x.core.held + 1)

/-- One step of a tile that needs no command: an action in its due cycle, or a period that passes while the control core waits
for it; the flag tells whether anything has been done. While the core is to execute an instruction, or holds the release
cycle, nothing is. -/
def runStep (s : Dev) (t : Nat) : Dev × Bool :=
  if !s.tileRuns t then (s, false) else
  let c := (s.tile t).core
  match c.state with
  | .running =>
    if !c.rest then (s, false) else
    let r := openPeriod s t
    (if r.2 then r.1.updCore t (fun c => { c with rest := false, spare := false }) else r.1, r.2)
  | .due a d => if d ≤ c.cycle ∧ c.spare then (perform s t a, true) else openPeriod s t
  | .waiting w =>
    if !w.holds (s.tile t) then (s, false)
    else if c.spare then (finishWait s t w, true) else openPeriod s t
  | .stalled e q =>
    if ((s.tile t).eng.queue e).length < 16 then (if c.spare then (placeEntry s t e q, true) else openPeriod s t)
    else if c.release ≤ c.cycle then (s, false) else openPeriod s t
  | .faulted => if c.release ≤ c.cycle then (s, false) else openPeriod s t
  | .atEnd =>
    if (s.tile t).eng.ended then (s, false)
    else if s.cycleOver t then (endCycle s t, true)
    else openPeriod s t
  | .idle | .napped => (s, false)

/-- Steps of a tile, as far as they go; `n` bounds their number. -/
def runSteps (step : Dev → Nat → Dev × Bool) (t : Nat) : Nat → Dev → Dev
  | 0, s => s
  | n + 1, s => (let r := step s t; if r.2 then runSteps step t n r.1 else r.1)

/-- A tile runs as far as it needs no command. -/
def runTile (s : Dev) (t : Nat) : Dev := runSteps runStep t 64 s

/-- A tile runs where its control core is in a state that a row stands for. -/
def runWhere (s : Dev) (t : Nat) (p : CoreState → Bool) : Dev := if p (s.tile t).core.state then runTile s t else s

/-- One step of a tile whose beat ends: periods pass also while the release cycle is held, and the cycle in progress ends. -/
def settleStep (s : Dev) (t : Nat) : Dev × Bool :=
  let r := runStep s t
  if r.2 || !s.tileRuns t then r else
  match (r.1.tile t).core.state with
  | .waiting _ | .stalled _ _ | .faulted => openPeriod r.1 t
  | .running =>
    let x := r.1.tile t
    (if !x.eng.ended && r.1.cycleOver t && decide (x.clock.next ≤ beatTime) then endCycle r.1 t else r.1, false)
  | _ => r

/-- What a tile does up to the next beat edge without a command. -/
def settleTile (s : Dev) (t : Nat) : Dev := runSteps settleStep t 64 s

/-- The edge of the next period is emitted, where it can be and an operation that acts in the next cycle may hold it, as `holds`
says: READ_WAIT, WRITE_WAIT, MQ_FULL_WAIT (R89, R90, R288). -/
def emitEdge (s : Dev) (t : Nat) (holds : Flight → OpOut → Nat → Bool) : Dev :=
  let s := runTile s t
  let m := (s.tile t).core.cycle + 1
  if s.tileRuns t && !(s.tile t).core.spare && ((s.tile t).eng.acting m).any (fun f => holds f (outAt s t m f) m) then
    (openPeriod s t).1
  else s

/-- The product whose residue an armed injection alters in the next cg.mm of its tile, and the amount: free values (R555). -/
def residueInjection (s : Dev) (t : Nat) (d : Desc) : Option (Nat × Nat) × Dev :=
  if s.integrity.injectState = 1 ∧ s.integrity.injectTarget = 5 ∧ s.integrity.injectTile = t ∧ d.opcode = 0x10 then
    let p := s.takeFree 32
    let v := p.2.takeFree 32
    (some (p.1 % max 1 (d.a.rows * d.b.rows * d.a.cols), 1 + v.1 % 6), v.2.updIn (fun i => { i with injectState := 2 }))
  else (none, s)

/-- The cycle after which an operation does nothing more. -/
def OpOut.fin (o : OpOut) : Nat :=
  (o.writes.map (·.cycle) ++ o.gives.map (·.2.cycle) ++ o.sends.map (·.1) ++ o.rows.map (·.post)
    ++ o.ends.map (·.1)).foldl max o.last

/-- An operation starts with the cycle in progress (R108, R192). -/
def startFlight (s : Dev) (t : Nat) (e : Engine) (q : QEntry) (d : Desc) (o : OpOut) : Dev :=
  let r := residueInjection s t d
  let i := (r.2.tile t).eng.flights.length
  let s := r.2.updTile t (·.updEng (fun x => { x with
    freeAt := (occupied e d.form).foldl (fun l i => l.set i (o.last + 1)) x.freeAt
    flights := x.flights ++ [{ Flight.of e q with last := o.last, fin := o.fin, alter := r.1 }] }))
  let s := captureFlight s t i
  if (s.tile t).eng.ended then endFlight s t i else s

/-- A fast cg.mm in a partition whose plan is reproducible counts apart (R505). -/
def countReproFast (s : Dev) (t : Nat) (d : Desc) : Dev :=
  let repro := match s.planOf (s.owner t) with | some p => p.header.reproducible | none => false
  if d.opcode = 0x10 && repro && !d.acc then s.updOps (fun o => { o with reproFastFaults := o.reproFastFaults + 1 }) else s

/-- An engine takes its head entry at the start of its due cycle (R108): nothing happens unless the head entry is due and names
an operation that `mine` accepts. Then the checks of R186, R109 and R112, and the operation. DESIGN CHOICE (assumption 20): the
order of the checks is opcode, FORM and reserved bits, engine overlap, format faults, the other descriptor faults, end bound. -/
def runEntry (s : Dev) (t : Nat) (e : Engine) (mine : Desc → Bool) : Dev :=
  let s := runTile s t
  if !s.tileRuns t then s else
  let m := (s.tile t).core.cycle
  match (s.tile t).eng.queue e with
  | [] => s
  | q :: rest =>
    let d := Desc.parse q.desc
    let known := (opcodesOf e).contains d.opcode
    if m < q.due ∨ (known ∧ ¬ mine d) then s else
    let took := s.updTile t (·.updEng (·.setQueue e rest))
    if !known || !formOk e d.form || !d.clean then opFault took t e q .descriptor
    else if (occupied e d.form).any (fun i => decide (q.due < (s.tile t).eng.freeAt.getD i 0)) then
      engineOverlap took t 107 2 e q
    else
      let f := Flight.of e q
      match opOf (flightView s t m f) t f d with
      | .error .format => opFault took t e q .format
      | .error .descriptor => countReproFast (opFault took t e q .descriptor) t d
      | .ok o =>
        if s.endBound t < o.last then engineOverlap took t 112 3 e q
        else if (s.landsReady t m [o]).isNone || !(s.tile t).mq.roomFor m o.rows then s
        else startFlight took t e q d o

/-- Whether a tile has a planned cycle in progress or to come. -/
def Dev.cycling (s : Dev) (t : Nat) : Bool :=
  s.tileRuns t && (match (s.tile t).core.state with
    | .idle | .napped => false
    | .atEnd => !(s.tile t).eng.ended
    | _ => true)

/-- Whether the landing port may write into a bank in the present period (R118): at most two lines in a period, and no planned
access of the period uses the bank. The port of a napping tile still works (R297). -/
def Dev.portFree (s : Dev) (t bank : Nat) : Bool :=
  let x := s.tile t
  if !s.clocked t then true
  else x.clock.landed.length < 2 && !x.clock.landed.contains bank &&
    (!s.cycling t || x.eng.ended || decide (bankCount (s.banksUsed t) bank ≤ x.core.held))

/-- Whether the landing port of a tile works: its generator runs, or it naps with its memory port powered (R92, R99, R297). -/
def Dev.portWorks (s : Dev) (t : Nat) : Bool :=
  s.clocked t || (s.tileEnabled t && ((s.tile t).clock.gen == .napped || (s.tile t).clock.gen == .waking))

/-- Whether a tile has put every line of its operations into the mesh. -/
def Dev.linesSent (s : Dev) (t : Nat) : Bool :=
  (s.tile t).eng.flights.all (fun f => ((outAt s t (s.tile t).core.cycle f).dueSends f f.fin).isEmpty)

/-- After the last cycle of a stint the lines still on their way enter their crossings, those whose cycle begins in the
present beat and whose crossing has room then (R77, R90, R124). -/
def flushLines (s : Dev) (t : Nat) : Dev :=
  (s.tile t).eng.order.foldl (fun s i => onFlight s t i (fun s f o =>
    sendLines t i s ((o.dueSends f f.fin).takeWhile (fun x => decide (s.cycleTime t x.1 < beatTime))))) s

/-- One period of a tile passes, planned or idle, where one can without a command. -/
def nextPeriod (s : Dev) (t : Nat) : Dev × Bool :=
  if s.cycling t then settleStep s t
  else
    let n := (s.tile t).clock.idleLeft (s.periodOf t)
    (passIdle s t 1, decide (0 < n))

/-- Periods pass until the landing port has had `k` consecutive periods in which it may use a bank, the last of them the present
one; the flag tells whether it has (R118, R540). -/
def untilFree (t bank k : Nat) : Nat → Nat → Dev → Dev × Bool
  | 0, _, s => (s, false)
  | n + 1, had, s =>
    let had := if s.portFree t bank then had + 1 else 0
    if k ≤ had then (s, true) else (let r := nextPeriod s t; if r.2 then untilFree t bank k n had r.1 else (r.1, false))

/-- One more line of a read or gather has landed (R289). -/
def MqEntry.lineLanded (e : MqEntry) (bc : Nat) : MqEntry :=
  if e.landing ≤ 1 then e.completed bc else { e with landing := e.landing - 1 }

/-- The contents of a line that a read or gather has landed stay undefined until its completion is recorded (R292). -/
def settleLanding (s : Dev) (t : Nat) (l : Landing) : Dev :=
  match l.kind with
  | .link => s
  | .control none => s
  | .control (some id) => partDone s id
  | .mq id =>
    let s := freeRange s (storeAddr t (l.offset / 128 * 128)) 128
    let bc := s.time.bc
    s.updTile t (·.updMq (fun q => { q with entries := q.entries.map (fun e => if e.id = id then e.lineLanded bc else e) }))

/-- Whether a landing covers part of a word only. -/
def Landing.narrow (l : Landing) : Bool := l.offset % 8 != 0 || l.data.length % 8 != 0

/-- LANDING_WRITE (R118, R119, R298): in the first period in which its bank is free, the landing port writes its oldest
landing; a narrow write takes two consecutive periods (R540). -/
def landingWrite (s : Dev) (t : Nat) : Dev :=
  if !s.portWorks t then s else
  match (s.tile t).landings with
  | [] => s
  | l :: _ =>
    let bank := l.offset / 128 % 16
    let r := untilFree t bank (if l.narrow && s.clocked t then 2 else 1) 64 0 s
    if !r.2 then r.1 else
    let s := r.1
    let m := (s.tile t).core.cycle
    let clocked := s.clocked t
    let s := s.updTile t (fun x => Tile.takeHeld { x with
      landings := x.landings.drop 1, clock := { x.clock with landed := if clocked then x.clock.landed ++ [bank] else [] } })
    let s := if s.cycling t then writeSeen s t (m + 1) (m + 2) l.offset l.data l.faults
      else writeStore s t l.offset l.data l.faults
    settleLanding (digestSee s t l.offset l.data.length) t l

end Sys2Proof.Machine
end

