-- ==== Sys2Proof/Machine/CoreOps.lean ====
section
/-!
DEFINITION. Instructions of the control core (09, 04): untimed instructions, timed actions, waits, stint end and nap. Each
command stands for the instruction at the program counter of its tile (assumption 12).
-/
namespace Sys2Proof.Machine

/-- The instruction takes the present period. -/
def Dev.takePeriod (s : Dev) (t : Nat) : Dev := s.updCore t (fun c => { c with spare := false })

/-- A tile comes to the period in which its control core executes the next instruction: it runs as far as it needs no command,
and the instruction takes the present period, or the next; the flag tells whether the core executes one (R107, R247). -/
def toInstruction (s : Dev) (t : Nat) : Dev × Bool :=
  let s := runTile s t
  if !s.coreRuns t || (s.tile t).core.rest then (s, false)
  else if (s.tile t).core.spare then (s, true) else openPeriod s t

/-- One instruction of a tile's core: in its period the fetch checks, and its body follows; where the core does not execute one,
nothing more happens (R107, R247). -/
def instruction (s : Dev) (t : Nat) (body : Dev → Dev) : Dev :=
  let r := toInstruction s t
  if !r.2 then r.1 else
  let s := r.1.takePeriod t
  let pc := (s.tile t).core.pc
  if 8191 < pc then ccFault s t 2 8 267 0
  else match fetchCheck s t (8 * pc) 8 with
    | (some s, _) => body s
    | (none, s) => s

/-- An untimed instruction: its effect where the guard holds (R246, R248). -/
def untimed (s : Dev) (t : Nat) (g : Guard) (f : Core → Core) : Dev :=
  instruction s t (fun s => s.updCore t (fun c => if g.holds c then (f c).next else c.next))

/-- An instruction that may branch: a target past 8,191 is a fetch overrun (R248, R267). -/
def branching (s : Dev) (t : Nat) (g : Guard) (target : Nat) (taken : Core → Bool) (f : Core → Core) : Dev :=
  instruction s t (fun s =>
    let c := (s.tile t).core
    if !g.holds c then s.updCore t Core.next
    else if !taken c then s.updCore t (fun c => (f c).next)
    else if 8191 < target then ccFault s t 2 8 267 0
    else s.updCore t (fun c => { f c with pc := target }))

/-- call (R248): a full return stack is a return-stack fault. -/
def callOp (s : Dev) (t : Nat) (g : Guard) (target : Nat) : Dev :=
  instruction s t (fun s =>
    let c := (s.tile t).core
    if !g.holds c then s.updCore t Core.next
    else if 8 ≤ c.stack.length then ccFault s t 3 8 267 0
    else if 8191 < target then ccFault s t 2 8 267 0
    else s.updCore t (fun c => { c with stack := (c.pc + 1) % 2 ^ 13 :: c.stack, pc := target }))

/-- ret (R248): an empty return stack is a return-stack fault. -/
def retOp (s : Dev) (t : Nat) (g : Guard) : Dev :=
  instruction s t (fun s =>
    let c := (s.tile t).core
    if !g.holds c then s.updCore t Core.next
    else match c.stack with
      | [] => ccFault s t 3 8 267 0
      | r :: rest => s.updCore t (fun c => { c with stack := rest, pc := r }))

/-- The source a system read names (Table CC-4); none for a reserved code. -/
def sysSource (s : Dev) (t code : Nat) : Option Nat :=
  match code with
  | 0 => some t
  | 1 => some (tileGroup t)
  | 2 => some (tilePos t)
  | 3 => some (s.owner t)
  | 4 => some (s.deviceId % 2 ^ 20)
  | 5 => some ((s.part (s.owner t)).audit.step % 2 ^ 32)
  | 6 => some ((s.part (s.owner t)).audit.step / 2 ^ 32 % 2 ^ 32)
  | 7 => some s.enabledTiles
  | _ => none

/-- rd.sys (R253): a reserved code is an illegal instruction. -/
def rdSysOp (s : Dev) (t : Nat) (g : Guard) (a : Fin 16) (code : Fin 16) : Dev :=
  instruction s t (fun s =>
    let c := (s.tile t).core
    if !g.holds c then s.updCore t Core.next
    else match sysSource s t code with
      | none => ccFault s t 1 8 267 0
      | some v => s.updCore t (fun c => (c.setS a (BitVec.ofNat 32 v)).next))

/-- A timed action: its due cycle is checked (R105, R252); with a false guard it acts as pace (R251); otherwise its body
runs on the due cycle. -/
def timed (s : Dev) (t : Nat) (g : Guard) (due : Due) (body : Dev → Nat → Dev) : Dev :=
  instruction s t (fun s =>
    let c := (s.tile t).core
    let d := due.value c
    if d < c.lastDue then orderFault s t 105
    else if s.stintCycles (s.owner t) ≤ d then orderFault s t 252
    else
      let s := s.updCore t (fun c => { c with lastDue := d })
      if g.holds c then body s d
      else s.updCore t (fun c => { c.next with release := d }))

/-- pace (R106): the release cycle becomes d. -/
def paceOp (s : Dev) (t : Nat) (g : Guard) (due : Due) : Dev :=
  timed s t g due (fun s d => s.updCore t (fun c => { c.next with release := d }))

/-- An action of a due cycle is reached: R becomes d; the action is performed at once where the cycle is in progress, and waits
for it otherwise (R106). -/
def reach (s : Dev) (t d : Nat) (a : TimedAct) : Dev :=
  let s := s.updCore t (fun c => { c with release := d })
  if d ≤ (s.tile t).core.cycle then perform s t a else s.updCore t (fun c => { c with state := .due a d })

/-- The offset of a load or store (R254). -/
def memOffset (c : Core) (b : Fin 16) (i : BitVec 16) : Nat := (c.sreg b + i.signExtend 32).toNat % 2 ^ 21

/-- A load or store of `n` bytes: the alignment fault, and the illegal odd register of a pair (R254). -/
def accessOp (s : Dev) (t n : Nat) (g : Guard) (a b : Fin 16) (i : BitVec 16) (due : Due) (act : Nat → TimedAct) : Dev :=
  timed s t g due (fun s d =>
    let off := memOffset (s.tile t).core b i
    if off % n ≠ 0 then ccFault s t 4 8 267 0
    else if n = 8 ∧ a.val % 2 = 1 then ccFault s t 1 8 267 0
    else reach s t d (act off))

/-- A load of `n` bytes (R254, R255). -/
def loadOp (s : Dev) (t n : Nat) (g : Guard) (a b : Fin 16) (i : BitVec 16) (due : Due) : Dev :=
  accessOp s t n g a b i due (TimedAct.load n a)

/-- A store of `n` bytes (R254). -/
def storeOp (s : Dev) (t n : Nat) (g : Guard) (a b : Fin 16) (i : BitVec 16) (due : Due) : Dev :=
  accessOp s t n g a b i due (TimedAct.store n a)

/-- issue (R106, R110, R180, R181): the entry enters the queue and R becomes d, or the core stalls on a full queue. -/
def issueOp (s : Dev) (t : Nat) (g : Guard) (e : Engine) (slot : Fin 512) (adj : List (Fin 4 × Fin 16)) (due : Due) :
    Dev :=
  timed s t g due (fun s d =>
    if 2 < adj.length then ccFault s t 1 8 267 0 else
    match fetchCheck s t (128 * slot.val) 128 with
    | (none, s) => s
    | (some s, _) =>
      let c := (s.tile t).core
      let desc := s.bytesAt (imemAddr t (s.tile t).imemActive (128 * slot.val)) 128
      let q : QEntry := ⟨d, adj.foldl (adjustBase c) desc, slot.val⟩
      if 16 ≤ ((s.tile t).eng.queue e).length then
        let s := s.updTile t (fun x => { x with
          core := { x.core with state := .stalled e q }
          eng := { x.eng with queueFullStalls := x.eng.queueFullStalls + 1 } })
        s.updTileTotals (fun x => { x with queueFullStalls := x.queueFullStalls + 1 })
      else placeEntry s t e q)

/-- A wait (R106, R256). -/
def waitOp (s : Dev) (t : Nat) (g : Guard) (due : Due) (w : Core → Wait) : Dev :=
  timed s t g due (fun s d => reach s t d (.wait (w (s.tile t).core)))

/-- stint.end (R262). -/
def stintEndOp (s : Dev) (t : Nat) (g : Guard) (due : Due) : Dev :=
  timed s t g due (fun s d => reach s t d (.finish none))

/-- stint.nap (R264): bits 31 to 18 of the mask are not used. -/
def stintNapOp (s : Dev) (t : Nat) (g : Guard) (due : Due) (cA : Fin 8) (sB : Fin 16) : Dev :=
  timed s t g due (fun s d =>
    let c := (s.tile t).core
    reach s t d (.finish (some ((c.creg cA).toNat, (c.sreg sB).toNat % 2 ^ 18))))

end Sys2Proof.Machine
end

