-- ==== Sys2Proof/Machine/DictRows.lean ====
section
/-!
DEFINITION. The rows of the object dictionary: sub-indices, type, size, access mode, rights and range of every entry, as the
entry tables of the chapters give them, and the lookup of an entry by index and sub-index (R610 to R616).
-/
namespace Sys2Proof.Machine

/-- A row of an entry table: first and last sub-index, type code and bytes (Table MG-2), access mode (0 RO, 1 RW, 2 WO, 3 RWS,
4 CONST), the principals that may read and write (bit 0 HA, 1 HP, 2 BM, 3 FW), and the range of a written value. -/
structure DictRow where
  sub : Nat
  last : Nat
  ty : Nat
  size : Nat
  mode : Nat
  readers : Nat
  writers : Nat
  lo : Nat
  hi : Nat
deriving DecidableEq, Repr

/-- Entries at 0x1000 (Table MG-9): VENDOR_NAME, PRODUCT_NAME, ORDERING_CODE, PACKAGE_SERIAL, STEPPING, GENERATION. -/
def dict1000 : List DictRow :=
  [⟨1, 1, 11, 16, 4, 15, 0, 0, 0⟩, ⟨2, 2, 11, 16, 4, 15, 0, 0, 0⟩, ⟨3, 3, 11, 16, 4, 15, 0, 0, 0⟩,
   ⟨4, 4, 11, 16, 4, 15, 0, 0, 0⟩, ⟨5, 5, 11, 4, 4, 15, 0, 0, 0⟩, ⟨6, 6, 2, 1, 4, 15, 0, 0, 0⟩]

/-- Entries at 0x1010 (Table MG-10): DIE_KIND, LOT, WAFER, DIE_X, DIE_Y. -/
def dict1010 : List DictRow :=
  [⟨1, 1, 2, 1, 4, 15, 0, 0, 0⟩, ⟨2, 2, 11, 12, 4, 15, 0, 0, 0⟩, ⟨3, 3, 2, 1, 4, 15, 0, 0, 0⟩, ⟨4, 4, 7, 2, 4, 15, 0, 0, 0⟩,
   ⟨5, 5, 7, 2, 4, 15, 0, 0, 0⟩]

/-- Entries at 0x1020 (Table MG-11): STACK_VENDOR, STACK_SERIAL, STACK_GIB, STACK_HEIGHT. -/
def dict1020 : List DictRow :=
  [⟨1, 1, 3, 2, 0, 15, 0, 0, 0⟩, ⟨2, 2, 12, 16, 0, 15, 0, 0, 0⟩, ⟨3, 3, 3, 2, 4, 15, 0, 0, 0⟩, ⟨4, 4, 2, 1, 4, 15, 0, 0, 0⟩]

/-- Entries at 0x1030 (Table PP-12, Table PP-7, Table TL-7): ENABLED_GROUPS, ENABLED_TILES, DISABLED_GROUPS, GRADE,
FACTORY_GRADE, FACTORY_BAD_GROUPS, FIELD_FUSED_GROUPS, PENDING_FUSE_GROUPS, SPARE_GOOD_GROUPS, FUSE_REQUEST, CLEARING_GROUPS.
-/
def dict1030 : List DictRow :=
  [⟨1, 1, 12, 11, 0, 15, 0, 0, 0⟩, ⟨2, 2, 3, 2, 0, 15, 0, 0, 0⟩, ⟨3, 3, 2, 1, 0, 15, 0, 0, 0⟩, ⟨4, 4, 2, 1, 0, 15, 0, 0, 0⟩,
   ⟨5, 5, 2, 1, 4, 15, 0, 0, 0⟩, ⟨6, 6, 12, 11, 0, 15, 0, 0, 0⟩, ⟨7, 7, 12, 11, 0, 15, 0, 0, 0⟩,
   ⟨8, 8, 12, 11, 0, 15, 0, 0, 0⟩, ⟨9, 9, 12, 11, 0, 15, 0, 0, 0⟩, ⟨10, 10, 2, 1, 2, 0, 1, 0, 83⟩,
   ⟨11, 11, 12, 11, 0, 15, 0, 0, 0⟩]

/-- Entries at 0x1040 (Table HI-13): FW_VERSION, FW_KEY_SLOT, START_STAGE, START_FAIL_CAUSE, READY_BC, FW_MIN_VERSION,
LINK_WAIT. -/
def dict1040 : List DictRow :=
  [⟨1, 1, 4, 4, 0, 15, 0, 0, 0⟩, ⟨2, 2, 2, 1, 0, 15, 0, 0, 0⟩, ⟨3, 3, 2, 1, 0, 15, 0, 0, 0⟩, ⟨4, 4, 2, 1, 0, 15, 0, 0, 0⟩,
   ⟨5, 5, 13, 8, 0, 15, 0, 0, 0⟩, ⟨6, 6, 4, 4, 0, 15, 0, 0, 0⟩, ⟨7, 7, 3, 2, 4, 15, 0, 0, 0⟩]

/-- Entries at 0x2000 (Table ER-11, Table MG-12): DEVICE_ID, SLED_SLOT, ID_CONFLICT, FAILURE_DOMAIN. -/
def dict2000 : List DictRow :=
  [⟨1, 1, 4, 4, 3, 15, 4, 0, 1048575⟩, ⟨2, 2, 2, 1, 0, 15, 0, 0, 0⟩, ⟨3, 3, 1, 1, 0, 15, 0, 0, 0⟩,
   ⟨4, 4, 3, 2, 1, 15, 4, 0, 65535⟩]

/-- Entries at 0x2010 (Table BT-2): BC, NEXT_EPOCH, SYNC_STATE, SYNC_MISMATCHES, SYNC_MISSED, RESYNC. -/
def dict2010 : List DictRow :=
  [⟨1, 1, 13, 8, 0, 15, 0, 0, 0⟩, ⟨2, 2, 5, 8, 1, 15, 12, 0, 17592186044415⟩, ⟨3, 3, 2, 1, 0, 15, 0, 0, 0⟩,
   ⟨4, 4, 4, 4, 0, 15, 0, 0, 0⟩, ⟨5, 5, 4, 4, 0, 15, 0, 0, 0⟩, ⟨6, 6, 1, 1, 2, 0, 4, 1, 1⟩]

/-- Entries at 0x2020 (Table CK-6): JITTER_LIMIT, DUTY_MIN, DUTY_MAX, TRIP_THRESHOLD, DEFICIT_LIMIT, STRETCH_WINDOW,
STRETCH_MAX. -/
def dict2020 : List DictRow :=
  [⟨1, 1, 3, 2, 1, 15, 9, 10, 100⟩, ⟨2, 2, 3, 2, 1, 15, 9, 400, 490⟩, ⟨3, 3, 3, 2, 1, 15, 9, 510, 600⟩,
   ⟨4, 4, 4, 4, 1, 15, 9, 16, 1048576⟩, ⟨5, 5, 4, 4, 4, 15, 0, 0, 0⟩, ⟨6, 6, 2, 1, 4, 15, 0, 0, 0⟩,
   ⟨7, 7, 2, 1, 4, 15, 0, 0, 0⟩]

/-- Entries at 0x2030 (Table FB-7): TAG_COOLDOWN, MAX_PACKET_BYTES, MAX_PLANNED_SLOTS, HEADROOM_SLOTS, PLANNED_QUEUE_FLITS,
PARK_BUFFER_BYTES. -/
def dict2030 : List DictRow :=
  [⟨1, 1, 4, 4, 1, 15, 13, 65536, 268435456⟩, ⟨2, 2, 3, 2, 4, 15, 0, 0, 0⟩, ⟨3, 3, 2, 1, 4, 15, 0, 0, 0⟩,
   ⟨4, 4, 2, 1, 4, 15, 0, 0, 0⟩, ⟨5, 5, 3, 2, 4, 15, 0, 0, 0⟩, ⟨6, 6, 4, 4, 4, 15, 0, 0, 0⟩]

/-- Entries at 0x2040 (Table SY-10): BOW_WINDOW, NOTICE_RETRY, INBOX_NOTICES, FW_INBOX_NOTICES, PATH_TABLE_ENTRIES,
HOLD_TABLE_ENTRIES. -/
def dict2040 : List DictRow :=
  [⟨1, 1, 4, 4, 1, 15, 13, 1024, 16777216⟩, ⟨2, 2, 3, 2, 1, 15, 9, 16, 65535⟩, ⟨3, 3, 2, 1, 4, 15, 0, 0, 0⟩,
   ⟨4, 4, 3, 2, 4, 15, 0, 0, 0⟩, ⟨5, 5, 3, 2, 4, 15, 0, 0, 0⟩, ⟨6, 6, 3, 2, 4, 15, 0, 0, 0⟩]

/-- Entries at 0x2050 (Table SV-17): TSU_SEQ_ENTRIES, TSU_REQUEST_ENTRIES, TSU_BATT_ENTRIES, GRAMMAR_STORE_BYTES,
GRAMMAR_SLOTS, MAX_VOCAB, MAX_STACK, MAX_DRAFTS, KV_PAGE_POSITIONS, TOPK_MAX. -/
def dict2050 : List DictRow :=
  [⟨1, 1, 3, 2, 4, 15, 0, 0, 0⟩, ⟨2, 2, 3, 2, 4, 15, 0, 0, 0⟩, ⟨3, 3, 3, 2, 4, 15, 0, 0, 0⟩, ⟨4, 4, 4, 4, 4, 15, 0, 0, 0⟩,
   ⟨5, 5, 2, 1, 4, 15, 0, 0, 0⟩, ⟨6, 6, 4, 4, 4, 15, 0, 0, 0⟩, ⟨7, 7, 2, 1, 4, 15, 0, 0, 0⟩, ⟨8, 8, 2, 1, 4, 15, 0, 0, 0⟩,
   ⟨9, 9, 2, 1, 4, 15, 0, 0, 0⟩, ⟨10, 10, 3, 2, 4, 15, 0, 0, 0⟩]

/-- Entries at 0x2060 (Table WT-9): WEIGHT_REGIONS_MAX, MANIFEST_CHUNKS_MAX, OPEN_CHUNKS_MAX, WARM_LEAD. -/
def dict2060 : List DictRow :=
  [⟨1, 1, 2, 1, 4, 15, 0, 0, 0⟩, ⟨2, 2, 4, 4, 4, 15, 0, 0, 0⟩, ⟨3, 3, 3, 2, 4, 15, 0, 0, 0⟩,
   ⟨4, 4, 4, 4, 1, 15, 9, 1024, 16777216⟩]

/-- Entries at 0x2070 (Table IN-11): CORRECTED_LOG_THRESHOLD, PAGE_RETRY_LIMIT, SELFTEST_BUDGET_MS, PAGE_CODE_VERSION. -/
def dict2070 : List DictRow :=
  [⟨1, 1, 4, 4, 1, 15, 9, 1, 1048576⟩, ⟨2, 2, 2, 1, 4, 15, 0, 0, 0⟩, ⟨3, 3, 3, 2, 4, 15, 0, 0, 0⟩, ⟨4, 4, 3, 2, 4, 15, 0, 0, 0⟩]

/-- Entries at 0x2080 (Table MG-16): WATCH_THRESHOLD, EXPEL_THRESHOLD, HYSTERESIS, EXPEL_MIN_INCIDENTS, EXPEL_WINDOW,
SCORE_PERIOD, INCIDENT_BEATS. -/
def dict2080 : List DictRow :=
  [⟨1, 1, 3, 2, 1, 15, 5, 200, 1000⟩, ⟨2, 2, 3, 2, 1, 15, 5, 0, 900⟩, ⟨3, 3, 3, 2, 1, 15, 5, 10, 300⟩,
   ⟨4, 4, 2, 1, 1, 15, 5, 2, 16⟩, ⟨5, 5, 3, 2, 1, 15, 5, 16, 65535⟩, ⟨6, 6, 4, 4, 4, 15, 0, 0, 0⟩, ⟨7, 7, 4, 4, 4, 15, 0, 0, 0⟩]

/-- Entries at 0x2090 (Table MG-12): MGMT_ENABLE, MAC_ADDRESS, LINK_LOCAL_ADDR, PLCA_NODE_ID, OAP_PORT, NOTIFY_TARGET. -/
def dict2090 : List DictRow :=
  [⟨1, 1, 1, 1, 1, 15, 1, 0, 1⟩, ⟨2, 2, 12, 6, 4, 15, 0, 0, 0⟩, ⟨3, 3, 12, 16, 4, 15, 0, 0, 0⟩, ⟨4, 4, 2, 1, 0, 15, 0, 0, 0⟩,
   ⟨5, 5, 3, 2, 4, 15, 0, 0, 0⟩, ⟨6, 6, 12, 16, 1, 15, 5, 0, 340282366920938463463374607431768211455⟩]

/-- Entries at 0x3010 (Table BT-6): PBC, OFFSET, OP_CURRENT, HOLD_HORIZON, HOLD_LIMIT, TIME_STATE, SLIP_COUNT, SLIP_BEATS,
HOLD_COUNT, HOLD_BEATS, LAST_HOLD_CAUSE, LAST_HOLD_BC, LAST_HOLD_ORIGIN, LONGEST_STILL, COUNTERS_CLEAR. -/
def dict3010 : List DictRow :=
  [⟨1, 1, 13, 8, 0, 15, 0, 0, 0⟩, ⟨2, 2, 5, 8, 0, 15, 0, 0, 0⟩, ⟨3, 3, 2, 1, 0, 15, 0, 0, 0⟩, ⟨4, 4, 4, 4, 0, 15, 0, 0, 0⟩,
   ⟨5, 5, 4, 4, 0, 15, 0, 0, 0⟩, ⟨6, 6, 2, 1, 0, 15, 0, 0, 0⟩, ⟨7, 7, 4, 4, 0, 15, 0, 0, 0⟩, ⟨8, 8, 5, 8, 0, 15, 0, 0, 0⟩,
   ⟨9, 9, 4, 4, 0, 15, 0, 0, 0⟩, ⟨10, 10, 5, 8, 0, 15, 0, 0, 0⟩, ⟨11, 11, 2, 1, 0, 15, 0, 0, 0⟩,
   ⟨12, 12, 13, 8, 0, 15, 0, 0, 0⟩, ⟨13, 13, 4, 4, 0, 15, 0, 0, 0⟩, ⟨14, 14, 4, 4, 0, 15, 0, 0, 0⟩,
   ⟨15, 15, 1, 1, 2, 0, 3, 1, 1⟩]

/-- Entries at 0x3020 (Table ME-11): HBM_CHANNELS, CAP_CHANNELS, HBM_CP_SLOTS, CAP_CP_SLOTS, HBM_PLAN_SLOTS, CAP_PLAN_SLOTS.
-/
def dict3020 : List DictRow :=
  [⟨1, 1, 12, 32, 3, 15, 1, 0, 115792089237316195423570985008687907853269984665640564039457584007913129639935⟩,
   ⟨2, 2, 3, 2, 3, 15, 1, 0, 65535⟩, ⟨3, 3, 2, 1, 3, 15, 8, 8, 64⟩, ⟨4, 4, 2, 1, 3, 15, 8, 8, 48⟩,
   ⟨5, 5, 3, 2, 0, 15, 0, 0, 0⟩, ⟨6, 6, 3, 2, 0, 15, 0, 0, 0⟩]

/-- Entries at 0x3030 (Table PI-13): PLAN_STATE, LOAD_STATUS, LOAD_DETAIL, PLAN_HASH, PATCH_DIGEST, PLAN_FORMAT, JOB_RANK,
STEP_INDEX, STINT_INDEX, HMIN, SUCCESSOR_STATE, SUCCESSOR_STATUS, SUCCESSOR_HASH, SWITCHES. -/
def dict3030 : List DictRow :=
  [⟨1, 1, 2, 1, 0, 15, 0, 0, 0⟩, ⟨2, 2, 2, 1, 0, 15, 0, 0, 0⟩, ⟨3, 3, 4, 4, 0, 15, 0, 0, 0⟩, ⟨4, 4, 12, 48, 0, 15, 0, 0, 0⟩,
   ⟨5, 5, 12, 48, 0, 15, 0, 0, 0⟩, ⟨6, 6, 4, 4, 0, 15, 0, 0, 0⟩, ⟨7, 7, 4, 4, 0, 15, 0, 0, 0⟩, ⟨8, 8, 4, 4, 0, 15, 0, 0, 0⟩,
   ⟨9, 9, 4, 4, 0, 15, 0, 0, 0⟩, ⟨10, 10, 4, 4, 0, 15, 0, 0, 0⟩, ⟨11, 11, 2, 1, 0, 15, 0, 0, 0⟩,
   ⟨12, 12, 2, 1, 0, 15, 0, 0, 0⟩, ⟨13, 13, 12, 48, 0, 15, 0, 0, 0⟩, ⟨14, 14, 4, 4, 0, 15, 0, 0, 0⟩]

/-- Entries at 0x3040 (Table FB-8): FENCE_TAG, PLANNED_LINKS, ROUTE_STATE, ROUTE_RANKS, OPEN_LINKS. -/
def dict3040 : List DictRow :=
  [⟨1, 1, 3, 2, 3, 15, 5, 0, 65534⟩, ⟨2, 2, 12, 8, 3, 15, 1, 0, 18446744073709551615⟩, ⟨3, 3, 2, 1, 0, 15, 0, 0, 0⟩,
   ⟨4, 4, 4, 4, 0, 15, 0, 0, 0⟩, ⟨5, 5, 12, 8, 0, 15, 0, 0, 0⟩]

/-- Entries at 0x3050 (Table SY-11): TREE_STATE, TREE_PARENT_LINK, TREE_CHILD_LINKS, BOW_STATE, BOW_SERIAL, BOW_FAIL_DEV,
BOW_FAIL_CAUSE, BOW_FAIL_LINKS, BOW_START_BC, SWITCH_PARITY, BARRIER_SELECT, BARRIER_ROUND, BARRIER_COUNTS. -/
def dict3050 : List DictRow :=
  [⟨1, 1, 2, 1, 0, 15, 0, 0, 0⟩, ⟨2, 2, 2, 1, 0, 15, 0, 0, 0⟩, ⟨3, 3, 12, 8, 0, 15, 0, 0, 0⟩, ⟨4, 4, 2, 1, 0, 15, 0, 0, 0⟩,
   ⟨5, 5, 2, 1, 0, 15, 0, 0, 0⟩, ⟨6, 6, 4, 4, 0, 15, 0, 0, 0⟩, ⟨7, 7, 2, 1, 0, 15, 0, 0, 0⟩, ⟨8, 8, 12, 8, 0, 15, 0, 0, 0⟩,
   ⟨9, 9, 13, 8, 0, 15, 0, 0, 0⟩, ⟨10, 10, 1, 1, 0, 15, 0, 0, 0⟩, ⟨11, 11, 2, 1, 1, 15, 15, 0, 255⟩,
   ⟨12, 12, 2, 1, 0, 15, 0, 0, 0⟩, ⟨13, 13, 4, 4, 0, 15, 0, 0, 0⟩]

/-- Entries at 0x3060 (Table SV-18): SERVE_STATE, MODEL_TAG, SEQ_LIVE, REQUESTS_QUEUED, BATTS, PAGES_FREE, BATT_BLOCKS_FREE,
GRAMMAR_BYTES_FREE, LAST_PASS_BEATS, LAST_STATUS. -/
def dict3060 : List DictRow :=
  [⟨1, 1, 2, 1, 0, 15, 0, 0, 0⟩, ⟨2, 2, 12, 8, 0, 15, 0, 0, 0⟩, ⟨3, 3, 3, 2, 0, 15, 0, 0, 0⟩, ⟨4, 4, 3, 2, 0, 15, 0, 0, 0⟩,
   ⟨5, 5, 3, 2, 0, 15, 0, 0, 0⟩, ⟨6, 6, 4, 4, 0, 15, 0, 0, 0⟩, ⟨7, 7, 4, 4, 0, 15, 0, 0, 0⟩, ⟨8, 8, 4, 4, 0, 15, 0, 0, 0⟩,
   ⟨9, 9, 4, 4, 0, 15, 0, 0, 0⟩, ⟨10, 10, 2, 1, 0, 15, 0, 0, 0⟩]

/-- Entries at 0x3070 (Table WT-10): WEIGHT_STATE_0, WEIGHT_STATE_1, MANIFEST_DIGEST_0, MANIFEST_DIGEST_1, VERSION_0,
VERSION_1, CHUNKS_MATCHED_0, CHUNKS_MATCHED_1, ARM_PBC, LAST_WSTATUS. -/
def dict3070 : List DictRow :=
  [⟨1, 1, 2, 1, 0, 15, 0, 0, 0⟩, ⟨2, 2, 2, 1, 0, 15, 0, 0, 0⟩, ⟨3, 3, 12, 48, 0, 15, 0, 0, 0⟩, ⟨4, 4, 12, 48, 0, 15, 0, 0, 0⟩,
   ⟨5, 5, 5, 8, 0, 15, 0, 0, 0⟩, ⟨6, 6, 5, 8, 0, 15, 0, 0, 0⟩, ⟨7, 7, 4, 4, 0, 15, 0, 0, 0⟩, ⟨8, 8, 4, 4, 0, 15, 0, 0, 0⟩,
   ⟨9, 9, 5, 8, 0, 15, 0, 0, 0⟩, ⟨10, 10, 2, 1, 0, 15, 0, 0, 0⟩]

/-- Entries at 0x3080 (Table WT-11): PUB_KEY_0 to _15. -/
def dict3080 : List DictRow := [⟨1, 16, 12, 96, 1, 15, 1, 0, 1552518092300708935148979488462502555256886017116696611139052038026050952686376886330878408828646477950487730697131073206171580044114814391444287275041181139204454976020849905550265285631598444825262999193716468750892846853816057855⟩]

/-- Entries at 0x3090 (Table DA-7): STEP_BASE, STEP_COUNTER, RECORD_TILE, RECORD_OFFSET, RECORD_LAYERS, RECORDS_POSTED,
LAST_RECORD_STEP. -/
def dict3090 : List DictRow :=
  [⟨1, 1, 5, 8, 3, 15, 3, 0, 18446744073709551615⟩, ⟨2, 2, 5, 8, 0, 15, 0, 0, 0⟩, ⟨3, 3, 3, 2, 3, 15, 3, 0, 65535⟩,
   ⟨4, 4, 4, 4, 3, 15, 3, 0, 2097024⟩, ⟨5, 5, 3, 2, 3, 15, 3, 0, 1024⟩, ⟨6, 6, 5, 8, 0, 15, 0, 0, 0⟩,
   ⟨7, 7, 5, 8, 0, 15, 0, 0, 0⟩]

/-- Entries at 0x30A0 (Table DA-7): SEED_0 to _15. -/
def dict30A0 : List DictRow := [⟨1, 16, 5, 8, 3, 11, 3, 0, 18446744073709551615⟩]

/-- Entries at 0x30B0 (Table PP-8): PART_GROUPS, BOOST_ENABLE, BOOST_PRIORITY, GRANT_STATE, GRANT_COST, GRANTS, WITHDRAWALS,
NAPPED_TILES, WAKES. -/
def dict30B0 : List DictRow :=
  [⟨1, 1, 12, 11, 3, 15, 1, 0, 19342813113834066795298815⟩, ⟨2, 2, 1, 1, 1, 15, 1, 0, 1⟩, ⟨3, 3, 2, 1, 1, 15, 1, 0, 15⟩,
   ⟨4, 4, 2, 1, 0, 15, 0, 0, 0⟩, ⟨5, 5, 3, 2, 0, 15, 0, 0, 0⟩, ⟨6, 6, 4, 4, 0, 15, 0, 0, 0⟩, ⟨7, 7, 4, 4, 0, 15, 0, 0, 0⟩,
   ⟨8, 8, 3, 2, 0, 15, 0, 0, 0⟩, ⟨9, 9, 5, 8, 0, 15, 0, 0, 0⟩]

/-- Entries at 0x4000 (Table LK-11): LINK_COUNT, DLP_ALLOW, NOTICE_COPIES, REPLAY_BUFFER_FLITS, VC_BUFFER_FLITS, ORT_ENTRIES,
RESP_TIMEOUT. -/
def dict4000 : List DictRow :=
  [⟨1, 1, 2, 1, 4, 15, 0, 0, 0⟩, ⟨2, 2, 2, 1, 1, 15, 9, 0, 3⟩, ⟨3, 3, 2, 1, 4, 15, 0, 0, 0⟩, ⟨4, 4, 3, 2, 4, 15, 0, 0, 0⟩,
   ⟨5, 5, 2, 1, 4, 15, 0, 0, 0⟩, ⟨6, 6, 3, 2, 4, 15, 0, 0, 0⟩, ⟨7, 7, 4, 4, 1, 15, 9, 4096, 16777216⟩]

/-- Entries at 0x4100 (Table LK-12): LINK_ENABLE, LINK_STATE, DLP_VERSION, PEER_DEVID, PEER_LINK, PEER_GENERATION, LATENCY,
ROUND_TRIP, LAT_VALID, LONG, REPLAY_TIMEOUT, REPLAY_LIMIT, REMEASURE, DOWN_CAUSE, LINK_GENERATION, LAST_DOWN_BC. -/
def dict4100 : List DictRow :=
  [⟨1, 1, 1, 1, 3, 15, 13, 0, 1⟩, ⟨2, 2, 2, 1, 0, 15, 0, 0, 0⟩, ⟨3, 3, 3, 2, 0, 15, 0, 0, 0⟩, ⟨4, 4, 4, 4, 0, 15, 0, 0, 0⟩,
   ⟨5, 5, 2, 1, 0, 15, 0, 0, 0⟩, ⟨6, 6, 2, 1, 0, 15, 0, 0, 0⟩, ⟨7, 7, 4, 4, 0, 15, 0, 0, 0⟩, ⟨8, 8, 4, 4, 0, 15, 0, 0, 0⟩,
   ⟨9, 9, 1, 1, 0, 15, 0, 0, 0⟩, ⟨10, 10, 1, 1, 0, 15, 0, 0, 0⟩, ⟨11, 11, 3, 2, 3, 15, 9, 0, 4096⟩,
   ⟨12, 12, 2, 1, 3, 15, 9, 2, 32⟩, ⟨13, 13, 1, 1, 2, 0, 9, 1, 1⟩, ⟨14, 14, 2, 1, 0, 15, 0, 0, 0⟩,
   ⟨15, 15, 4, 4, 0, 15, 0, 0, 0⟩, ⟨16, 16, 13, 8, 0, 15, 0, 0, 0⟩]

/-- Entries at 0x4200 (Table LK-13): CW_CORRECTED, SYMBOLS_CORRECTED, CW_UNCORRECTABLE, CRC_ERRORS, NAK_REPLAYS,
TIMEOUT_REPLAYS, REPLAYED_FLITS, DUPLICATES, STALL_FLITS, NOTICES_SENT, DROPPED_PACKETS, SYNTH_COMPLETIONS, ORPHAN_RESPONSES,
LINK_DOWNS, PROBES_SENT, MAX_REPLAYS, COUNTERS_CLEAR. -/
def dict4200 : List DictRow :=
  [⟨1, 1, 5, 8, 0, 15, 0, 0, 0⟩, ⟨2, 2, 5, 8, 0, 15, 0, 0, 0⟩, ⟨3, 3, 5, 8, 0, 15, 0, 0, 0⟩, ⟨4, 4, 5, 8, 0, 15, 0, 0, 0⟩,
   ⟨5, 5, 5, 8, 0, 15, 0, 0, 0⟩, ⟨6, 6, 5, 8, 0, 15, 0, 0, 0⟩, ⟨7, 7, 5, 8, 0, 15, 0, 0, 0⟩, ⟨8, 8, 5, 8, 0, 15, 0, 0, 0⟩,
   ⟨9, 9, 5, 8, 0, 15, 0, 0, 0⟩, ⟨10, 10, 5, 8, 0, 15, 0, 0, 0⟩, ⟨11, 11, 5, 8, 0, 15, 0, 0, 0⟩,
   ⟨12, 12, 5, 8, 0, 15, 0, 0, 0⟩, ⟨13, 13, 5, 8, 0, 15, 0, 0, 0⟩, ⟨14, 14, 4, 4, 0, 15, 0, 0, 0⟩,
   ⟨15, 15, 4, 4, 0, 15, 0, 0, 0⟩, ⟨16, 16, 2, 1, 0, 15, 0, 0, 0⟩, ⟨17, 17, 1, 1, 2, 0, 9, 1, 1⟩]

/-- Entries at 0x4300 (Table FB-9): OWNER, RESERVED_SLOTS, ANCHOR, PLANNED_FLITS, BE_FLITS, FENCE_DROPS, QUEUE_PEAK,
COUNTERS_CLEAR. -/
def dict4300 : List DictRow :=
  [⟨1, 1, 2, 1, 0, 15, 0, 0, 0⟩, ⟨2, 2, 2, 1, 0, 15, 0, 0, 0⟩, ⟨3, 3, 2, 1, 0, 15, 0, 0, 0⟩, ⟨4, 4, 5, 8, 0, 15, 0, 0, 0⟩,
   ⟨5, 5, 5, 8, 0, 15, 0, 0, 0⟩, ⟨6, 6, 5, 8, 0, 15, 0, 0, 0⟩, ⟨7, 7, 3, 2, 0, 15, 0, 0, 0⟩, ⟨8, 8, 1, 1, 2, 0, 9, 1, 1⟩]

/-- Entries at 0x5000 (Table ME-10, Table PP-12): HBM_BYTES, HBM_CHANNEL_BYTES, HBM_RESERVED_BYTES, HBM_FRAME_SLOTS,
HBM_REFRESH_SLOTS, CLEARING_HBM, CLEARING_CAP. -/
def dict5000 : List DictRow :=
  [⟨1, 1, 5, 8, 4, 15, 0, 0, 0⟩, ⟨2, 2, 5, 8, 4, 15, 0, 0, 0⟩, ⟨3, 3, 4, 4, 4, 15, 0, 0, 0⟩, ⟨4, 4, 3, 2, 4, 15, 0, 0, 0⟩,
   ⟨5, 5, 3, 2, 4, 15, 0, 0, 0⟩, ⟨6, 6, 12, 32, 0, 15, 0, 0, 0⟩, ⟨7, 7, 3, 2, 0, 15, 0, 0, 0⟩]

/-- Entries at 0x5010 (Table ME-10): CAP_CHANNEL_GIB, CAP_BYTES, CAP_RATE_MTS, CAP_FRAME_SLOTS, CAP_REFRESH_SLOTS. -/
def dict5010 : List DictRow :=
  [⟨1, 1, 3, 2, 0, 15, 0, 0, 0⟩, ⟨2, 2, 5, 8, 0, 15, 0, 0, 0⟩, ⟨3, 3, 3, 2, 4, 15, 0, 0, 0⟩, ⟨4, 4, 3, 2, 4, 15, 0, 0, 0⟩,
   ⟨5, 5, 3, 2, 4, 15, 0, 0, 0⟩]

/-- Entries at 0x5100 (Table IN-9): CORRECTED_WORDS, CORRECTED_PAGES, UNCORRECTABLE_PAGES, LAST_BAD_ADDR, EPOCH_CORRECTED,
SCRUB_BUSY, COUNTERS_CLEAR. -/
def dict5100 : List DictRow :=
  [⟨1, 1, 5, 8, 0, 15, 0, 0, 0⟩, ⟨2, 2, 5, 8, 0, 15, 0, 0, 0⟩, ⟨3, 3, 4, 4, 0, 15, 0, 0, 0⟩, ⟨4, 4, 5, 8, 0, 15, 0, 0, 0⟩,
   ⟨5, 5, 4, 4, 0, 15, 0, 0, 0⟩, ⟨6, 6, 1, 1, 0, 15, 0, 0, 0⟩, ⟨7, 7, 1, 1, 2, 0, 9, 1, 1⟩]

/-- Entries at 0x6000 (Table MG-15): HEALTH_SCORE, HEALTH_ADVICE, RAW_SCORE, INCIDENTS_IN_WINDOW, LAST_INCIDENT_BC,
LAST_INCIDENT_CAUSES, SPARE_PENALTY, LAST_EVAL_BC. -/
def dict6000 : List DictRow :=
  [⟨1, 1, 3, 2, 0, 15, 0, 0, 0⟩, ⟨2, 2, 2, 1, 0, 15, 0, 0, 0⟩, ⟨3, 3, 3, 2, 0, 15, 0, 0, 0⟩, ⟨4, 4, 3, 2, 0, 15, 0, 0, 0⟩,
   ⟨5, 5, 13, 8, 0, 15, 0, 0, 0⟩, ⟨6, 6, 2, 1, 0, 15, 0, 0, 0⟩, ⟨7, 7, 3, 2, 0, 15, 0, 0, 0⟩, ⟨8, 8, 13, 8, 0, 15, 0, 0, 0⟩]

/-- Entries at 0x6001 (Table MG-15): PENALTY_CLOCK to PENALTY_FATAL, HEALTH_STATE, HEALTH_RESTORE. -/
def dict6001 : List DictRow := [⟨1, 8, 3, 2, 0, 15, 0, 0, 0⟩, ⟨9, 9, 12, 18, 0, 15, 0, 0, 0⟩, ⟨10, 10, 12, 18, 2, 0, 5, 0, 22300745198530623141535718272648361505980415⟩]

/-- Entries at 0x6002 (Table MG-17): OAP_REQUESTS, OAP_ITEM_REFUSALS, OAP_DUPLICATES, OAP_MALFORMED, OAP_DISCARDS,
ID_CONFLICTS, COUNTERS_CLEAR. -/
def dict6002 : List DictRow :=
  [⟨1, 1, 5, 8, 0, 15, 0, 0, 0⟩, ⟨2, 2, 5, 8, 0, 15, 0, 0, 0⟩, ⟨3, 3, 4, 4, 0, 15, 0, 0, 0⟩, ⟨4, 4, 4, 4, 0, 15, 0, 0, 0⟩,
   ⟨5, 5, 4, 4, 0, 15, 0, 0, 0⟩, ⟨6, 6, 4, 4, 0, 15, 0, 0, 0⟩, ⟨7, 7, 1, 1, 2, 0, 9, 1, 1⟩]

/-- Entries at 0x6010 (Table ER-8): LOG_DEPTH, LOG_PENDING, LOG_LAST_SEQ, LOG_OVERFLOWS, HANDLING_CLASS, NESTED_ERRORS,
ESCALATIONS, CORRECTED_LOGGED, CONTAINED_ERRORS, JOB_FATAL_ERRORS, DEVICE_FATAL_ERRORS, COUNTERS_CLEAR. -/
def dict6010 : List DictRow :=
  [⟨1, 1, 2, 1, 4, 15, 0, 0, 0⟩, ⟨2, 2, 2, 1, 0, 15, 0, 0, 0⟩, ⟨3, 3, 4, 4, 0, 15, 0, 0, 0⟩, ⟨4, 4, 4, 4, 0, 15, 0, 0, 0⟩,
   ⟨5, 5, 2, 1, 0, 15, 0, 0, 0⟩, ⟨6, 6, 4, 4, 0, 15, 0, 0, 0⟩, ⟨7, 7, 4, 4, 0, 15, 0, 0, 0⟩, ⟨8, 8, 5, 8, 0, 15, 0, 0, 0⟩,
   ⟨9, 9, 4, 4, 0, 15, 0, 0, 0⟩, ⟨10, 10, 4, 4, 0, 15, 0, 0, 0⟩, ⟨11, 11, 4, 4, 0, 15, 0, 0, 0⟩, ⟨12, 12, 1, 1, 2, 0, 9, 1, 1⟩]

/-- Entries at 0x6011 (Table ER-9): LOG_ENTRY_0 to _63. -/
def dict6011 : List DictRow := [⟨1, 64, 12, 64, 0, 13, 0, 0, 0⟩]

/-- Entries at 0x6012 (Table ER-10): DUMP_STATE, DUMP_BYTES, DUMP_TRIGGER_SEQ, DUMP_BC, DUMP_DIGEST, DUMP_REGION_BYTES. -/
def dict6012 : List DictRow :=
  [⟨1, 1, 2, 1, 0, 15, 0, 0, 0⟩, ⟨2, 2, 4, 4, 0, 15, 0, 0, 0⟩, ⟨3, 3, 4, 4, 0, 15, 0, 0, 0⟩, ⟨4, 4, 13, 8, 0, 15, 0, 0, 0⟩,
   ⟨5, 5, 12, 48, 0, 15, 0, 0, 0⟩, ⟨6, 6, 4, 4, 4, 15, 0, 0, 0⟩]

/-- Entries at 0x6013 (Table ER-10): LG_VALID, LG_BC, LG_PART_0 to _31, LG_CLEAR. -/
def dict6013 : List DictRow :=
  [⟨1, 1, 1, 1, 0, 15, 0, 0, 0⟩, ⟨2, 2, 13, 8, 0, 15, 0, 0, 0⟩, ⟨3, 34, 12, 128, 0, 13, 0, 0, 0⟩, ⟨35, 35, 1, 1, 2, 0, 1, 1, 1⟩]

/-- Entries at 0x6020 (Table CK-7): STRETCHES, GAPS, READ_WAITS, WRITE_WAITS, JITTER_TRIPS, DUTY_TRIPS, ESCALATIONS,
LAST_ESC_TILE, LAST_ESC_CAUSE, LAST_ESC_BC. -/
def dict6020 : List DictRow :=
  [⟨1, 1, 5, 8, 0, 15, 0, 0, 0⟩, ⟨2, 2, 5, 8, 0, 15, 0, 0, 0⟩, ⟨3, 3, 5, 8, 0, 15, 0, 0, 0⟩, ⟨4, 4, 5, 8, 0, 15, 0, 0, 0⟩,
   ⟨5, 5, 5, 8, 0, 15, 0, 0, 0⟩, ⟨6, 6, 5, 8, 0, 15, 0, 0, 0⟩, ⟨7, 7, 4, 4, 0, 15, 0, 0, 0⟩, ⟨8, 8, 3, 2, 0, 15, 0, 0, 0⟩,
   ⟨9, 9, 2, 1, 0, 15, 0, 0, 0⟩, ⟨10, 10, 13, 8, 0, 15, 0, 0, 0⟩]

/-- Entries at 0x6030 (Table TL-8): QUEUE_FULL_STALLS, LATE_ACTION_PERIODS, BANK_CONFLICTS, CONFLICT_PERIODS, ORDER_FAULTS,
ENGINE_OVERLAPS, WRITE_COLLISIONS, LAST_FAULT_TILE, LAST_FAULT_BC. -/
def dict6030 : List DictRow :=
  [⟨1, 1, 5, 8, 0, 15, 0, 0, 0⟩, ⟨2, 2, 5, 8, 0, 15, 0, 0, 0⟩, ⟨3, 3, 5, 8, 0, 15, 0, 0, 0⟩, ⟨4, 4, 5, 8, 0, 15, 0, 0, 0⟩,
   ⟨5, 5, 4, 4, 0, 15, 0, 0, 0⟩, ⟨6, 6, 4, 4, 0, 15, 0, 0, 0⟩, ⟨7, 7, 4, 4, 0, 15, 0, 0, 0⟩, ⟨8, 8, 3, 2, 0, 15, 0, 0, 0⟩,
   ⟨9, 9, 13, 8, 0, 15, 0, 0, 0⟩]

/-- Entries at 0x6031 (Table CC-8): CC_FAULTS, WAIT_PERIODS, NAPS, LATE_REJOINS, COUNTERS_CLEAR. -/
def dict6031 : List DictRow :=
  [⟨1, 1, 4, 4, 0, 15, 0, 0, 0⟩, ⟨2, 2, 5, 8, 0, 15, 0, 0, 0⟩, ⟨3, 3, 5, 8, 0, 15, 0, 0, 0⟩, ⟨4, 4, 4, 4, 0, 15, 0, 0, 0⟩,
   ⟨5, 5, 1, 1, 2, 0, 9, 1, 1⟩]

/-- Entries at 0x6040 (Table NF-7): SATURATIONS, NAN_RESULTS, NAN_BLOCKS, INT_NAN_ZEROS, FORMAT_FAULTS, COUNTERS_CLEAR. -/
def dict6040 : List DictRow :=
  [⟨1, 1, 5, 8, 0, 15, 0, 0, 0⟩, ⟨2, 2, 5, 8, 0, 15, 0, 0, 0⟩, ⟨3, 3, 5, 8, 0, 15, 0, 0, 0⟩, ⟨4, 4, 5, 8, 0, 15, 0, 0, 0⟩,
   ⟨5, 5, 4, 4, 0, 15, 0, 0, 0⟩, ⟨6, 6, 1, 1, 2, 0, 9, 1, 1⟩]

/-- Entries at 0x6041 (Table XA-10): WINDOW_EXCEPTIONS, ACC_OVERFLOWS, EXACT_DOT_PRODUCTS, FAST_DOT_PRODUCTS, COUNTERS_CLEAR.
-/
def dict6041 : List DictRow :=
  [⟨1, 1, 5, 8, 0, 15, 0, 0, 0⟩, ⟨2, 2, 5, 8, 0, 15, 0, 0, 0⟩, ⟨3, 3, 5, 8, 0, 15, 0, 0, 0⟩, ⟨4, 4, 5, 8, 0, 15, 0, 0, 0⟩,
   ⟨5, 5, 1, 1, 2, 0, 9, 1, 1⟩]

/-- Entries at 0x6042 (Table TO-13): DESCRIPTOR_FAULTS, FEED_FAULTS, INDEX_RANGE_EVENTS, DIGEST_REWRITES, COUNTERS_CLEAR. -/
def dict6042 : List DictRow :=
  [⟨1, 1, 4, 4, 0, 15, 0, 0, 0⟩, ⟨2, 2, 4, 4, 0, 15, 0, 0, 0⟩, ⟨3, 3, 5, 8, 0, 15, 0, 0, 0⟩, ⟨4, 4, 5, 8, 0, 15, 0, 0, 0⟩,
   ⟨5, 5, 1, 1, 2, 0, 9, 1, 1⟩]

/-- Entries at 0x6043 (Table FR-9): FOREST_WALKS, DEPTH_OVERRUNS, NODE_RANGE_EVENTS, FEATURE_RANGE_EVENTS, LAYOUT_EVENTS,
SAMPLES, COUNTERS_CLEAR. -/
def dict6043 : List DictRow :=
  [⟨1, 1, 5, 8, 0, 15, 0, 0, 0⟩, ⟨2, 2, 5, 8, 0, 15, 0, 0, 0⟩, ⟨3, 3, 5, 8, 0, 15, 0, 0, 0⟩, ⟨4, 4, 5, 8, 0, 15, 0, 0, 0⟩,
   ⟨5, 5, 4, 4, 0, 15, 0, 0, 0⟩, ⟨6, 6, 5, 8, 0, 15, 0, 0, 0⟩, ⟨7, 7, 1, 1, 2, 0, 9, 1, 1⟩]

/-- Entries at 0x6050 (Table ME-12): MQ_REQUESTS, MQ_FULL_WAITS, BOUND_OVERRUNS, ADDRESS_FAULTS, ADDRESS_REJECTS,
CP_HELD_BEATS, LANDING_FULL_PERIODS, COUNTERS_CLEAR. -/
def dict6050 : List DictRow :=
  [⟨1, 1, 5, 8, 0, 15, 0, 0, 0⟩, ⟨2, 2, 5, 8, 0, 15, 0, 0, 0⟩, ⟨3, 3, 5, 8, 0, 15, 0, 0, 0⟩, ⟨4, 4, 4, 4, 0, 15, 0, 0, 0⟩,
   ⟨5, 5, 5, 8, 0, 15, 0, 0, 0⟩, ⟨6, 6, 5, 8, 0, 15, 0, 0, 0⟩, ⟨7, 7, 5, 8, 0, 15, 0, 0, 0⟩, ⟨8, 8, 1, 1, 2, 0, 9, 1, 1⟩]

/-- Entries at 0x6060 (Table PI-15): IMEM_REFUSALS, PLAN_REFUSALS, SEAL_WAIT_BEATS, LAST_REFUSED_TILE, COUNTERS_CLEAR. -/
def dict6060 : List DictRow :=
  [⟨1, 1, 4, 4, 0, 15, 0, 0, 0⟩, ⟨2, 2, 4, 4, 0, 15, 0, 0, 0⟩, ⟨3, 3, 5, 8, 0, 15, 0, 0, 0⟩, ⟨4, 4, 3, 2, 0, 15, 0, 0, 0⟩,
   ⟨5, 5, 1, 1, 2, 0, 9, 1, 1⟩]

/-- Entries at 0x6070 (Table LK-14): LINK_DOWNS_TOTAL, REPLAYS_TOTAL, UNCORRECTABLE_TOTAL, RESP_TIMEOUTS, ORT_FULL_WAITS,
COUNTERS_CLEAR. -/
def dict6070 : List DictRow :=
  [⟨1, 1, 4, 4, 0, 15, 0, 0, 0⟩, ⟨2, 2, 5, 8, 0, 15, 0, 0, 0⟩, ⟨3, 3, 5, 8, 0, 15, 0, 0, 0⟩, ⟨4, 4, 5, 8, 0, 15, 0, 0, 0⟩,
   ⟨5, 5, 5, 8, 0, 15, 0, 0, 0⟩, ⟨6, 6, 1, 1, 2, 0, 9, 1, 1⟩]

/-- Entries at 0x6080 (Table FB-10): FENCE_DROPS_TOTAL, BAD_KIND_DROPS, UNROUTABLE_DROPS, RANK_DROPS, STALE_DROPS,
PARK_REJECTS, MGMT_DROPS, PLANNED_ROUTE_DROPS, PLANNED_QUEUE_OVERFLOWS, COUNTERS_CLEAR, REMOTE_FAILS. -/
def dict6080 : List DictRow :=
  [⟨1, 1, 5, 8, 0, 15, 0, 0, 0⟩, ⟨2, 2, 5, 8, 0, 15, 0, 0, 0⟩, ⟨3, 3, 5, 8, 0, 15, 0, 0, 0⟩, ⟨4, 4, 5, 8, 0, 15, 0, 0, 0⟩,
   ⟨5, 5, 5, 8, 0, 15, 0, 0, 0⟩, ⟨6, 6, 5, 8, 0, 15, 0, 0, 0⟩, ⟨7, 7, 5, 8, 0, 15, 0, 0, 0⟩, ⟨8, 8, 5, 8, 0, 15, 0, 0, 0⟩,
   ⟨9, 9, 4, 4, 0, 15, 0, 0, 0⟩, ⟨10, 10, 1, 1, 2, 0, 9, 1, 1⟩, ⟨11, 11, 4, 4, 0, 15, 0, 0, 0⟩]

/-- Entries at 0x6090 (Table SY-12): BARRIER_ROUNDS, BARRIER_OVERRUNS, BARRIER_MISMATCHES, STALE_TREE_MESSAGES,
SIGNALS_DELIVERED, SIGNAL_HOLD_BEATS, REJECTED_SIGNALS, PATH_TABLE_OVERFLOWS, NOTICES_DELIVERED, NOTICE_BUSY, NOTICE_FAILS,
BOW_ABORTS, COUNTERS_CLEAR. -/
def dict6090 : List DictRow :=
  [⟨1, 1, 5, 8, 0, 15, 0, 0, 0⟩, ⟨2, 2, 4, 4, 0, 15, 0, 0, 0⟩, ⟨3, 3, 4, 4, 0, 15, 0, 0, 0⟩, ⟨4, 4, 5, 8, 0, 15, 0, 0, 0⟩,
   ⟨5, 5, 5, 8, 0, 15, 0, 0, 0⟩, ⟨6, 6, 5, 8, 0, 15, 0, 0, 0⟩, ⟨7, 7, 5, 8, 0, 15, 0, 0, 0⟩, ⟨8, 8, 4, 4, 0, 15, 0, 0, 0⟩,
   ⟨9, 9, 5, 8, 0, 15, 0, 0, 0⟩, ⟨10, 10, 5, 8, 0, 15, 0, 0, 0⟩, ⟨11, 11, 4, 4, 0, 15, 0, 0, 0⟩,
   ⟨12, 12, 4, 4, 0, 15, 0, 0, 0⟩, ⟨13, 13, 1, 1, 2, 0, 9, 1, 1⟩]

/-- Entries at 0x60A0 (Table SV-19): TOKENS_EMITTED, DRAFTS_PROPOSED, DRAFTS_ACCEPTED, SELECTIONS, NAN_LOGITS, NO_TOKEN_ENDS,
PAGE_WAITS, TOPP_TRUNCATIONS, PASS_OVERRUNS, BATT_EXPIRIES, BATT_DIGEST_FAILS, PARKS, COUNTERS_CLEAR. -/
def dict60A0 : List DictRow :=
  [⟨1, 1, 5, 8, 0, 15, 0, 0, 0⟩, ⟨2, 2, 5, 8, 0, 15, 0, 0, 0⟩, ⟨3, 3, 5, 8, 0, 15, 0, 0, 0⟩, ⟨4, 4, 5, 8, 0, 15, 0, 0, 0⟩,
   ⟨5, 5, 5, 8, 0, 15, 0, 0, 0⟩, ⟨6, 6, 4, 4, 0, 15, 0, 0, 0⟩, ⟨7, 7, 5, 8, 0, 15, 0, 0, 0⟩, ⟨8, 8, 5, 8, 0, 15, 0, 0, 0⟩,
   ⟨9, 9, 4, 4, 0, 15, 0, 0, 0⟩, ⟨10, 10, 4, 4, 0, 15, 0, 0, 0⟩, ⟨11, 11, 4, 4, 0, 15, 0, 0, 0⟩,
   ⟨12, 12, 4, 4, 0, 15, 0, 0, 0⟩, ⟨13, 13, 1, 1, 2, 0, 9, 1, 1⟩]

/-- Entries at 0x60B0 (Table WT-12): CHUNK_MISMATCHES, SIGNATURE_FAILURES, WEIGHT_WRITE_REFUSALS, BATCH_SWITCHES,
BYTES_HASHED, COUNTERS_CLEAR. -/
def dict60B0 : List DictRow :=
  [⟨1, 1, 4, 4, 0, 15, 0, 0, 0⟩, ⟨2, 2, 4, 4, 0, 15, 0, 0, 0⟩, ⟨3, 3, 5, 8, 0, 15, 0, 0, 0⟩, ⟨4, 4, 4, 4, 0, 15, 0, 0, 0⟩,
   ⟨5, 5, 5, 8, 0, 15, 0, 0, 0⟩, ⟨6, 6, 1, 1, 2, 0, 9, 1, 1⟩]

/-- Entries at 0x60C0 (Table DA-9): RUN_RECORDS, TABLE_FAULTS, INCOMPLETE_RECORDS, REPRO_FAST_FAULTS, COUNTERS_CLEAR. -/
def dict60C0 : List DictRow :=
  [⟨1, 1, 5, 8, 0, 15, 0, 0, 0⟩, ⟨2, 2, 4, 4, 0, 15, 0, 0, 0⟩, ⟨3, 3, 4, 4, 0, 15, 0, 0, 0⟩, ⟨4, 4, 4, 4, 0, 15, 0, 0, 0⟩,
   ⟨5, 5, 1, 1, 2, 0, 9, 1, 1⟩]

/-- Entries at 0x60D0 (Table IN-8): TS_CORRECTED, TS_UNCORRECTABLE, IMEM_CORRECTED, MEM_CORRECTED_WORDS, MEM_CORRECTED_PAGES,
MEM_UNCORRECTABLE_PAGES, POISON_WRITES, RESIDUE_FAULTS, ARRAY_CORRECTED, WRITEBACKS_DISCARDED, RMW_WRITES, SCRUBS,
SELFTEST_STATE, SELFTEST_FAILS, COUNTERS_CLEAR, FIRST_FAIL_CHECKER, FIRST_FAIL_UNIT. -/
def dict60D0 : List DictRow :=
  [⟨1, 1, 5, 8, 0, 15, 0, 0, 0⟩, ⟨2, 2, 4, 4, 0, 15, 0, 0, 0⟩, ⟨3, 3, 5, 8, 0, 15, 0, 0, 0⟩, ⟨4, 4, 5, 8, 0, 15, 0, 0, 0⟩,
   ⟨5, 5, 5, 8, 0, 15, 0, 0, 0⟩, ⟨6, 6, 4, 4, 0, 15, 0, 0, 0⟩, ⟨7, 7, 4, 4, 0, 15, 0, 0, 0⟩, ⟨8, 8, 4, 4, 0, 15, 0, 0, 0⟩,
   ⟨9, 9, 5, 8, 0, 15, 0, 0, 0⟩, ⟨10, 10, 5, 8, 0, 15, 0, 0, 0⟩, ⟨11, 11, 5, 8, 0, 15, 0, 0, 0⟩,
   ⟨12, 12, 4, 4, 0, 15, 0, 0, 0⟩, ⟨13, 13, 2, 1, 0, 15, 0, 0, 0⟩, ⟨14, 14, 3, 2, 0, 15, 0, 0, 0⟩,
   ⟨15, 15, 1, 1, 2, 0, 9, 1, 1⟩, ⟨16, 16, 2, 1, 0, 15, 0, 0, 0⟩, ⟨17, 17, 3, 2, 0, 15, 0, 0, 0⟩]

/-- Entries at 0x60E0 (Table PP-11): PACE_BEATS_TOTAL, THERMAL_STOPS, FUSE_CANDIDATES, REGRADES, COUNTERS_CLEAR. -/
def dict60E0 : List DictRow :=
  [⟨1, 1, 5, 8, 0, 15, 0, 0, 0⟩, ⟨2, 2, 4, 4, 0, 15, 0, 0, 0⟩, ⟨3, 3, 4, 4, 0, 15, 0, 0, 0⟩, ⟨4, 4, 4, 4, 0, 15, 0, 0, 0⟩,
   ⟨5, 5, 1, 1, 2, 0, 9, 1, 1⟩]

/-- Entries at 0x6100 (Table HI-13): RING_DROPS, HEADER_REJECTS, COMMANDS, COUNTERS_CLEAR. -/
def dict6100 : List DictRow :=
  [⟨1, 1, 5, 8, 0, 15, 0, 0, 0⟩, ⟨2, 2, 4, 4, 0, 15, 0, 0, 0⟩, ⟨3, 3, 5, 8, 0, 15, 0, 0, 0⟩, ⟨4, 4, 1, 1, 2, 0, 9, 1, 1⟩]

/-- Entries at 0x7000 (Table PP-9): POWER_LIMIT, TDP, PACKAGE_LIMIT, PACKAGE_POWER, GRANT_MARGIN, BOOST_COST_PER_GROUP,
EVAL_BEATS, WITHDRAW_NOTICE, WAKE_BEATS, PACE_BEATS. -/
def dict7000 : List DictRow :=
  [⟨1, 1, 3, 2, 1, 15, 5, 1200, 2800⟩, ⟨2, 2, 3, 2, 4, 15, 0, 0, 0⟩, ⟨3, 3, 3, 2, 4, 15, 0, 0, 0⟩,
   ⟨4, 4, 3, 2, 0, 15, 0, 0, 0⟩, ⟨5, 5, 3, 2, 1, 15, 9, 0, 400⟩, ⟨6, 6, 2, 1, 4, 15, 0, 0, 0⟩, ⟨7, 7, 3, 2, 4, 15, 0, 0, 0⟩,
   ⟨8, 8, 2, 1, 4, 15, 0, 0, 0⟩, ⟨9, 9, 2, 1, 4, 15, 0, 0, 0⟩, ⟨10, 10, 2, 1, 4, 15, 0, 0, 0⟩]

/-- Entries at 0x7010 (Table PP-10): TJ_HOTTEST, TJ_HOTTEST_SENSOR, HBM_HOTTEST, BOOST_TJ_MAX, PACE_TJ, STOP_TJ, TRIP_TJ,
THERMAL_STATE. -/
def dict7010 : List DictRow :=
  [⟨1, 1, 7, 2, 0, 15, 0, 0, 0⟩, ⟨2, 2, 2, 1, 0, 15, 0, 0, 0⟩, ⟨3, 3, 7, 2, 0, 15, 0, 0, 0⟩, ⟨4, 4, 2, 1, 1, 15, 5, 70, 100⟩,
   ⟨5, 5, 2, 1, 1, 15, 5, 90, 103⟩, ⟨6, 6, 2, 1, 4, 15, 0, 0, 0⟩, ⟨7, 7, 2, 1, 4, 15, 0, 0, 0⟩, ⟨8, 8, 2, 1, 0, 15, 0, 0, 0⟩]

/-- Entries at 0x8000 (Table MG-8a): OD_FORMAT, OAP_VERSION_MIN, OAP_VERSION_MAX, HOST_PROTO_IN_USE, LINKS_DLP21, LINKS_DLP13.
-/
def dict8000 : List DictRow :=
  [⟨1, 1, 3, 2, 4, 15, 0, 0, 0⟩, ⟨2, 2, 2, 1, 4, 15, 0, 0, 0⟩, ⟨3, 3, 2, 1, 4, 15, 0, 0, 0⟩, ⟨4, 4, 12, 34, 0, 15, 0, 0, 0⟩,
   ⟨5, 5, 12, 8, 0, 15, 0, 0, 0⟩, ⟨6, 6, 12, 8, 0, 15, 0, 0, 0⟩]

/-- Entries at 0x8010 (Table HI-13): HOST_PROTO_MIN, HOST_PROTO_MAX. -/
def dict8010 : List DictRow := [⟨1, 1, 3, 2, 4, 15, 0, 0, 0⟩, ⟨2, 2, 3, 2, 4, 15, 0, 0, 0⟩]

/-- Entries at 0x8020 (Table PI-14): PLAN_FMT_MAJOR, PLAN_FMT_MINOR_MIN, PLAN_FMT_MINOR_MAX. -/
def dict8020 : List DictRow := [⟨1, 1, 3, 2, 4, 15, 0, 0, 0⟩, ⟨2, 2, 3, 2, 4, 15, 0, 0, 0⟩, ⟨3, 3, 3, 2, 4, 15, 0, 0, 0⟩]

/-- Entries at 0x8030 (Table LK-15): DLP_SUPPORTED, DLP_NATIVE. -/
def dict8030 : List DictRow := [⟨1, 1, 2, 1, 4, 15, 0, 0, 0⟩, ⟨2, 2, 3, 2, 4, 15, 0, 0, 0⟩]

/-- Entries at 0x8040 (Table SV-20): SERVE_FORMAT. -/
def dict8040 : List DictRow := [⟨1, 1, 3, 2, 4, 15, 0, 0, 0⟩]

/-- Entries at 0x8050 (Table WT-13): WEIGHT_FORMAT. -/
def dict8050 : List DictRow := [⟨1, 1, 3, 2, 4, 15, 0, 0, 0⟩]

/-- Entries at 0x8060 (Table DA-10): RUN_RECORD_FORMAT, DIGEST_FORMAT, CBG_VERSION. -/
def dict8060 : List DictRow := [⟨1, 1, 3, 2, 4, 15, 0, 0, 0⟩, ⟨2, 2, 3, 2, 4, 15, 0, 0, 0⟩, ⟨3, 3, 3, 2, 4, 15, 0, 0, 0⟩]

/-- Entries at 0x9020 (Table CK-8): REGION_SELECT, REGION_STATE, STRETCHES, GAPS, READ_WAITS, READ_WAIT_PS, WRITE_WAITS,
JITTER_TRIPS, DUTY_TRIPS, EPOCH_TRIPS, MAX_DEFICIT, COUNTERS_CLEAR. -/
def dict9020 : List DictRow :=
  [⟨1, 1, 3, 2, 1, 15, 15, 0, 671⟩, ⟨2, 2, 2, 1, 0, 15, 0, 0, 0⟩, ⟨3, 3, 5, 8, 0, 15, 0, 0, 0⟩, ⟨4, 4, 4, 4, 0, 15, 0, 0, 0⟩,
   ⟨5, 5, 4, 4, 0, 15, 0, 0, 0⟩, ⟨6, 6, 5, 8, 0, 15, 0, 0, 0⟩, ⟨7, 7, 4, 4, 0, 15, 0, 0, 0⟩, ⟨8, 8, 4, 4, 0, 15, 0, 0, 0⟩,
   ⟨9, 9, 4, 4, 0, 15, 0, 0, 0⟩, ⟨10, 10, 4, 4, 0, 15, 0, 0, 0⟩, ⟨11, 11, 4, 4, 0, 15, 0, 0, 0⟩, ⟨12, 12, 1, 1, 2, 0, 9, 1, 1⟩]

/-- Entries at 0x9030 (Table TL-9): IMEM_ACTIVE, QUEUE_FULL_STALLS, LATE_ACTION_PERIODS, BANK_CONFLICTS, CONFLICT_PERIODS,
LAST_FAULT, LAST_FAULT_CYCLE, LAST_FAULT_UNIT, COUNTERS_CLEAR. -/
def dict9030 : List DictRow :=
  [⟨1, 1, 2, 1, 0, 15, 0, 0, 0⟩, ⟨2, 2, 4, 4, 0, 15, 0, 0, 0⟩, ⟨3, 3, 5, 8, 0, 15, 0, 0, 0⟩, ⟨4, 4, 4, 4, 0, 15, 0, 0, 0⟩,
   ⟨5, 5, 4, 4, 0, 15, 0, 0, 0⟩, ⟨6, 6, 2, 1, 0, 15, 0, 0, 0⟩, ⟨7, 7, 4, 4, 0, 15, 0, 0, 0⟩, ⟨8, 8, 2, 1, 0, 15, 0, 0, 0⟩,
   ⟨9, 9, 1, 1, 2, 0, 9, 1, 1⟩]

/-- Entries at 0x9031 (Table CC-9): CC_STATE, CC_PC, CC_FAULT_CAUSE, WAIT_PERIODS, LAST_WAIT_KIND, INBOX_DEPTH,
COUNTERS_CLEAR. -/
def dict9031 : List DictRow :=
  [⟨1, 1, 2, 1, 0, 15, 0, 0, 0⟩, ⟨2, 2, 3, 2, 0, 15, 0, 0, 0⟩, ⟨3, 3, 2, 1, 0, 15, 0, 0, 0⟩, ⟨4, 4, 5, 8, 0, 15, 0, 0, 0⟩,
   ⟨5, 5, 2, 1, 0, 15, 0, 0, 0⟩, ⟨6, 6, 2, 1, 0, 15, 0, 0, 0⟩, ⟨7, 7, 1, 1, 2, 0, 9, 1, 1⟩]

/-- Entries at 0x9050 (Table ME-13): MQ_OCCUPANCY, WRITE_BUFFER_LINES, COMPLETION_COUNT_0 to _7, MQ_FULL_WAITS,
BOUND_OVERRUNS, LANDING_FULL_PERIODS, LAST_FAULT_ADDR, COUNTERS_CLEAR. -/
def dict9050 : List DictRow :=
  [⟨1, 1, 2, 1, 0, 15, 0, 0, 0⟩, ⟨2, 2, 3, 2, 0, 15, 0, 0, 0⟩, ⟨3, 10, 4, 4, 0, 15, 0, 0, 0⟩, ⟨11, 11, 4, 4, 0, 15, 0, 0, 0⟩,
   ⟨12, 12, 4, 4, 0, 15, 0, 0, 0⟩, ⟨13, 13, 4, 4, 0, 15, 0, 0, 0⟩, ⟨14, 14, 5, 8, 0, 15, 0, 0, 0⟩,
   ⟨15, 15, 1, 1, 2, 0, 9, 1, 1⟩]

/-- Entries at 0x9060 (Table PI-16): IMEM_SEALED, IMEM_REFUSALS, LAST_REFUSED_OFFSET, LAST_REFUSAL_SOURCE, COUNTERS_CLEAR. -/
def dict9060 : List DictRow :=
  [⟨1, 1, 2, 1, 0, 15, 0, 0, 0⟩, ⟨2, 2, 4, 4, 0, 15, 0, 0, 0⟩, ⟨3, 3, 4, 4, 0, 15, 0, 0, 0⟩, ⟨4, 4, 2, 1, 0, 15, 0, 0, 0⟩,
   ⟨5, 5, 1, 1, 2, 0, 9, 1, 1⟩]

/-- Entries at 0x9070 (Table SY-13): SIGNAL_COUNT_0 to _15. -/
def dict9070 : List DictRow := [⟨1, 16, 4, 4, 0, 15, 0, 0, 0⟩]

/-- Entries at 0x9080 (Table DA-8): CBG_SEED, CBG_STEP, CBG_TENSOR, CBG_COUNTER, CBG_OUTPUT. -/
def dict9080 : List DictRow :=
  [⟨1, 1, 5, 8, 1, 15, 15, 0, 18446744073709551615⟩, ⟨2, 2, 5, 8, 1, 15, 15, 0, 18446744073709551615⟩,
   ⟨3, 3, 3, 2, 1, 15, 15, 0, 65535⟩, ⟨4, 4, 5, 8, 1, 15, 15, 0, 281474976710655⟩, ⟨5, 5, 12, 16, 0, 15, 0, 0, 0⟩]

/-- Entries at 0x9090 (Table IN-10): INJECT_TARGET, INJECT_ADDR, INJECT_MASK, INJECT_TILE, INJECT_ARM, INJECT_STATE. -/
def dict9090 : List DictRow :=
  [⟨1, 1, 2, 1, 1, 9, 9, 1, 5⟩, ⟨2, 2, 5, 8, 1, 9, 9, 0, 18446744073709551615⟩,
   ⟨3, 3, 12, 9, 1, 9, 9, 0, 4722366482869645213695⟩, ⟨4, 4, 3, 2, 1, 9, 9, 0, 671⟩, ⟨5, 5, 1, 1, 2, 0, 9, 1, 1⟩,
   ⟨6, 6, 2, 1, 0, 9, 0, 0, 0⟩]

/-- The rows at the base index of a block (Table MG-4). -/
def dictBlock (base : Nat) : List DictRow :=
  match base with
  | 0x1000 => dict1000
  | 0x1010 => dict1010
  | 0x1020 => dict1020
  | 0x1030 => dict1030
  | 0x1040 => dict1040
  | 0x2000 => dict2000
  | 0x2010 => dict2010
  | 0x2020 => dict2020
  | 0x2030 => dict2030
  | 0x2040 => dict2040
  | 0x2050 => dict2050
  | 0x2060 => dict2060
  | 0x2070 => dict2070
  | 0x2080 => dict2080
  | 0x2090 => dict2090
  | 0x3010 => dict3010
  | 0x3020 => dict3020
  | 0x3030 => dict3030
  | 0x3040 => dict3040
  | 0x3050 => dict3050
  | 0x3060 => dict3060
  | 0x3070 => dict3070
  | 0x3080 => dict3080
  | 0x3090 => dict3090
  | 0x30A0 => dict30A0
  | 0x30B0 => dict30B0
  | 0x4000 => dict4000
  | 0x4100 => dict4100
  | 0x4200 => dict4200
  | 0x4300 => dict4300
  | 0x5000 => dict5000
  | 0x5010 => dict5010
  | 0x5100 => dict5100
  | 0x6000 => dict6000
  | 0x6001 => dict6001
  | 0x6002 => dict6002
  | 0x6010 => dict6010
  | 0x6011 => dict6011
  | 0x6012 => dict6012
  | 0x6013 => dict6013
  | 0x6020 => dict6020
  | 0x6030 => dict6030
  | 0x6031 => dict6031
  | 0x6040 => dict6040
  | 0x6041 => dict6041
  | 0x6042 => dict6042
  | 0x6043 => dict6043
  | 0x6050 => dict6050
  | 0x6060 => dict6060
  | 0x6070 => dict6070
  | 0x6080 => dict6080
  | 0x6090 => dict6090
  | 0x60A0 => dict60A0
  | 0x60B0 => dict60B0
  | 0x60C0 => dict60C0
  | 0x60D0 => dict60D0
  | 0x60E0 => dict60E0
  | 0x6100 => dict6100
  | 0x7000 => dict7000
  | 0x7010 => dict7010
  | 0x8000 => dict8000
  | 0x8010 => dict8010
  | 0x8020 => dict8020
  | 0x8030 => dict8030
  | 0x8040 => dict8040
  | 0x8050 => dict8050
  | 0x8060 => dict8060
  | 0x9020 => dict9020
  | 0x9030 => dict9030
  | 0x9031 => dict9031
  | 0x9050 => dict9050
  | 0x9060 => dict9060
  | 0x9070 => dict9070
  | 0x9080 => dict9080
  | 0x9090 => dict9090
  | _ => []

/-- The base index that stands for an index, and the instance: partition, die, stack, link or channel (256 + c for capacity
channel c). -/
def dictBase (ix : Nat) : Nat × Nat :=
  if 0x1010 ≤ ix ∧ ix ≤ 0x1015 then (0x1010, ix - 0x1010)
  else if 0x1020 ≤ ix ∧ ix ≤ 0x1027 then (0x1020, ix - 0x1020)
  else if 0x3000 ≤ ix ∧ ix < 0x4000 then (0x3000 + ix % 0x100, (ix - 0x3000) / 0x100)
  else if 0x4100 ≤ ix ∧ ix < 0x4140 then (0x4100, ix - 0x4100)
  else if 0x4200 ≤ ix ∧ ix < 0x4240 then (0x4200, ix - 0x4200)
  else if 0x4300 ≤ ix ∧ ix < 0x4340 then (0x4300, ix - 0x4300)
  else if 0x5100 ≤ ix ∧ ix < 0x5200 then (0x5100, ix - 0x5100)
  else if 0x5200 ≤ ix ∧ ix < 0x5210 then (0x5100, 256 + (ix - 0x5200))
  else (ix, 0)

/-- The row of an entry; none where the dictionary holds no such entry (R616). -/
def dictRow (ix sub : Nat) : Option DictRow :=
  (dictBlock (dictBase ix).1).find? (fun r => decide (r.sub ≤ sub) && decide (sub ≤ r.last))

/-- Indices of the dictionary, in order (Table MG-4). -/
def dictIndices : List Nat :=
  [0x1000] ++ List.range' 0x1010 6 ++ List.range' 0x1020 8 ++ [0x1030, 0x1040, 0x2000, 0x2010, 0x2020, 0x2030, 0x2040, 0x2050, 0x2060, 0x2070, 0x2080, 0x2090]
    ++ (List.range 16).flatMap (fun k => [0x3010, 0x3020, 0x3030, 0x3040, 0x3050, 0x3060, 0x3070, 0x3080, 0x3090, 0x30A0, 0x30B0].map (· + 0x100 * k))
    ++ [0x4000] ++ List.range' 0x4100 64 ++ List.range' 0x4200 64 ++ List.range' 0x4300 64
    ++ [0x5000, 0x5010] ++ List.range' 0x5100 256 ++ List.range' 0x5200 16
    ++ [0x6000, 0x6001, 0x6002, 0x6010, 0x6011, 0x6012, 0x6013, 0x6020, 0x6030, 0x6031, 0x6040, 0x6041, 0x6042,
     0x6043, 0x6050, 0x6060, 0x6070, 0x6080, 0x6090, 0x60A0, 0x60B0, 0x60C0, 0x60D0, 0x60E0, 0x6100, 0x7000, 0x7010]
    ++ [0x8000, 0x8010, 0x8020, 0x8030, 0x8040, 0x8050, 0x8060, 0x9020, 0x9030, 0x9031, 0x9050, 0x9060, 0x9070,
     0x9080, 0x9090]

end Sys2Proof.Machine
end

