-- ==== Sys2Proof/Machine/Holds.lean ====
section
/-!
DEFINITION. Holds (02) and the stop of a partition (22, 11, 16, 19): asserting, notices, freezing, clear, resume.
-/
namespace Sys2Proof.Machine

/-- Whether a partition's plan runs: PLAN_STATE 3 and not stopped. -/
def Dev.planRuns (s : Dev) (k : Nat) : Bool := (s.part k).plan.state == 3 && (s.part k).time.mode != .stopped

/-- Whether the job of a partition spans more than one device. -/
def Dev.multiDevice (s : Dev) (k : Nat) : Bool :=
  match s.planOf k with | some p => decide (1 < p.header.ranks) | none => false

/-- H of the plan (R64). -/
def Dev.horizon (s : Dev) (k : Nat) : Nat := match s.planOf k with | some p => p.header.h | none => 0

/-- Links of the job on which notices go: the open ones, but for the link of arrival (R58, R59). -/
def Dev.noticeLinks (s : Dev) (k : Nat) (from_ : Option Nat) : List Nat :=
  (linksOf (s.part k).net.openLinks).filter (fun l => s.openFor k l && from_ != some l)

/-- A hold point inside a region stop becomes the edge that ends the stop (R67). -/
def movedPoint (p : PlanState) (ph : Nat) : Nat :=
  match p.stopFrom with
  | some f => if f < ph ∧ ph < f + 64 then f + 64 else ph
  | none => ph

/-- Set or lower the hold point of the episode (R60, R67). `cause` is LAST_HOLD_CAUSE, `noted` the cause of R58. -/
def setHoldPoint (s : Dev) (k ph cause origin noted : Nat) : Dev :=
  s.updPart k (fun p =>
    let ph := movedPoint p.plan ph
    let lower := match p.time.holdPoint with | some h => decide (ph < h) | none => true
    if !lower then p else
    { p with time := { p.time with
        holdPoint := some ph, holdOrigin := origin, holdCause := noted, lastHoldCause := cause, lastHoldBc := s.time.bc
        lastHoldOrigin := origin } })

/-- Send the hold notice of this device on every link of the job (R58). -/
def sendHoldNotices (s : Dev) (k pa cause : Nat) : Dev :=
  let body := holdBody (s.part k).fenceTag (s.part k).time.serial s.selfDev cause (pa + s.horizon k)
  let s := s.updTime k (fun t => { t with seen := s.selfDev :: t.seen })
  (s.noticeLinks k none).foldl (fun s l => sendHold s l body) s

/-- The device asserts a hold (R57, R58): Ph = Pa + H. -/
def assertHold (s : Dev) (k cause : Nat) : Dev :=
  let pa := (s.part k).time.pbc
  sendHoldNotices (setHoldPoint s k (pa + s.horizon k) cause s.selfDev cause) k pa cause

/-- A grant ends without notice: the partition is no longer eligible (R568). -/
def loseGrant (s : Dev) (k : Nat) : Dev :=
  let g := (s.part k).power
  if g.inForce || g.grantBit then
    let s := s.updPart k (fun p => { p with power := { g with
      inForce := false, withdrawnAt := none, fallNext := g.grantBit, grantState := 3 } })
    pushEvent s (k + 1) 0x23 (leBytes 1 3 ++ zeros 7 ++ leBytes 8 (s.time.bc + 1))
  else s

/-- Discard a successor that is receiving, accepted or staged (R334). -/
def dropSuccessor (s : Dev) (k : Nat) : Dev :=
  (s.updPart k (fun p => { p with serving := { p.serving with staged := none } })).updPlan k (fun p => { p with
    successor := none, succState := if p.succState = 4 then 4 else 0, succHash := []
    streams := p.streams.filter (fun x => !x.successor) })

/-- A partition stops: PBC is kept, the successor is discarded, an ARMED batch becomes live, its grant ends; in a job of
several devices it asserts a hold, except where its plan ends (R334, R568, R595, R638, R639, Table WT-6). -/
def stopPart (s : Dev) (k : Nat) (ended : Bool) : Dev :=
  if (s.part k).time.mode = .stopped then s else
  let s := s.updTime k (fun t => { t with
    mode := .stopped, stopPending := false, slipping := false, edgeDue := false, holdPoint := none, bres := none
    resumed := false })
  let s := loseGrant (weightSwitch (dropSuccessor s k) k) k
  let s := s.updWeights k (fun w => { w with switching := false })
  let s := if (s.part k).plan.stopFrom.isSome then
      (s.partTiles k).foldl unpark (s.updPlan k (fun p => { p with stopFrom := none }))
    else s
  let s := if s.multiDevice k && !ended then sendHoldNotices s k (s.part k).time.pbc 2 else s
  let asked := (s.part k).time.stopAsked
  asked.foldl commandPart (s.updTime k (fun t => { t with stopAsked := [] }))

/-- HOLD_NOTICE (R59, R60, R62): the oldest hold notice received is acted on, forwarded once, or discarded. DESIGN CHOICE
(assumption 81): a notice past the hold horizon that arrives inside a region stop freezes at once as R62 says; R67, which
lets no freeze begin inside a region stop, speaks of hold points. -/
def holdNotice (s : Dev) : Dev :=
  match s.noticesIn.find? (·.kind == 1) with
  | none => s
  | some n =>
    let s := { s with noticesIn := s.noticesIn.erase n }
    match s.partOfTag (bodyFence n.body) with
    | none => s
    | some k =>
      let w := leAt n.body 3 3
      let dev := w % 2 ^ 20
      let cause := w / 2 ^ 20
      let ph := holdPh n.body
      let t := (s.part k).time
      if !s.openFor k n.link || bodySerial n.body != t.serial || t.seen.contains dev then s
      else
        let s := s.updTime k (fun t => { t with seen := dev :: t.seen })
        let s := (s.noticeLinks k (some n.link)).foldl (fun s l => sendHold s l n.body) s
        if t.mode = .stopped then s
        else
          let lower := match t.holdPoint with | some h => decide (ph < h) | none => true
          if lower && decide (ph ≤ t.pbc) then
            let s := s.updTime k (fun t => { t with
              mode := .frozen, holdPoint := some t.pbc, holdCount := t.holdCount + 1, lastHoldCause := 3
              lastHoldBc := s.time.bc, lastHoldOrigin := dev, holdOrigin := dev, holdCause := cause })
            raise s 2 1 62 (some k) none (holdDetail t.pbc dev cause)
          else setHoldPoint s k ph 3 dev cause

/-- Transfers whose deadline has been checked and that have not landed (R63, R392). -/
def lateTransfers (p : PlanState) : List Arrival := p.arrivals.filter (fun a => a.checked && a.left != 0)

/-- Whether a device is clear (R63). -/
def Dev.clear (s : Dev) (k : Nat) : Bool :=
  let p := s.part k
  p.time.mode == .frozen && (lateTransfers p.plan).isEmpty && !p.time.slipping

/-- A clear device whose children are clear reports up once; a clear crown broadcasts the resume (R63, R411). -/
def tryClear (s : Dev) (k : Nat) : Dev :=
  let p := s.part k
  if !s.clear k || p.time.clearSent || !(linksOf p.net.childLinks).all p.time.clears.contains then s
  else
    let s := s.updTime k (fun t => { t with clearSent := true })
    if p.net.isCrown then
      let b := s.time.bc + s.horizon k
      let s := s.updTime k (fun t => { t with bres := some b })
      (linksOf p.net.childLinks).foldl (fun s l =>
        sendTree s l 5 p.fenceTag (leBytes 1 p.time.serial ++ zeros 3 ++ leBytes 8 b)) s
    else sendTree s p.net.parentLink 4 p.fenceTag (leBytes 1 p.time.serial)

/-- PLANNED_PACKET_ARRIVAL with what it completes (R392, R63): the last late transfer of a frozen device makes it clear. -/
def plannedTaken (s : Dev) (id : Nat) : Dev := (List.range 16).foldl tryClear (plannedArrival s id)

/-- FREEZE (R60): at the edge where PBC becomes the hold point. DESIGN CHOICE (assumption 81): HOLD_COUNT (R73) counts
freezes and horizon violations, not hold points set or assertions heard. -/
def freeze (s : Dev) (k : Nat) : Dev :=
  let p := s.part k
  if s.planRuns k && p.time.mode == .running && p.time.holdPoint == some p.time.pbc && p.plan.stopFrom.isNone then
    tryClear (s.updTime k (fun t => { t with
      mode := .frozen, holdCount := t.holdCount + 1, edgeDue := false
      slotAge := if t.slotAge = 0 then (if t.ranBefore then 1 else 2) else t.slotAge
      slotBeat := if t.slotAge = 0 then t.slotBeat - 1 else t.slotBeat })) k
  else s

/-- Count a stale tree message (R410). -/
def staleMessage (s : Dev) : Dev := s.updSync (fun x => { x with staleTree := x.staleTree + 1 })

/-- Take the oldest tree message of a kind: the partition, the link and the body after the tag, or a stale message counted
(R410). `up` says that it travels up. -/
def takeTree (s : Dev) (kind : Nat) (up : Bool) : Dev × Option (Nat × Nat × Bytes) :=
  match s.noticesIn.find? (·.kind == kind) with
  | none => (s, none)
  | some n =>
    let s := { s with noticesIn := s.noticesIn.erase n }
    match s.partOfTag (bodyFence n.body) with
    | none => (staleMessage s, none)
    | some k =>
      let net := (s.part k).net
      let right := net.treeState == 1 && s.openFor k n.link
        && (if up then bit net.childLinks n.link && n.link < 64 else net.parentLink == n.link)
      if right then (s, some (k, n.link, n.body.drop 2)) else (staleMessage s, none)

/-- CLEAR (R63, R411). -/
def clearMessage (s : Dev) : Dev :=
  match takeTree s 4 true with
  | (s, none) => s
  | (s, some (k, l, b)) =>
    if byteAt b 0 ≠ (s.part k).time.serial then staleMessage s
    else tryClear (s.updTime k (fun t => { t with clears := if t.clears.contains l then t.clears else l :: t.clears })) k

/-- TREE_RESUME (R63): it schedules the release and goes to the children. -/
def treeResume (s : Dev) : Dev :=
  match takeTree s 5 false with
  | (s, none) => s
  | (s, some (k, _, b)) =>
    let p := s.part k
    if byteAt b 0 ≠ p.time.serial then staleMessage s
    else
      let s := s.updTime k (fun t => { t with bres := some (leAt b 4 8) })
      (linksOf p.net.childLinks).foldl (fun s l => sendTree s l 5 p.fenceTag b) s

/-- RESUME_EDGE (R63): at the edge where BC becomes Bres the partition runs beat Ph. -/
def resumeEdge (s : Dev) (k : Nat) : Dev :=
  let t := (s.part k).time
  match t.bres with
  | some b =>
    if t.mode = .frozen ∧ b ≤ s.time.bc then
      let s := s.updTime k (fun t => { t with mode := .running, holdPoint := none, bres := none, resumed := true, slotAge := 0, slotBeat := t.pbc, ranBefore := false })
      -- the control core goes on with a false sample: a boundary or a stop due at this edge follows in its own event
      s.updTime k (fun t => { t with edgeDue := false })
    else s
  | none => s

/-- PBC advances by one; after a resume the episode serial moves on (R63, R411). -/
def advancePbc (s : Dev) (k : Nat) : Dev :=
  let t := (s.part k).time
  let s := s.updTime k (fun t => { t with pbc := t.pbc + 1, still := 0, limitRaised := false, slotAge := 0, slotBeat := t.pbc + 1 })
  if t.resumed then
    let s := endEpisode s (s.part k).fenceTag
    s.updTime k (fun t => { t with
      resumed := false, serial := (t.serial + 1) % 256, seen := [], clears := []
      clearSent := false })
  else s

/-- The instances of planned transfers that the step which begins at the present edge brings, with their deadlines A + W (R57,
R317, R318). -/
def newArrivals (q : Plan) (step pbc : Nat) : List Arrival :=
  ((q.transfers.zip (List.range q.transfers.length)).filter (fun x => x.1.step == step)).map (fun x =>
    ⟨x.2, pbc + x.1.aOff + x.1.w, x.1.bytes, false⟩)

/-- Whether the deadline of an instance is at hand and not checked yet. -/
def Arrival.dueAt (pbc : Nat) (a : Arrival) : Bool := a.due == pbc && !a.checked

/-- TRANSFER_DEADLINE (R57): at the edge where PBC becomes A + W of a transfer, one that has not landed makes the device assert
a hold. -/
def transferDeadline (s : Dev) (k : Nat) : Dev :=
  let p := s.part k
  let due := p.plan.arrivals.filter (Arrival.dueAt p.time.pbc)
  if !s.planRuns k || due.isEmpty then s else
  let s := s.updPlan k (fun x => { x with
    arrivals := x.arrivals.map (fun a => if a.dueAt p.time.pbc then { a with checked := true } else a) })
  if due.all (·.left == 0) then s else assertHold s k 1

/-- HOLD_LIMIT_EXPIRY (R65). -/
def holdLimit (s : Dev) (k : Nat) : Dev :=
  let p := s.part k
  let lim := match s.planOf k with | some q => q.header.holdLimit | none => 0
  if s.planRuns k && decide (lim < p.time.still) && !p.time.limitRaised then
    let s := s.updTime k (fun t => { t with limitRaised := true })
    raise s 2 1 65 (some k) none (holdDetail p.time.pbc p.time.holdOrigin p.time.holdCause)
  else s

end Sys2Proof.Machine
end

