-- ==== Sys2Proof/Machine/Sync.lean ====
section
/-!
DEFINITION. Votes, barriers, the bow and context switches (14).
-/
namespace Sys2Proof.Machine

/-- The vote of a kind for a decision PBC (R411). -/
def Net.vote (n : Net) (kind pbc : Nat) : Vote :=
  (n.votes.find? (fun v => v.kind == kind && v.pbc == pbc)).getD ⟨kind, pbc, none, [], false, none⟩

/-- Set a vote. -/
def Net.setVote (n : Net) (v : Vote) : Net :=
  { n with votes := v :: n.votes.filter (fun x => !(x.kind == v.kind && x.pbc == v.pbc)) }

/-- The body of VOTE_UP and VOTE_DOWN after the tag (Table SY-2). -/
def voteBody (kind pbc : Nat) (b : Bool) : Bytes := leBytes 1 kind ++ leBytes 1 (boolNat b) ++ zeros 2 ++ leBytes 8 pbc

/-- Send a tree message to every child of a partition. -/
def toChildren (s : Dev) (k kind : Nat) (body : Bytes) : Dev :=
  (linksOf (s.part k).net.childLinks).foldl (fun s l => sendTree s l kind (s.part k).fenceTag body) s

/-- Send a tree message to the parent of a partition. -/
def toParent (s : Dev) (k kind : Nat) (body : Bytes) : Dev :=
  sendTree s (s.part k).net.parentLink kind (s.part k).fenceTag body

/-- Once its own bit and every child's value are in, a device sends its value up; the crown sends the result down (R411). -/
def trySendVote (s : Dev) (k kind pbc : Nat) : Dev :=
  let net := (s.part k).net
  let v := net.vote kind pbc
  match v.own with
  | none => s
  | some own =>
    if v.sent || !(linksOf net.childLinks).all (fun l => v.children.any (·.1 == l)) then s
    else
      let value := own && v.children.all (·.2)
      if net.isCrown then
        toChildren (s.updNet k (·.setVote { v with sent := true, result := some value })) k 7 (voteBody kind pbc value)
      else toParent (s.updNet k (·.setVote { v with sent := true })) k 6 (voteBody kind pbc value)

/-- VOTE_UP (R411). -/
def voteUp (s : Dev) : Dev :=
  match takeTree s 6 true with
  | (s, none) => s
  | (s, some (k, l, b)) =>
    let kind := byteAt b 0
    let pbc := leAt b 4 8
    let v := (s.part k).net.vote kind pbc
    let v := if v.children.any (·.1 == l) then v else { v with children := v.children ++ [(l, byteAt b 1 % 2 == 1)] }
    trySendVote (s.updNet k (·.setVote v)) k kind pbc

/-- VOTE_DOWN (R411). -/
def voteDown (s : Dev) : Dev :=
  match takeTree s 7 false with
  | (s, none) => s
  | (s, some (k, _, b)) =>
    let v := (s.part k).net.vote (byteAt b 0) (leAt b 4 8)
    let s := s.updNet k (·.setVote { v with result := some (byteAt b 1 % 2 == 1) })
    (linksOf (s.part k).net.childLinks).foldl (fun s l => sendTree s l 7 (s.part k).fenceTag b) s

/-- The counter of a barrier (R412). -/
def Dev.barrier (s : Dev) (k id : Nat) : Barrier := Sparse.get .reset (s.part k).net.barriers id

/-- Set the counter of a barrier. -/
def Dev.setBarrier (s : Dev) (k id : Nat) (b : Barrier) : Dev :=
  s.updNet k (fun n => { n with barriers := Sparse.set .reset n.barriers id b })

/-- The generation slot of a round (R412). -/
def Barrier.slot (b : Barrier) (r : Nat) : BarrierSlot := if r % 2 = 0 then b.even else b.odd

/-- Set the slot of a round. -/
def Barrier.setSlot (b : Barrier) (r : Nat) (x : BarrierSlot) : Barrier :=
  if r % 2 = 0 then { b with even := x } else { b with odd := x }

/-- The round after a barrier's current round. -/
def Barrier.after (b : Barrier) : Nat := (b.n + 1) % 256

/-- Whether a slot is locally complete (R416). -/
def BarrierSlot.complete (x : BarrierSlot) (children : Nat) : Bool :=
  x.e == some x.count && (linksOf children).all x.children.contains

/-- The body of BAR_REPORT and BAR_DONE after the tag (Table SY-2). -/
def barBody (id r : Nat) (parity : Bool) : Bytes := leBytes 1 id ++ leBytes 1 r ++ leBytes 1 (boolNat parity) ++ zeros 9

/-- Complete the current round of a barrier (R417, R418). -/
def completeRound (s : Dev) (k id : Nat) : Dev :=
  let b := s.barrier k id
  let x := b.slot b.n
  let s := toChildren s k 3 (barBody id b.n (s.part k).net.parity)
  let s := x.entrants.foldl (fun s t => signalTile s t (x.j.getD 0)) s
  let entry := leBytes 1 k ++ leBytes 1 id ++ leBytes 1 b.n ++ zeros 5 ++ leBytes 8 s.time.bc
  let hosts := x.hosts ++ (b.watches.filter (·.1 == b.n)).map (·.2)
  let s := hosts.foldl (fun s f => pushEvent s f 0x20 entry) s
  let s := s.updSync (fun y => { y with rounds := y.rounds + 1 })
  s.setBarrier k id { b.setSlot b.n .reset with n := b.after, watches := b.watches.filter (·.1 != b.n) }

/-- Report the rounds that have become locally complete, or complete them at the crown (R416, R417). -/
def barrierProgress : Nat → Dev → Nat → Nat → Dev
  | 0, s, _, _ => s
  | f + 1, s, k, id =>
    let net := (s.part k).net
    let b := s.barrier k id
    if net.isCrown then
      if (b.slot b.n).complete net.childLinks then barrierProgress f (completeRound s k id) k id else s
    else
      [b.n, b.after].foldl (fun s r =>
        let b := s.barrier k id
        let x := b.slot r
        if x.complete net.childLinks && !x.reported then
          toParent (s.setBarrier k id (b.setSlot r { x with reported := true })) k 2 (barBody id r net.parity)
        else s) s

/-- An entry into a barrier round by a tile with its completion count, or by a host function (R414, R415, R419). -/
def barrierEnter (s : Dev) (k id round e : Nat) (tile : Option (Nat × Nat)) (fn : Option Nat) : Dev :=
  let b := s.barrier k id
  let x := b.slot round
  let who := tile.map (·.1)
  if round ≠ b.n ∧ round ≠ b.after then
    raise (s.updSync (fun y => { y with overruns := y.overruns + 1 })) 1 13 414 (some k) who (zeros 16)
  else
    let wrongJ := match x.j, tile with | some j, some (_, i) => i != j | _, _ => false
    if (x.e.isSome && (x.e != some e || wrongJ || decide (e ≤ x.count))) then
      raise (s.updSync (fun y => { y with mismatches := y.mismatches + 1 })) 1 13 415 (some k) who (zeros 16)
    else
      let x := { x with
        count := x.count + 1, e := some e
        j := (match x.j, tile with | some j, _ => some j | none, some (_, i) => some i | none, none => none)
        entrants := (match who with | some t => if x.entrants.contains t then x.entrants else x.entrants ++ [t] | none => x.entrants)
        hosts := (match fn with | some f => x.hosts ++ [f] | none => x.hosts) }
      barrierProgress 3 (s.setBarrier k id (b.setSlot round x)) k id

/-- BARRIER_ENTRY (R413): the oldest entry that a tile has posted and that is due reaches the barrier unit. -/
def barrierEntry (s : Dev) (t : Nat) : Dev :=
  let mine (x : Posting) : Bool := x.tile == t && decide (x.due ≤ s.time.bc)
    && (match x.item with | .barrier _ _ _ _ => true | _ => false)
  match s.router.takePosting mine with
  | none => s
  | some (x, r) =>
    match x.item with
    | .barrier id round e j => barrierEnter { s with router := r } x.part id round e (some (t, j)) none
    | _ => s

/-- Take a barrier message whose parity is the receiver's: partition, link, barrier, round (R433). -/
def takeBar (s : Dev) (kind : Nat) (up : Bool) : Dev × Option (Nat × Nat × Nat × Nat) :=
  match takeTree s kind up with
  | (s, none) => (s, none)
  | (s, some (k, l, b)) =>
    if (byteAt b 2 % 2 == 1) != (s.part k).net.parity then (staleMessage s, none)
    else (s, some (k, l, byteAt b 0, byteAt b 1))

/-- BAR_REPORT (R416). -/
def barReport (s : Dev) : Dev :=
  match takeBar s 2 true with
  | (s, none) => s
  | (s, some (k, l, id, r)) =>
    let b := s.barrier k id
    if r ≠ b.n ∧ r ≠ b.after then staleMessage s
    else
      let x := b.slot r
      let x := { x with children := if x.children.contains l then x.children else x.children ++ [l] }
      barrierProgress 3 (s.setBarrier k id (b.setSlot r x)) k id

/-- BAR_DONE (R417). -/
def barDone (s : Dev) : Dev :=
  match takeBar s 3 false with
  | (s, none) => s
  | (s, some (k, _, id, r)) =>
    if r ≠ (s.barrier k id).n then staleMessage s else barrierProgress 1 (completeRound s k id) k id

/-- Clear control core, forest unit and completion counts of a tile (R243, R228, R291). A faulted core stays faulted: only a
partition reset ends that (R267). -/
def Tile.fresh (x : Tile) : Tile :=
  { x with
    core := { Core.reset with
      inbox := x.core.inbox, waitPeriods := x.core.waitPeriods, lastWaitKind := x.core.lastWaitKind
      state := if x.core.state = .faulted then .faulted else .idle, faultCause := x.core.faultCause }
    forest := .reset
    mq := { x.mq with counts := List.replicate 8 0 }
    clock := { x.clock with gen := if x.clock.gen == .faulted then .faulted else .on } }

/-- A context switch clears the barrier, vote, signal and mailbox state of a partition in one beat (R433). -/
def contextSwitch (s : Dev) (k : Nat) (parity : Bool) : Dev :=
  let s := endEpisode s (s.part k).fenceTag
  let s := s.updNet k (fun n => { n with
    barriers := [], votes := [], parity := parity, sendPaths := [], recvPaths := [] })
  let s := s.updTime k (fun t => { t with serial := 0, seen := [], clears := []
                                          clearSent := false, bres := none, resumed := false })
  let s := (s.partTiles k).foldl (fun s t => s.updTile t (fun x => { x with
    signals := List.replicate 16 0, core := { x.core with inbox := [] } })) s
  let waiting (e : OrtEntry) : Bool := e.part == k && e.retryAt.isSome
    && (match e.owner with | .notice _ _ _ => true | _ => false)
  s.updRouter (fun r => { r with holds := r.holds.filter (·.part != k), ort := r.ort.filter (fun e => !waiting e) })

/-- Change the bow of a partition. -/
def Dev.updBow (s : Dev) (k : Nat) (f : Bow → Bow) : Dev := s.updNet k (fun n => { n with bow := f n.bow })

/-- The conditions of R435, tested in order: 0 when all hold, otherwise the FAIL_CAUSE of the first that fails. A device without
an ID takes part in no job (R24); DESIGN CHOICE (assumption 90): it fails condition 3, every link of it being fenced. -/
def bowTest (s : Dev) (k : Nat) : Nat :=
  let p := s.part k
  if s.time.sync ≠ 2 then 1 else
  match p.plan.plan with
  | none => 2
  | some q =>
    let h := q.header
    if p.plan.state ≠ 2 ∨ (p.net.treeState = 1 ∧ ((p.net.parentLink == 0xFE) != (h.rank == h.crownRank))) then 2
    else if s.selfDev = 0xFFFFF ∨ p.fenceTag = 0 ∨ (1 < h.ranks ∧ (p.net.routeState ≠ 1 ∨ p.net.treeState ≠ 1)) then 3
    else if q.links.any (fun r => r.ownerRank == h.rank && (s.link r.link).st != 4) then 4
    else 0

/-- The BOW entry of ring EVT (Table HI-10a). -/
def bowEntry (b : Bow) (outcome bc0 : Nat) : Bytes :=
  leBytes 1 b.serial ++ leBytes 1 outcome ++ zeros 2
    ++ leBytes 4 (if outcome = 2 then b.failDev % 2 ^ 20 + b.failCause * 2 ^ 20 else 0) ++ leBytes 8 bc0

/-- The device acts on an abort, its own as the crown or one received (R438, R440). -/
def bowAbort (s : Dev) (k dev cause : Nat) : Dev :=
  let s := s.updBow k (fun b => { b with state := 4, failed := true, failDev := dev, failCause := cause, bc0 := none })
  let s := s.updSync (fun x => { x with bowAborts := x.bowAborts + 1 })
  let b := (s.part k).net.bow
  let s := toChildren s k 11 (leBytes 1 b.serial ++ zeros 3 ++ leBytes 4 (dev % 2 ^ 20 + cause * 2 ^ 20) ++ zeros 4)
  pushEvent s (k + 1) 0x21 (bowEntry b 2 0)

/-- A failure that this device knows of: the crown aborts, or its job ends once START has been sent; any other device sends
FAIL (R437, R438). `dev` 0xFFFFF says that the parent names the device. -/
def bowFail (s : Dev) (k dev cause count : Nat) : Dev :=
  let net := (s.part k).net
  if net.isCrown then
    if net.bow.bc0.isSome then raise s 2 13 438 (some k) none (zeros 16)
    else bowAbort s k (if dev = 0xFFFFF ∧ cause ≠ 8 then s.selfDev else dev) cause
  else if net.bow.failed then s
  else
    let s := s.updBow k (fun b => { b with failed := true, fails := b.fails + count })
    toParent s k 9 (leBytes 1 net.bow.serial ++ leBytes 1 1 ++ leBytes 2 0 ++ leBytes 4 (dev % 2 ^ 20 + cause * 2 ^ 20)
      ++ leBytes 2 (net.bow.fails + count) ++ zeros 2)

/-- COUNT of the subtree: this device and what its children reported. -/
def Bow.total (b : Bow) : Nat := 1 + (b.oks.map (·.2)).foldl (· + ·) 0

/-- Once every child has sent OK, the crown decides and any other device sends OK (R437, R438). -/
def bowProgress (s : Dev) (k : Nat) : Dev :=
  let net := (s.part k).net
  let b := net.bow
  if b.state ≠ 1 ∨ b.failed ∨ b.okSent ∨ ¬ (linksOf net.childLinks).all (fun l => b.oks.any (·.1 == l)) then s
  else if net.isCrown then
    let ranks := match s.planOf k with | some q => q.header.ranks | none => 1
    if b.total ≠ ranks then bowAbort s k 0xFFFFF 8
    else
      let bc0 := s.time.bc + s.horizon k
      toChildren (s.updBow k (fun b => { b with okSent := true, bc0 := some bc0 })) k 10
        (leBytes 1 b.serial ++ zeros 3 ++ leBytes 8 bc0)
  else
    toParent (s.updBow k (fun b => { b with okSent := true, state := 2 })) k 9
      (leBytes 1 b.serial ++ leBytes 1 0 ++ leBytes 2 b.total ++ zeros 8)

/-- Send BOW to the children, each with its own ACK_BY (R436). -/
def sendBow (s : Dev) (k a : Nat) : Dev :=
  (linksOf (s.part k).net.childLinks).foldl (fun s l =>
    sendTree s l 8 (s.part k).fenceTag
      (leBytes 1 (s.part k).net.bow.serial ++ zeros 3 ++ leBytes 8 (a - (s.link l).beats - 2))) s

/-- BOW_START (R435, R436): the COMMAND_STATUS and the state after it. -/
def bowStart (s : Dev) (k : Nat) : Nat × Dev :=
  let p := s.part k
  if p.net.bow.state = 1 ∨ p.net.bow.state = 2 then (10, s)
  else if (match p.plan.plan with | some q => q.header.rank != q.header.crownRank | none => false) then (9, s)
  else if bowTest s k ≠ 0 then (bowTest s k, s)
  else
    let a := s.time.bc + s.sync.bowWindow
    let s := s.updBow k (fun b => { Bow.reset with state := 1, serial := (b.serial + 1) % 256, ackBy := a })
    (0, bowProgress (sendBow s k a) k)

/-- BOW (R435 to R437): it sets the serial, goes on to the children, and the conditions are tested. -/
def bowMessage (s : Dev) : Dev :=
  match takeTree s 8 false with
  | (s, none) => s
  | (s, some (k, _, b)) =>
    let a := leAt b 4 8
    let s := s.updBow k (fun _ => { Bow.reset with state := 1, serial := byteAt b 0, ackBy := a })
    let s := sendBow s k a
    let c := if bowTest s k ≠ 0 then bowTest s k else if a < s.time.bc then 5 else 0
    if c = 0 then bowProgress s k
    else bowFail (s.updBow k (fun b => { b with failDev := s.selfDev, failCause := c })) k 0xFFFFF c 1

/-- Whether a bow message carries the serial of the bow under way (R440). -/
def Dev.bowCurrent (s : Dev) (k : Nat) (b : Bytes) : Bool :=
  let w := (s.part k).net.bow
  byteAt b 0 == w.serial && (w.state == 1 || w.state == 2 || (w.state == 3 && w.bc0.isSome))

/-- BOW_ACK (R437, R438). -/
def bowAck (s : Dev) : Dev :=
  match takeTree s 9 true with
  | (s, none) => s
  | (s, some (k, l, b)) =>
    if !s.bowCurrent k b then staleMessage s
    else if byteAt b 1 % 2 = 0 then
      bowProgress (s.updBow k (fun w => { w with
        oks := if w.oks.any (·.1 == l) then w.oks else w.oks ++ [(l, leAt b 2 2)] })) k
    else
      let dev := leAt b 4 4 % 2 ^ 20
      let cause := leAt b 4 4 / 2 ^ 20 % 256
      let named := dev != 0xFFFFF
      let s := s.updBow k (fun w => { w with failLinks := if named then w.failLinks else setBit w.failLinks l true })
      let dev := if named then dev else (s.link l).peerDev
      let s := s.updBow k (fun w => if w.failCause = 0 then { w with failDev := dev, failCause := cause } else w)
      bowFail s k dev cause (leAt b 8 2)

/-- BOW_ACK_DEADLINE (R437, R438): ACK_BY, or A at the crown, arrives with a child still silent. -/
def bowAckDeadline (s : Dev) (k : Nat) : Dev :=
  let net := (s.part k).net
  let b := net.bow
  let silent := (linksOf net.childLinks).filter (fun l => !b.oks.any (·.1 == l) && !bit b.failLinks l)
  match silent with
  | [] => s
  | l :: _ =>
    if b.state ≠ 1 ∨ b.failed ∨ s.time.bc < b.ackBy then s
    else
      let dev := (s.link l).peerDev
      let s := s.updBow k (fun w => { w with
        failLinks := silent.foldl (fun m l => setBit m l true) w.failLinks, failDev := dev, failCause := 6 })
      bowFail s k dev 6 silent.length

/-- A tree link to a child goes down during a bow (R437). -/
def bowLinkDown (s : Dev) (l dev : Nat) : Dev :=
  (List.range 16).foldl (fun s k =>
    let net := (s.part k).net
    if (net.bow.state = 1 ∨ net.bow.state = 2) ∧ bit net.childLinks l then
      let s := s.updBow k (fun w => { w with failLinks := setBit w.failLinks l true, failDev := dev, failCause := 7 })
      bowFail s k dev 7 1
    else s) s

/-- A device that fails its own test before START arrives sends FAIL (R437). -/
def bowRetest (s : Dev) : Dev :=
  (List.range 16).foldl (fun s k =>
    let b := (s.part k).net.bow
    if (b.state = 1 ∨ b.state = 2) ∧ b.bc0.isNone ∧ ¬ b.failed ∧ bowTest s k ≠ 0 then
      let c := bowTest s k
      bowFail (s.updBow k (fun b => { b with failDev := s.selfDev, failCause := c })) k 0xFFFFF c 1
    else s) s

/-- START (R439): forwarded; at or after BC0 the job ends. -/
def startMessage (s : Dev) : Dev :=
  match takeTree s 10 false with
  | (s, none) => s
  | (s, some (k, _, b)) =>
    if !s.bowCurrent k b then staleMessage s
    else
      let bc0 := leAt b 4 8
      let s := (linksOf (s.part k).net.childLinks).foldl (fun s l => sendTree s l 10 (s.part k).fenceTag b) s
      if bc0 ≤ s.time.bc then raise s 2 13 439 (some k) none (zeros 16)
      else s.updBow k (fun w => { w with bc0 := some bc0 })

/-- ABORT (R440). -/
def abortMessage (s : Dev) : Dev :=
  match takeTree s 11 false with
  | (s, none) => s
  | (s, some (k, _, b)) =>
    if !s.bowCurrent k b then staleMessage s
    else bowAbort s k (leAt b 4 4 % 2 ^ 20) (leAt b 4 4 / 2 ^ 20 % 256)

/-- A loaded plan begins to run at PBC 0 (R47, R67, R314, R384, R439). Its step 0 takes STEP_BASE (R520), also where that has
been written since the load (R659). -/
def startPlan (s : Dev) (k : Nat) : Dev :=
  let s := s.updPart k (fun p => { p with
    time := { p.time with
      mode := .running, pbc := 0, offset := s.time.bc, still := 0, slotAge := 0, slotBeat := 0, ranBefore := false, edgeDue := false, slipping := false
      done0 := false, done1 := false, done2 := false, holdPoint := none, stopPending := false, pacing := 0
      limitRaised := false }
    plan := { p.plan with
      state := 3, stepIx := 0, came := none, boosted := false, stopFrom := none, stopDue := true, switching := false
      planBegan := 0, stageOpened := false, arrivals := [] }
    audit := { p.audit with step := p.audit.stepBase } })
  (linksOf (s.part k).net.plannedLinks).foldl (fun s l => s.updLink l (fun x => { x with anchorPbc := true })) s

/-- BOW_START_EDGE (R439); a device that has lost its ID since takes part in no job (R24). -/
def bowStartEdge (s : Dev) (k : Nat) : Dev :=
  let b := (s.part k).net.bow
  match b.bc0 with
  | none => s
  | some bc0 =>
    if b.state ≠ 3 ∧ b.state ≠ 4 ∧ bc0 ≤ s.time.bc ∧ (s.part k).plan.state = 2 ∧ s.selfDev ≠ 0xFFFFF then
      let s := startPlan s k
      let s := s.updBow k (fun b => { b with state := 3, startBc := bc0 })
      pushEvent s (k + 1) 0x21 (bowEntry (s.part k).net.bow 1 bc0)
    else s

end Sys2Proof.Machine
end

