-- ==== Sys2Proof/Machine/Links.lean ====
section
/-!
DEFINITION. The link layer (12): link down, flits sent and received, replay, training, measurement.
-/
namespace Sys2Proof.Machine

/-- Partitions whose running plan names a link in its LINKS section (R316, R372). -/
def Dev.planNames (s : Dev) (l : Nat) : List Nat :=
  (List.range 16).filter (fun k => s.planRuns k && (s.linkRec k l).isSome)

/-- Packets among flits: those with LAST set. -/
def lastFlits (l : List Flit) : Nat := (l.filter (fun f => bit f.kind 3)).length

/-- The packets that a link drops when it goes down: queued, unacknowledged and partly received (R369). -/
def LinkState.lost (x : LinkState) : Nat :=
  lastFlits x.plannedQ + (x.beQ.map lastFlits).foldl (· + ·) 0 + lastFlits (x.held.map (·.flit))
    + (x.asm.filter (·.1 < 6)).length

/-- The bytes that a partly received remote write of this device covers are undefined once it is dropped (R369). -/
def losePartial (s : Dev) (p : Packet) : Dev :=
  if (p.kind = 1 ∨ p.kind = 2) ∧ ¬ p.planned ∧ p.dest = s.selfDev then
    match s.partOfTag p.fence with
    | some k => if s.reach k p.addr p.len && !weightRefused s k p.addr p.len then freeRange s p.addr p.len else s
    | none => s
  else s

/-- A link goes down in UP (R369 to R372). What it has accepted whole has passed the fence; the requests that left on it close at the
next beat edge. -/
def linkDown (s : Dev) (l cause : Nat) : Dev :=
  let x := s.link l
  if x.st ≠ 4 then s else
  let waiting := (s.router.out.filter (·.1 == l)).map (·.2)
  let dropped := x.lost + waiting.length
  let named := s.planNames l
  let bc := s.time.bc
  let mine (e : OrtEntry) : OrtEntry := if e.link = some l ∧ e.lost = none then { e with lost := some bc } else e
  let own (q : InPacket) : InPacket :=
    if q.link = some l then { q with buf := 6, passed := q.passed || fenceOk s q.link q.pkt } else q
  let s := s.updLink l (fun x => { x with
    st := 5, downCause := cause, lastDownBc := s.time.bc, downFlits := 16, wasUp := true, held := [], replayAt := none
    stall := none, plannedQ := [], missed := 0, beQ := List.replicate 6 [], notices := [], copies := 0, holds := []
    holdSent := [], asm := [], measuring := false, stamps := [], echoDue := false, badRun := 0, nakPending := false
    cnt := { x.cnt with
      droppedPackets := x.cnt.droppedPackets + dropped, linkDowns := x.cnt.linkDowns + 1 } })
  let s := waiting.foldl finishPacket s
  let s := s.updRouter (fun r => { r with
    linkDowns := r.linkDowns + 1, ingress := r.ingress.map own, sink := r.sink.map own, plannedIn := r.plannedIn.map own
    ort := r.ort.map mine
    writes := r.writes.map (fun w => if w.held.any (·.1 == l) then { w with held := none } else w)
    reads := r.reads.map (fun w => if w.held.any (·.1 == l) then { w with held := none } else w)
    out := r.out.map (fun o => (o.1, own o.2)) })
  let s := (List.range 16).foldl (fun s k => s.updNet k (fun n => { n with openLinks := setBit n.openLinks l false })) s
  let s := x.asm.foldl (fun s y => losePartial s (Packet.parse y.2.flatten)) s
  let s := raise s 0 11 369 none none (s.linkEvent (some l))
  let s := named.foldl (fun s k => raise s 2 11 372 (some k) none (s.linkEvent (some l))) s
  bowRetest (bowLinkDown s l x.peerDev)

/-- A partition to whose PBC a link is anchored (R384). -/
def Dev.anchorPart (s : Dev) (l : Nat) : Option Nat :=
  if !(s.link l).anchorPbc then none else
  (List.range 16).find? (fun k => bit (s.part k).net.plannedLinks l && (s.part k).plan.state == 3
    && (s.part k).time.mode != .stopped && (s.linkRec k l).isSome)

/-- The frame slot that a flit time beginning `sub` twenty-fifths of a beat into the present beat carries (R384, R387). -/
def Dev.slotAt (s : Dev) (l sub : Nat) : Option Nat :=
  if (s.link l).dlp = 0x0103 then some ((s.time.bc % 64 * 25 + sub) / 32)
  else match s.anchorPart l with
    | none => some ((s.time.bc % 64 * 25 + sub) / 16)
    | some k =>
      let t := (s.part k).time
      let base := t.slotBeat % 64 * 25
      if t.slotAge = 0 then
        let j := (base + sub) / 16
        if base ≤ 16 * j || t.ranBefore then some j else none
      else if t.slotAge = 1 then
        let j := (base + 25 + sub) / 16
        if 16 * j < base + 25 then some j else none
      else none

/-- Whether slot `j` of a frame with `n` planned slots is reserved (R385). -/
def reservedSlot (n j : Nat) : Bool := j < 88 && (j * n / 88) < ((j + 1) * n / 88)

/-- Whether slot `j` of a link is a headroom slot (R385, R387). -/
def LinkState.headroom (x : LinkState) (j : Nat) : Bool := if x.dlp = 0x0103 then 47 ≤ j else 94 ≤ j

/-- The SLOTS of a link in its frame: those of the plan to whose PBC it is anchored (R385). -/
def Dev.plannedSlots (s : Dev) (l : Nat) : Nat :=
  match s.anchorPart l with
  | some k => (match s.linkRec k l with | some r => r.slots | none => 0)
  | none => 0

/-- Assign a flit its sequence number and hold it (R356); `sent` tells that it goes out now. -/
def LinkState.hold (x : LinkState) (f : Flit) (sent : Bool) (bc : Nat) : LinkState :=
  let h := x.held ++ [⟨x.nextSeq, f, 0, sent⟩]
  { x with
    held := h, nextSeq := (x.nextSeq + 1) % 2 ^ 16, timer := if x.held.isEmpty then bc else x.timer
    stall := if 512 ≤ h.length then some bc else none }

/-- Take the head of the planned queue. -/
def LinkState.takePlanned (x : LinkState) (sent : Bool) (bc : Nat) : LinkState :=
  match x.plannedQ with
  | [] => x
  | f :: rest => { (x.hold f sent bc) with plannedQ := rest }

/-- What a flit time carries: kind, sequence number, payload. -/
structure TxFlit where
  seq : Nat
  kind : Nat
  payload : Bytes

/-- An IDLE flit. -/
def TxFlit.idle : TxFlit := ⟨0, 0, []⟩

/-- A PROBE flit with its stamp (R347). -/
def sendProbe (x : LinkState) (stamp : Nat) : LinkState × TxFlit :=
  ({ x with probes := x.probes + 1, stamps := x.stamps ++ [stamp], cnt := { x.cnt with probesSent := x.cnt.probesSent + 1 } },
    ⟨0, 2, leBytes 8 stamp⟩)

/-- A flit leaves for the first time. -/
def LinkState.countFirst (x : LinkState) (f : Flit) : LinkState :=
  if bit f.kind 4 then { x with cnt := { x.cnt with plannedFlits := x.cnt.plannedFlits + 1 } }
  else { x with cnt := { x.cnt with beFlits := x.cnt.beFlits + 1 } }

/-- The next copy of a replay: the flit, the link, and whether it would exceed REPLAY_LIMIT (R357, R359, R361). -/
def replayStep (x : LinkState) (n : Nat) : Option (LinkState × TxFlit × Bool) :=
  match x.held.dropWhile (·.seq != n) with
  | [] => none
  | h :: rest =>
    let next := rest.head?.map (·.seq)
    let h' : HeldFlit := if h.sent then { h with replays := h.replays + 1 } else { h with sent := true }
    let y := { x with replayAt := next, held := x.held.map (fun (e : HeldFlit) => if e.seq = n then h' else e) }
    let y := if h.sent then { y with cnt := { y.cnt with
        replayedFlits := y.cnt.replayedFlits + 1, maxReplays := max y.cnt.maxReplays h'.replays } } else y.countFirst h.flit
    some (y, ⟨h.seq, h.flit.kind, h.flit.payload⟩, h.sent && decide (x.replayLimit ≤ h.replays))

/-- Whether DLP 1.3 owes an acknowledgement: 16 flit times have passed without a reverse DATA flit (Table LK-9). -/
def LinkState.ackDue (x : LinkState) : Bool := x.dlp == 0x0103 && decide (16 ≤ x.quiet)

/-- What a flit time of an UP link carries (R28, R349, R359, R360, R386). An acknowledgement that DLP 1.3 owes goes with DATA or in
an IDLE flit, so a probe waits for it (R374). -/
def chooseFlit (x : LinkState) (slot : Option Nat) (slots : Nat) (waits : Bool) (bc stamp : Nat) :
    LinkState × TxFlit × Bool :=
  let resv := match slot with | some j => !waits && reservedSlot slots j | none => false
  let head := match slot with | some j => x.headroom j | none => false
  let probeFirst := match slot with | some j => x.dlp == 0x0201 && 88 ≤ j | none => false
  let full : Bool := decide (512 ≤ x.held.length)
  let x := if full then { x with cnt := { x.cnt with stallFlits := x.cnt.stallFlits + 1 } } else x
  let miss (x : LinkState) : LinkState := { x with missed := min x.plannedQ.length (x.missed + 1) }
  match x.replayAt.bind (fun n => replayStep (if resv && !x.plannedQ.isEmpty then
      (if full then miss x else x.takePlanned false bc) else x) n) with
  | some r => r
  | none =>
    let x := { x with replayAt := none }
    if x.missed ≠ 0 ∧ ¬ x.plannedQ.isEmpty then
      let x := if resv then miss x else x
      if full then (x, .idle, false)
      else match x.plannedQ with
        | [] => (x, .idle, false)
        | f :: _ =>
          let y := (x.takePlanned true bc).countFirst f
          ({ y with missed := min y.plannedQ.length (x.missed - 1) }, ⟨x.nextSeq, f.kind, f.payload⟩, false)
    else if resv then
      match x.plannedQ with
      | [] => (x, .idle, false)
      | f :: _ =>
        if full then (miss x, .idle, false)
        else ((x.takePlanned true bc).countFirst f, ⟨x.nextSeq, f.kind, f.payload⟩, false)
    else
      let probing := x.measuring && decide (x.probes < 1024) && !x.ackDue
      let vc := if head || waits || full then none
        else (List.range 6).find? (fun v => !(x.beQ.getD v []).isEmpty && decide (0 < x.credits.getD v 0))
      if probing && (probeFirst || head || vc.isNone) then
        let r := sendProbe x stamp
        (r.1, r.2, false)
      else match vc with
        | none => (x, .idle, false)
        | some v =>
          match x.beQ.getD v [] with
          | [] => (x, .idle, false)
          | f :: rest =>
            let y := (x.hold f true bc).countFirst f
            ({ y with beQ := y.beQ.set v rest, credits := y.credits.set v (y.credits.getD v 0 - 1) },
              ⟨x.nextSeq, f.kind, f.payload⟩, false)

/-- One flit time passes for the hold notices of a link: the first whose copy is due sends it, and the others whose copies are due
wait (R354; assumption 92). -/
def passHolds : List HoldSend → List HoldSend × Option HoldSend
  | [] => ([], none)
  | h :: t =>
    if h.flits % 16 < 4 then
      ({ h with flits := h.flits + 1 } :: t.map (fun e => if e.flits % 16 < 4 then e else { e with flits := e.flits + 1 }), some h)
    else
      let r := passHolds t
      ({ h with flits := h.flits + 1 } :: r.1, r.2)

/-- The notice area of a flit, and the link after it (R354). -/
def chooseNotice (x : LinkState) : LinkState × Bytes × Bool :=
  if !x.carriesNotices then (x, zeros 16, false) else
  let r := passHolds x.holds
  let x' := { x with holds := r.1 }
  let counted (x : LinkState) : LinkState := { x with cnt := { x.cnt with noticesSent := x.cnt.noticesSent + 1 } }
  match r.2 with
  | some h => (if h.flits = 0 then counted x' else x', leBytes 1 1 ++ leBytes 1 (h.flits % 16) ++ padTo 14 h.body, false)
  | none =>
    match x.notices with
    | [] => (x', zeros 16, false)
    | n :: rest =>
      if x.copies = 0 ∧ x.holds.any (fun h => decide (12 < h.flits % 16)) then (x', zeros 16, false)
      else
        let area := leBytes 1 n.1 ++ leBytes 1 x.copies ++ padTo 14 n.2
        (if x.copies = 3 then counted { x' with notices := rest, copies := 0 } else { x' with copies := x.copies + 1 }, area,
          n.1 == 5)

/-- A flit with its sideband, its notice area and its CRC (R350, R351, R355, R374). -/
def flitBytes (x : LinkState) (f : TxFlit) (area : Bytes) (withAck : Bool) : Bytes :=
  let ack := withAck && x.anyAccepted
  let nak := withAck && x.nakPending
  let flags := boolNat ack + 2 * boolNat nak + 4 * boolNat x.echoDue + 8 * boolNat (x.downFlits != 0)
  let body := leBytes 2 f.seq ++ leBytes 1 f.kind ++ zeros 1
    ++ leBytes 2 (if ack then (x.expected + 2 ^ 16 - 1) % 2 ^ 16 else 0) ++ leBytes 2 (if nak then x.expected else 0)
    ++ leBytes 1 flags ++ zeros 1
    ++ (if withAck then x.freed.flatMap (leBytes 1) else zeros 6) ++ area ++ padTo 216 f.payload
  body ++ leBytes 8 (crc64 body)

/-- FLIT_TRANSMIT (R340, R347, R350 to R366, R374): one flit time of a link that is UP, in MEASURE, or still sends DOWN. -/
def flitTransmit (s : Dev) (l sub : Nat) : Dev :=
  let x := s.link l
  let stamp := (s.time.bc * 16 + sub * 16 / 25) % 2 ^ 64
  if x.st = 4 ∨ x.st = 3 then
    let r : LinkState × TxFlit × Bool :=
      if x.st = 3 then
        (if x.probes < 1024 then (let p := sendProbe x stamp; (p.1, p.2, false)) else (x, .idle, false))
      else chooseFlit x (s.slotAt l sub) (s.plannedSlots l) (s.anchorWaits l) s.time.bc stamp
    if r.2.2 then linkDown s l 1
    else
      let y := r.1
      let f := r.2.1
      let data : Bool := f.kind % 4 == 1
      let withAck : Bool := y.dlp != 0x0103 || data || (x.ackDue && x.st == 4)
      let n := chooseNotice y
      let b := flitBytes n.1 f n.2.1 withAck
      let y := { n.1 with lastTx := b, echoDue := false, quiet := if withAck then 0 else y.quiet + 1 }
      let s := s.updLink l (fun _ => y)
      if n.2.2 then endHold s l (leAt n.2.1 2 2) (byteAt n.2.1 4) else s
  else if x.downFlits ≠ 0 then
    let b := flitBytes x .idle (zeros 16) (x.dlp != 0x0103)
    s.updLink l (fun x => { x with lastTx := b, downFlits := x.downFlits - 1 })
  else s

/-- Release the held flits that an acknowledgement of `a` covers (R356, R357). -/
def LinkState.release (x : LinkState) (a bc : Nat) : LinkState :=
  match x.held.dropWhile (·.seq != a) with
  | [] => x
  | _ :: rest =>
    { x with
      held := rest, timer := bc, stall := none
      replayAt := match x.replayAt with
        | none => none
        | some m => if rest.any (·.seq == m) then some m else rest.head?.map (·.seq) }

/-- Begin a replay from a held flit (R357, R358). -/
def startReplay (s : Dev) (l n : Nat) (timeout : Bool) : Dev :=
  let s := s.updLink l (fun x => { x with
    replayAt := some n, lastNak := some (n, s.time.bc), timer := s.time.bc
    cnt := { x.cnt with
      nakReplays := x.cnt.nakReplays + boolNat (!timeout), timeoutReplays := x.cnt.timeoutReplays + boolNat timeout } })
  s.updRouter (fun r => { r with replays := r.replays + 1 })

/-- A NAK names `n` (R356, R357). -/
def handleNak (s : Dev) (l n : Nat) : Dev :=
  let s := s.updLink l (fun x => x.release ((n + 2 ^ 16 - 1) % 2 ^ 16) s.time.bc)
  let x := s.link l
  if n = x.nextSeq ∨ ¬ x.held.any (·.seq == n) then s
  else if (match x.lastNak with | some (m, b) => m == n && decide (s.time.bc < b + x.tripBeats) | none => false) then s
  else startReplay s l n false

/-- Whether a good copy of a notice is one more of the notice acted on last: a later copy, or, where a hold notice has interrupted the
first four, one of the four that start again (R354). -/
def LinkState.seenBefore (x : LinkState) (kind copy : Nat) (body : Bytes) : Bool :=
  if kind = 1 then match x.lastHold with | some (b, c) => b == body && decide (c < copy) | none => false
  else match x.lastNotice with
    | some (k, b, c, cut) => k == kind && b == body && (decide (c < copy) || (cut && decide (c < 3)))
    | none => false

/-- A notice is accepted on a link: the first good copy counts (R354, R410). -/
def acceptNotice (s : Dev) (l kind copy : Nat) (body : Bytes) : Dev :=
  let again := (s.link l).seenBefore kind copy body
  let s := s.updLink l (fun x =>
    if kind = 1 then { x with
      lastHold := some (body, copy), lastNotice := x.lastNotice.map (fun e => (e.1, e.2.1, e.2.2.1, true)) }
    else { x with lastNotice := some (kind, body, copy, false) })
  if again then s
  else if 12 ≤ kind then staleMessage s
  else
    let s := { s with noticesIn := s.noticesIn ++ [⟨l, kind, body⟩] }
    if kind = 5 then endHold s l (bodyFence body) (bodySerial body) else s

/-- A probe's stamp and an echo against the time of acceptance, in sixteenths of a beat (R347). -/
def sample (now stamp : Nat) : Nat := (now + 2 ^ 64 - stamp) % 2 ^ 64

/-- A DATA flit is accepted: its payload joins its packet, and a packet that is whole enters the router (R352, R355, R365). -/
def acceptData (s : Dev) (l kind : Nat) (payload : Bytes) : Dev :=
  let planned := bit kind 4
  let vc := bits kind 5 3
  let key := if planned then 6 else vc
  if 6 ≤ vc ∧ ¬ planned then (if bit kind 3 then s.updRouter (fun r => { r with badKind := r.badKind + 1 }) else s) else
  let before := if bit kind 2 then [] else Sparse.get [] (s.link l).asm key
  let all := before ++ [payload]
  if !bit kind 3 then s.updLink l (fun x => { x with asm := Sparse.set [] x.asm key all })
  else
    let s := s.updLink l (fun x => { x with asm := Sparse.set [] x.asm key [] })
    let p := Packet.parse all.flatten
    let i := s.newId
    let q : InPacket := ⟨i.1, some l, if planned then 6 else vc, all.length, s.time.bc, p, 0, false⟩
    i.2.updRouter (fun r => if planned then { r with plannedIn := r.plannedIn ++ [q] } else { r with ingress := r.ingress ++ [q] })

/-- The codewords that begin in a flit or frame, by the symbol errors of each, are counted (R339, R375): up to 15 are corrected. -/
def countCodewords (s : Dev) (l : Nat) (shared : Bool) (errors : List Nat) : Dev :=
  let fixed := errors.filter (fun e => decide (0 < e) && decide (e ≤ 15))
  let bad := (errors.filter (15 < ·)).length
  let s := s.updLink l (fun x => { x with
    cwBad := match errors.getLast? with | some e => decide (15 < e) | none => shared && x.cwBad
    cnt := { x.cnt with
      cwCorrected := x.cnt.cwCorrected + fixed.length, symbolsCorrected := x.cnt.symbolsCorrected + fixed.sum
      cwUncorrectable := x.cnt.cwUncorrectable + bad } })
  s.updRouter (fun r => { r with uncorrectable := r.uncorrectable + bad })

/-- Whether a flit has a bit in an uncorrectable codeword (R339): in the one of the flit before, where it is `shared`, or in one that
begins in it. -/
def LinkState.hit (x : LinkState) (shared : Bool) (errors : List Nat) : Bool := (shared && x.cwBad) || errors.any (15 < ·)

/-- The start of the first flit time at or after a moment, both in twenty-fifths of a beat: the earliest in which a replay could begin
(R345, R384). -/
def LinkState.nextFlitTime (x : LinkState) (m : Nat) : Nat :=
  let w := if x.dlp = 0x0103 then 32 else 16
  ceilDiv m w * w

/-- FLIT_RECEIVE (R339, R347, R354 to R357, R365, R366, R368): a flit time of the receiving direction that ends `sub`
twenty-fifths of a beat into the present beat; whether its first bits stand in the codeword of the last bits before it, and the symbol
errors of each codeword that begins in it. -/
def flitReceive (s : Dev) (l sub : Nat) (f : Bytes) (shared : Bool) (errors : List Nat) : Dev :=
  let x := s.link l
  if x.st ≠ 4 ∧ x.st ≠ 3 then s else
  let s := countCodewords s l shared errors
  let good : Bool := !x.hit shared errors && f.length == 256 && leAt f 248 8 == crc64 (f.take 248)
  if !good then
    let s := s.updLink l (fun x => { x with
      badRun := x.badRun + 1, nakPending := true, cnt := { x.cnt with crcErrors := x.cnt.crcErrors + 1 } })
    if 64 ≤ (s.link l).badRun then linkDown s l 2 else s
  else
    let now := s.time.bc * 16 + ceilDiv (sub * 16) 25
    let back := ceilDiv (x.nextFlitTime (s.time.bc * 25 + sub) * 16) 25
    let kind := byteAt f 2
    let data : Bool := kind % 4 == 1
    let flags := byteAt f 8
    let ackFlit : Bool := x.dlp != 0x0103 || data || bit flags 0 || bit flags 1
    let s := s.updLink l (fun x => { x with badRun := 0 })
    let s := if bit flags 0 then s.updLink l (fun x => x.release (leAt f 4 2) s.time.bc) else s
    let s := if bit flags 1 then handleNak s l (leAt f 6 2) else s
    let s := if bit flags 2 then s.updLink l (fun x =>
        match x.stamps with
        | [] => x
        | t :: rest => { x with stamps := rest, rttMax := max x.rttMax (sample back t), rttCount := x.rttCount + 1 }) else s
    if bit flags 3 && x.st == 4 then linkDown s l 4
    else
      let s := if !ackFlit then s else s.updLink l (fun x =>
        let seen := (List.range 6).map (fun v => byteAt f (10 + v))
        { x with
          credits := (List.range 6).map (fun v =>
            x.credits.getD v 0 + (seen.getD v 0 + 256 - x.lastCredit.getD v 0) % 256)
          lastCredit := seen })
      let s := if byteAt f 16 ≠ 0 ∧ x.carriesNotices then acceptNotice s l (byteAt f 16) (byteAt f 17) (slice f 18 14) else s
      if kind % 4 = 2 then s.updLink l (fun x => { x with
          echoDue := true, latMax := max x.latMax (sample now (leAt f 32 8)), latCount := x.latCount + 1 })
      else if !data || x.st != 4 then s
      else
        let d := (leAt f 0 2 + 2 ^ 16 - (s.link l).expected) % 2 ^ 16
        if d = 0 then
          let s := s.updLink l (fun x => { x with
            expected := (x.expected + 1) % 2 ^ 16, nakPending := false, anyAccepted := true })
          acceptData s l kind (slice f 32 216)
        else if d ≤ 32767 then s.updLink l (fun x => { x with nakPending := true })
        else s.updLink l (fun x => { x with cnt := { x.cnt with duplicates := x.cnt.duplicates + 1 } })

/-- REPLAY_TIMEOUT (R358). -/
def replayTimeout (s : Dev) (l : Nat) : Dev :=
  let x := s.link l
  match x.held with
  | [] => s
  | h :: _ => if x.st = 4 ∧ x.timer + x.replayTimeout ≤ s.time.bc then startReplay s l h.seq true else s

/-- LANE_LOCK_LOSS (Table LK-6): lane lock lost for 64 flit times. Where this flit time is also the 64th without a good flit,
DOWN_CAUSE records 2 (R369). -/
def laneLockLoss (s : Dev) (l : Nat) : Dev := linkDown s l (if 63 ≤ (s.link l).badRun then 2 else 3)

/-- STALL_TIMEOUT (Table LK-6): a stall of 65,536 beats. -/
def stallTimeout (s : Dev) (l : Nat) : Dev :=
  match (s.link l).stall with
  | some b => if b + 65536 ≤ s.time.bc then linkDown s l 6 else s
  | none => s

/-- A link begins DETECT anew (R341, R373). -/
def beginDetect (s : Dev) (l : Nat) : Dev :=
  s.updLink l (fun x => { x with
    st := 1, dlp := 0, latency := 0, roundTrip := 0, latValid := false, long := false, phase := 0, goodRun := 0
    downFlits := 0, eqStatus := [0, 0], taps := List.replicate 10 0 })

/-- Whether a write of a link entry marked RWS is refused: a partition whose running plan names it is not stopped (R376). -/
def Dev.linkBusy (s : Dev) (l : Nat) : Bool := !(s.planNames l).isEmpty

/-- LINK_ENABLE_WRITE (R341, R376): whether it is accepted, and the state. Firmware at a device-fatal error is never
refused. -/
def linkEnableWrite (s : Dev) (l : Nat) (v force : Bool) : Bool × Dev :=
  if 64 ≤ l ∨ (s.linkBusy l ∧ ¬ force) then (false, s)
  else
    let s := s.updLink l (fun x => { x with enable := v, written := true })
    if v then (true, if (s.link l).st = 0 then beginDetect s l else s)
    else
      let s := linkDown s l 5
      (true, s.updLink l (fun x => { x with st := 0, measuring := false }))

/-- The versions that this device offers (R342). -/
def Dev.offered (s : Dev) : Nat := s.router.dlpAllow % 4

/-- DETECT_LOCK (R344): both lanes have locked on the far end's sequence. -/
def detectLock (s : Dev) (l : Nat) : Dev :=
  if (s.link l).st = 1 then
    s.updLink l (fun x => { x with
      st := 2, phase := 1, goodRun := 0, offers := s.offered, frames := 0, rateAt := 0, tail := none, cwBad := false })
  else s

/-- A link leaves TRAIN for DOWN (R341, R342). -/
def trainFail (s : Dev) (l cause : Nat) : Dev :=
  s.updLink l (fun x => { x with st := 5, downCause := cause, lastDownBc := s.time.bc })

/-- TRAIN_TIMEOUT (R341): a step failed, or 12 ms have passed. -/
def trainTimeout (s : Dev) (l : Nat) : Dev := if (s.link l).st = 2 then trainFail s l 8 else s

/-- One equaliser request of a lane (Table LK-1a): the taps and the status after it. The ends of a tap's range are the
implementation's (assumption 54). -/
def eqRequest (taps : List Int) (lane req : Nat) : List Int × Nat :=
  let tap := req % 8
  let i := 5 * lane + tap
  let v := taps.getD i 0
  if 5 ≤ tap then (taps, tap + 2 * 8)
  else match bits req 3 2 with
    | 1 => if v < Config.tapHigh i then (taps.set i (v + 1), tap) else (taps, tap + 8)
    | 2 => if Config.tapLow i < v then (taps.set i (v - 1), tap) else (taps, tap + 8)
    | 3 => (taps.set i 0, tap)
    | _ => (taps, tap)

/-- A link begins MEASURE (R347). -/
def LinkState.startMeasure (x : LinkState) : LinkState :=
  { x with measuring := true, probes := 0, latMax := 0, latCount := 0, rttMax := 0, rttCount := 0, stamps := []
           echoDue := false }

/-- A link enters MEASURE with fresh counts (R347, R373). -/
def enterMeasure (s : Dev) (l : Nat) : Dev :=
  s.updLink l (fun x => { x.startMeasure with
    st := 3, nextSeq := 0, held := [], replayAt := none, lastNak := none, stall := none, credits := x.peerBuffers
    lastCredit := List.replicate 6 0, expected := 0, nakPending := false, anyAccepted := false
    freed := List.replicate 6 0, asm := [], badRun := 0, lastNotice := none, lastHold := none, quiet := 0, missed := 0 })

/-- The end moves to the next training phase; in RATE it names the frame after which it changes rate, and in CONFIRM it has 16 frames
left to send (Table LK-1b). -/
def LinkState.nextPhase (x : LinkState) : LinkState :=
  let enter (p : Nat) : LinkState := { x with phase := p, goodRun := 0 }
  match x.phase with
  | 1 => enter 2
  | 2 => if x.dlp = 0x0201 then { enter 3 with rateAt := x.frames + 1024 } else enter 4
  | 3 => enter 4
  | _ => { x with tail := some 16 }

/-- The training frame that this end sends now, with its equaliser requests for the two lanes (Table LK-1a, R342, R343). -/
def Dev.ownFrame (s : Dev) (l r0 r1 : Nat) : Bytes :=
  let x := s.link l
  let body := leBytes 4 0x52545645 ++ leBytes 1 x.phase ++ leBytes 1 x.offers ++ leBytes 1 2 ++ leBytes 1 s.time.sync
    ++ leBytes 4 (s.deviceId % 2 ^ 20) ++ leBytes 1 l ++ zeros 1 ++ (List.replicate 6 32).flatMap (leBytes 1)
    ++ leBytes 2 r0 ++ leBytes 2 r1 ++ leBytes 2 (x.eqStatus.getD 0 0) ++ leBytes 2 (x.eqStatus.getD 1 0)
    ++ leBytes 4 (if x.phase = 3 then x.rateAt else 0) ++ leBytes 4 x.frames ++ zeros 20
  body ++ leBytes 8 (crc64 body)

/-- This end sends its training frame (R344). -/
def sendFrame (s : Dev) (l r0 r1 : Nat) : Dev :=
  let b := s.ownFrame l r0 r1
  s.updLink l (fun x => { x with lastTx := b, frames := x.frames + 1, tail := x.tail.map (· - 1) })

/-- Whether an equaliser request word shows EQ_DONE (Table LK-1a). -/
def eqDone (w : Nat) : Bool := bit w 5

/-- Whether this end's own work in its phase is done, with the far end's frame `f` (Table LK-1b). -/
def LinkState.workDone (x : LinkState) (f : Bytes) (r0 r1 : Nat) : Bool :=
  let tuned := eqDone r0 && eqDone r1 && eqDone (leAt f 20 2) && eqDone (leAt f 22 2)
  match x.phase with
  | 1 => tuned
  | 2 => x.dlp != 0
  | 3 => tuned && decide (x.rateAt < x.frames) && decide (x.rateAt < leAt f 32 4)
  | _ => true

/-- A link's training has recorded PEER_DEVID, which was `before`: this device's own ID there is a conflict (R631). -/
def idCheck (s : Dev) (l before : Nat) : Dev :=
  let own := s.deviceId % 2 ^ 20
  if (s.link l).peerDev = own ∧ own ≠ 0xFFFFF ∧ (before ≠ own ∨ ¬ s.mgmt.idConflict) then
    { s with mgmt := { s.mgmt with idConflict := true, idConflicts := s.mgmt.idConflicts + 1 } }
  else s

/-- A good frame of the far end is acted on (R342 to R344). -/
def takeFrame (s : Dev) (l : Nat) (f : Bytes) (r0 r1 : Nat) : Dev :=
  let x := s.link l
  let far := byteAt f 4
  let q0 := eqRequest x.taps 0 (leAt f 20 2)
  let q1 := eqRequest q0.1 1 (leAt f 22 2)
  let common := x.offers &&& byteAt f 5
  let s := s.updLink l (fun x => { x with
    taps := q1.1, eqStatus := [q0.2, q1.2]
    goodRun := if x.phase ≤ far then x.goodRun + 1 else 0
    rateAt := if x.phase = 3 ∧ far = 3 then max x.rateAt (leAt f 28 4) else x.rateAt })
  let s := if x.phase < 2 then s else s.updLink l (fun x => { x with
    peerDev := leAt f 8 4 % 2 ^ 20, peerLink := byteAt f 12, peerGen := byteAt f 6, peerSync := byteAt f 7
    peerBuffers := (slice f 14 6).map (·.toNat)
    dlp := if bit common 1 then 0x0201 else if bit common 0 then 0x0103 else 0 })
  let s := if 2 ≤ x.phase then idCheck s l x.peerDev else s
  if x.phase = 2 ∧ common = 0 then trainFail s l 7
  else
    let need := if x.phase = 4 then 64 else 8
    if (s.link l).workDone f r0 r1 ∧ need ≤ (s.link l).goodRun ∧ x.tail = none then s.updLink l (·.nextPhase) else s

/-- TRAINING_FRAME (R339, R342 to R344): one frame time of a link in TRAIN. This end sends its frame, with its receivers' equaliser
requests `r0` and `r1`, and acts on the far end's frame if its CRC is good (assumption 92). After 16 further frames in CONFIRM the
link enters MEASURE. -/
def trainingFrame (s : Dev) (l : Nat) (f : Bytes) (r0 r1 : Nat) (errors : List Nat) : Dev :=
  if (s.link l).st ≠ 2 then s else
  let s := sendFrame (countCodewords s l true errors) l r0 r1
  if (s.link l).tail = some 0 then enterMeasure s l
  else
    let good : Bool := f.length == 64 && leAt f 0 4 == 0x52545645 && leAt f 56 8 == crc64 (f.take 56)
    if good then takeFrame s l f r0 r1 else s.updLink l (fun x => { x with goodRun := 0 })

/-- Publish the figures of a measurement (R346 to R348, R358). -/
def LinkState.publish (x : LinkState) (synced : Bool) : LinkState :=
  { x with
    measuring := false, roundTrip := x.rttMax, latency := if synced then x.latMax else 0, latValid := synced
    long := decide ((if x.dlp = 0x0103 then 640 * 16 else 320 * 16) < x.rttMax) }

/-- MEASURE_COMPLETE (R341, R347, R349, R373): each figure to be published is the largest of its 1,024 samples; the latency is
published only if both devices are SYNCED. For a repeat, `far` tells whether the far end is SYNCED, which it last reported in
TRAIN. -/
def measureComplete (s : Dev) (l : Nat) (far : Bool) : Dev :=
  let x := s.link l
  let synced : Bool := s.time.sync == 2 && (if x.st = 3 then x.peerSync == 2 else far)
  let full : Bool := decide (1024 ≤ x.rttCount) && (!synced || decide (1024 ≤ x.latCount))
  if !x.measuring || !full then s
  else if x.st = 3 then
    s.updLink l (fun x => { x.publish synced with
      st := 4, gen := if x.wasUp then x.gen + 1 else x.gen, wasUp := true, timer := s.time.bc
      replayTimeout := max 32 (2 * ceilDiv x.rttMax 16 + 8) })
  else if x.st = 4 then s.updLink l (fun x => x.publish synced)
  else s

/-- REMEASURE (R349): refused while a running plan names the link; it begins a repeat on an UP link. -/
def remeasure (s : Dev) (l : Nat) : Bool × Dev :=
  if 64 ≤ l ∨ s.linkBusy l ∨ (s.link l).st ≠ 4 then (false, s)
  else (true, s.updLink l (·.startMeasure))

/-- LINK_RETRAIN (R373). -/
def linkRetrain (s : Dev) (l : Nat) : Dev :=
  let x := s.link l
  if x.st = 5 ∧ x.enable ∧ ¬ s.linkBusy l then beginDetect s l else s

/-- Firmware measures again every UP link without a valid latency when the device enters SYNCED (R606). -/
def remeasureAll (s : Dev) : Dev :=
  (List.range 64).foldl (fun s l =>
    if (s.link l).st = 4 ∧ ¬ (s.link l).latValid ∧ ¬ s.linkBusy l then s.updLink l (·.startMeasure) else s) s

end Sys2Proof.Machine
end

