-- ==== Sys2Proof/Machine/Select.lean ====
section
/-!
DEFINITION. Token selection (15): grammars, logits, greedy and sampled selection.
-/
namespace Sys2Proof.Machine

/-- Change the token-selection unit of partition `k`. -/
def Dev.updServe (s : Dev) (k : Nat) (f : Serving → Serving) : Dev :=
  s.updPart k (fun p => { p with serving := f p.serving })
/-- The token-selection unit of partition `k`. -/
def Dev.serve (s : Dev) (k : Nat) : Serving := (s.part k).serving
/-- Change the serving totals. -/
def Dev.updSt (s : Dev) (f : ServeTotals → ServeTotals) : Dev := { s with serveTotals := f s.serveTotals }

/-- The null index of IDX32 (R4). -/
def nullIx : Nat := 0xFFFFFFFF

/-- `n` bytes of the grammar store, as a number. -/
def Serving.gram (v : Serving) (off n : Nat) : Nat :=
  leNat ((List.range n).map (fun i => Sparse.get 0 v.grammar (off + i)))

/-- A committed grammar image, read in place (Tables SV-10, SV-11). -/
structure Gram where
  store : Serving
  base : Nat

/-- A field of an image. -/
def Gram.at (g : Gram) (off n : Nat) : Nat := g.store.gram (g.base + off) n
/-- VOCAB. -/
def Gram.vocab (g : Gram) : Nat := g.at 0 4
/-- CLASSES. -/
def Gram.classes (g : Gram) : Nat := g.at 4 2
/-- STATES, or COUNT of an allow-list. -/
def Gram.states (g : Gram) : Nat := g.at 8 4
/-- TRANSITIONS. -/
def Gram.transitions (g : Gram) : Nat := g.at 12 4
/-- START_STATE. -/
def Gram.start (g : Gram) : Nat := g.at 16 4
/-- KIND: an allow-list rather than an automaton. -/
def Gram.isList (g : Gram) : Bool := g.at 20 1 == 1
/-- The class of a token. -/
def Gram.classOf (g : Gram) (t : Nat) : Nat := g.at (32 + 2 * t) 2
/-- Token `i` of an allow-list. -/
def Gram.listed (g : Gram) (i : Nat) : Nat := g.at (32 + 4 * i) 4
/-- The offset of the state records. -/
def Gram.stateBase (g : Gram) : Nat := 32 + ceilDiv (2 * g.vocab) 8 * 8
/-- A state record. -/
def Gram.stateRec (g : Gram) (s : Nat) : Nat := g.at (g.stateBase + 8 * s) 8
/-- A transition record. -/
def Gram.trans (g : Gram) (i : Nat) : Nat := g.at (g.stateBase + 8 * g.states + 8 * i) 8

/-- The transition of a state for a class (R464, R465). -/
def Gram.transOf (g : Gram) (st cls : Nat) : Option Nat :=
  let r := g.stateRec st
  ((List.range (bits r 32 13)).map (fun i => g.trans (bits r 0 32 + i))).find? (fun x => bits x 0 14 == cls && cls != 0)

/-- The image of a grammar slot. -/
def Serving.image (v : Serving) (slot : Nat) : Option Gram :=
  match v.slots.getD slot none with
  | some p => some ⟨v, p.1⟩
  | none => none

/-- The transition of a token under an automaton, where it is enabled (R465). -/
def Gram.enabled (g : Gram) (st : Nat) (depth t : Nat) : Option Nat :=
  match g.transOf st (g.classOf t) with
  | none => none
  | some x =>
    match bits x 14 2 with
    | 1 => if depth < 64 then some x else none
    | 2 => if 0 < depth then some x else none
    | _ => some x

/-- Whether a token is allowed (R465). -/
def Serving.allowed (v : Serving) (g : GramState) (t : Nat) : Bool :=
  match g.slot.bind v.image with
  | none => true
  | some im =>
    if im.isList then (List.range im.states).any (fun i => im.listed i == t)
    else (im.enabled g.st g.stack.length t).isSome

/-- Apply a token's transition: the new state, and whether the grammar is complete (R465). -/
def Serving.applyToken (v : Serving) (g : GramState) (t : Nat) : GramState × Bool :=
  match g.slot.bind v.image with
  | none => (g, false)
  | some im =>
    if im.isList then (g, false)
    else match im.enabled g.st g.stack.length t with
      | none => (g, false)
      | some x =>
        let next := bits x 16 16
        match bits x 14 2 with
        | 1 => ({ g with st := next, stack := bits x 32 16 :: g.stack }, false)
        | 2 => ({ g with st := g.stack.headD 0, stack := g.stack.drop 1 }, false)
        | 3 => ({ g with st := next }, true)
        | _ => ({ g with st := next }, false)

/-- Element size of LOGIT_FMT. -/
def ServeConfig.elem (c : ServeConfig) : Nat := if c.logitFmt = 1 then 4 else 2
/-- NC (R463). -/
def ServeConfig.chunks (c : ServeConfig) : Nat := ceilDiv (c.vocab * c.elem) 2048
/-- The address of logit `t` of position `q` (R463). -/
def ServeConfig.logitAddr (c : ServeConfig) (q t : Nat) : Nat :=
  let o := t * c.elem
  let ch := o / 2048
  c.logitBase + ch % c.channels * 0x80000000 + (q * ceilDiv c.chunks c.channels + ch / c.channels) * 2048 + o % 2048

/-- The value of logit `t` of position `q`. -/
def Dev.logit (s : Dev) (c : ServeConfig) (q t : Nat) : Val :=
  let w := leNat (s.bytesAt (c.logitAddr q t) c.elem)
  if c.logitFmt = 1 then fp32.decode w else bf16.decode w

/-- What a selection finds: its token, the NaN logits removed, and a top-p prefix that falls short (R466, R467). -/
structure Selection where
  token : Option Nat
  nans : Nat
  truncated : Bool
deriving DecidableEq, Repr

/-- A candidate: its logit and its token ID. -/
abbrev Candidate := Val × Nat

/-- A candidate that ranks before another: larger logit, then lower token ID (R467). -/
def ranksBefore (a b : Candidate) : Bool := Val.lt b.1 a.1 || (!Val.lt a.1 b.1 && decide (a.2 < b.2))

/-- Insert a candidate in rank order. -/
def insertRank (a : Candidate) : List Candidate → List Candidate
  | [] => [a]
  | b :: t => if ranksBefore a b then a :: b :: t else b :: insertRank a t

/-- The first `n` candidates in rank order. -/
def topRank (n : Nat) (l : List Candidate) : List Candidate := l.foldl (fun r a => (insertRank a r).take n) []

/-- Whether a logit is −∞. -/
def Val.isNegInf : Val → Bool
  | .inf true => true
  | _ => false

/-- The weight of a candidate in units of 2^−149 (R467, step 1): 1 where the largest logit is +∞. -/
def weightOf (m temp l : Val) : Nat :=
  if m.isInf then 2 ^ 149
  else
    let z := match temp with
      | .fin _ t => rn32 ((l.add m.neg).mul (.fin false ⟨t.d, t.n⟩))
      | _ => .nan
    match rn32 (sfuExact 0 z) with
    | .fin _ e => e.n * 2 ^ 149 / e.d
    | _ => 0

/-- The shortest prefix whose weight reaches a share of the whole; the second component tells that none does (R467, step 4). -/
def topPrefix (p : Mag) (all : Nat) : List (Nat × Nat) → Nat → List (Nat × Nat) × Bool
  | [], _ => ([], true)
  | x :: t, acc =>
    if p.n * all ≤ (acc + x.1) * p.d then ([x], false)
    else
      let r := topPrefix p all t (acc + x.1)
      (x :: r.1, r.2)

/-- The first candidate whose cumulative weight passes u × S (R467, step 5). -/
def drawToken (u total : Nat) : List (Nat × Nat) → Nat → Option Nat
  | [], _ => none
  | x :: t, acc => if u * total < (acc + x.1) * 2 ^ 32 then some x.2 else drawToken u total t (acc + x.1)

/-- A magnitude of an FP32 encoding. -/
def magOf (w : Nat) : Mag := match fp32.decode w with | .fin _ m => m | _ => .ofNat 1

/-- A sampled selection among the remaining candidates (R467). -/
def sampleToken (f : Sampling) (u : Nat) (l : List Candidate) : Option Nat × Bool :=
  let infs := l.filter (fun a => a.1.isInf && !a.1.isNeg)
  let l := if infs.isEmpty then l.filter (fun a => !a.1.isInf) else infs
  let kept := topRank (if f.topK = 0 then 1024 else f.topK) l
  match kept with
  | [] => (none, false)
  | a :: _ =>
    let w (x : Candidate) : Nat := weightOf a.1 (fp32.decode f.temp) x.1
    let all := (l.map w).foldl (· + ·) 0
    let cut := topPrefix (magOf f.topP) all (kept.map (fun x => (w x, x.2))) 0
    let total := (cut.1.map (·.1)).foldl (· + ·) 0
    (drawToken u total cut.1 0, cut.2)

/-- A selection at position `p` from the logits of position `q`, under a grammar state (R466 to R468). -/
def selectToken (s : Dev) (v : Serving) (c : ServeConfig) (g : GramState) (f : Sampling) (draft : Bool) (q p : Nat) :
    Selection :=
  let l : List Candidate := ((List.range c.vocab).filter (v.allowed g)).map (fun t => (s.logit c q t, t))
  let nans := (l.filter (fun a => a.1.isNan)).length
  let l := l.filter (fun a => !a.1.isNan)
  if l.all (fun a => a.1.isNegInf) then ⟨none, nans, false⟩
  else if bit f.mode (boolNat draft) then
    let r := sampleToken f (randomWord f.seed p (if draft then 0x7F01 else 0x7F00) 0) l
    ⟨r.1, nans, r.2⟩
  else ⟨(topRank 1 l).head?.map (·.2), nans, false⟩

/-- Put a request of `n` bytes at `a` into the unit's memory queue (Table SV-1, R280). -/
def postUnit (s : Dev) (k a n : Nat) (write : Bool) (owner : Option Nat) : Dev :=
  if n = 0 then s
  else
    let r : UnitReq := ⟨s.accessSeq, a, n, write, owner, if write then writeCost a n else readCost a n⟩
    { s with accessSeq := s.accessSeq + 1 }.updServe k (fun v => { v with memq := v.memq ++ [r] })

/-- The reads of the logits at position `q` (R463). -/
def postLogits (s : Dev) (k : Nat) (c : ServeConfig) (q : Nat) : Dev :=
  (List.range c.chunks).foldl (fun s i => postUnit s k (c.logitAddr q (i * (2048 / c.elem))) 2048 false none) s

/-- Count a selection from the logits at position `q`, whose chunks are read (R463, Table SV-19). -/
def countSelection (s : Dev) (k : Nat) (c : ServeConfig) (q : Nat) (r : Selection) : Dev :=
  (postLogits s k c q).updSt (fun t => { t with
    selections := t.selections + 1, nanLogits := t.nanLogits + r.nans
    topPTruncations := t.topPTruncations + boolNat r.truncated })

end Sys2Proof.Machine
end

