-- ==== Sys2Proof/Machine/Channels.lean ====
section
/-!
DEFINITION. Memory channels (10, 18): slots, the page decoder, scrub, injection.
-/
namespace Sys2Proof.Machine

/-- Slots per frame of a channel (Table ME-3). -/
def frameSlots (c : Nat) : Nat := if c < 256 then 320 else 144

/-- Refresh slots of a frame (Table ME-3). -/
def refreshSlots (c : Nat) : Nat := if c < 256 then 16 else 12

/-- Control-plane slots of a channel's frame: those of its partition (Table ME-3). -/
def Dev.cpSlots (s : Dev) (c : Nat) : Nat :=
  match s.partOfChannel c with
  | some k => if c < 256 then (s.part k).hbmCp else (s.part k).capCp
  | none => if c < 256 then 16 else 12

/-- Whether slot `j` of a frame begins in or before beat `b` of the frame (Table ME-3). -/
def slotBegun (c j b : Nat) : Bool := if c < 256 then j < 5 * (b + 1) else 4 * j < 9 * (b + 1)

/-- The channels at which a memory-queue request has still to be performed (R300). -/
def MqEntry.channels (e : MqEntry) : List Nat :=
  match e.phase with
  | .access | .decode => if e.op = .move then [channelOf e.addr, channelOf e.dest] else [channelOf e.addr]
  | .second => [channelOf e.dest]
  | .landing | .complete => []

/-- The channel a memory-queue request waits at, while it waits for slots (R280, R537). A write waits from when its lines have
left the port (R283). -/
def MqEntry.waitsAt (e : MqEntry) : Option Nat :=
  if e.left = 0 ∨ e.inPort ≠ 0 then none else
  match e.phase with
  | .access | .decode => some (channelOf e.addr)
  | .second => some (channelOf e.dest)
  | .landing | .complete => none

/-- The request of a memory queue whose turn it is at a channel: the oldest that has still to be performed there, where it waits
for slots (R300). -/
def MemQueue.turn (q : MemQueue) (c : Nat) : Option MqEntry :=
  match q.entries.find? (fun e => e.channels.contains c) with
  | some e => if e.waitsAt = some c then some e else none
  | none => none

/-- The oldest memory-queue request that waits at a channel: its tile and itself. -/
def Dev.oldestMq (s : Dev) (c : Nat) : Option (Nat × MqEntry) :=
  (s.tiles.filterMap (fun x => (x.2.mq.turn c).map (fun e => (x.1, e)))).foldl
    (fun best x => match best with
      | none => some x
      | some y => if x.2.id < y.2.id then some x else some y) none

/-- The oldest planned landing that waits at a channel. -/
def Dev.oldestLanding (s : Dev) (c : Nat) : Option PlannedLanding :=
  s.plannedLandings.find? (fun p => channelOf p.addr == c)

/-- The oldest control-plane access that waits at a channel; one that reads further sectors for the page code takes planned
slots only (R282). -/
def Dev.oldestCp (s : Dev) (c : Nat) (plan : Bool) : Option CpAccess :=
  s.cp.find? (fun a => channelOf a.addr == c && a.left != 0 && (plan || !a.decode))

/-- Change a request of a tile. -/
def Dev.updMqEntry (s : Dev) (t id : Nat) (f : MqEntry → MqEntry) : Dev :=
  s.updTile t (·.updMq (fun q => { q with entries := q.entries.map (fun e => if e.id = id then f e else e) }))

/-- The pages that `n` bytes from `a` touch. -/
def pagesOf (a n : Nat) : List Nat := if n = 0 then [] else List.range' (a / 2048) ((a + n - 1) / 2048 - a / 2048 + 1)

/-- The pages of a read in whose sectors an uncorrectable word was found (R537). -/
def Dev.pagesToDecode (s : Dev) (a n : Nat) : List Nat :=
  let sec := a / 64 * 64
  let len := (a + n + 63) / 64 * 64 - sec
  let bad := (s.faultySpan sec len).filter (fun w => s.wordClassAt w == .uncorrectable)
  (pagesOf a n).filter (fun p => bad.any (fun w => w / 256 == p))

/-- Sectors of a page that hold a word to be rewritten; no parity word is ever in error in the model, so the parity sector
stays (R539, R550). -/
def Dev.backCost (s : Dev) (page : Nat) : Nat :=
  ((List.range 32).filter (fun i =>
    (s.faultySpan (2048 * page + 64 * i) 64).any (fun w => s.wordClassAt w != .poisoned))).length

/-- Put a control-plane access of a given cost into its channel's queue. -/
def addCpCost (s : Dev) (write : Bool) (a n cost : Nat) (own : CpOwner) : Dev :=
  let i := s.newId
  { i.2 with cp := s.cp ++ [⟨i.1, write, a, [], n, cost, false, own⟩] }

/-- The page decoder finishes pages that a read needs: a page that decodes is counted and written back, another is counted
under the reader's class (R537, R539, Table IN-6). -/
def decodePages (s : Dev) (pages : List Nat) (cls : Nat) (part tile : Option Nat) : Dev :=
  pages.foldl (fun s p =>
    if pageDecodes s p then
      addCpCost (countCorrectedPage s p part) true (2048 * p) 2048 (s.backCost p) (.writeback false)
    else countBadPage s p cls part tile) s

/-- The data of a memory-queue read and the faults that travel with them: words of a decoded page as rebuilt, lost words as
poison, other words as stored (R532, R537). -/
def readData (s : Dev) (a n : Nat) (pages : List Nat) : Bytes × List (Nat × WordFault) :=
  let base := copyBytes s a n
  (s.faultySpan a n).foldl (fun d w =>
    let i := w - a / 8
    let rebuilt := pages.contains (w / 256) && pageDecodes s (w / 256)
    if s.wordClassAt w = .poisoned then d
    else if rebuilt then (overlay d.1 (8 * i) (leBytes 8 (s.rebuiltWord w)), Sparse.erase d.2 i)
    else if (s.wordClassAt w).lost then (overlay d.1 (8 * i) (zeros 8), Sparse.insert d.2 i .poison)
    else d) base

/-- The landings of a read's row (R285, R289). -/
def rowLandings (id off : Nat) (d : Bytes) (fl : List (Nat × WordFault)) : List Landing :=
  let l := lineParts (d.length / 128 + 2) off d
  l.map (fun p =>
    let first := (p.1 - off) / 8
    ⟨.mq id, p.1, p.2, fl.filterMap (fun f =>
      if first ≤ f.1 ∧ f.1 < first + p.2.length / 8 then some (f.1 - first, f.2) else none)⟩)

/-- A memory-queue read has its data: a move goes on to its destination, a read or gather lands (R285, R287). -/
def mqHasData (s : Dev) (t : Nat) (e : MqEntry) (pages : List Nat) : Dev :=
  let r := readData s e.addr e.len pages
  if e.op = .move then
    s.updMqEntry t e.id (fun x => { x with data := r.1, faults := r.2, phase := .second, left := writeCost e.dest e.len })
  else
    let l := rowLandings e.id e.offset r.1 r.2
    addLandings (s.updMqEntry t e.id (fun x => { x with
      phase := .landing, left := 0, landing := l.length, data := r.1, faults := r.2 })) t l

/-- Where the data of a request that wait to be written will go. -/
def MqEntry.target (e : MqEntry) : Option Nat :=
  match e.phase with
  | .access => if e.pays then some e.addr else none
  | .second => some e.dest
  | _ => none

/-- Data that wait to be written at `b`, after a write to `a`: in each shared word that `won` names, they are replaced by what
stands in memory. -/
def Dev.replaced (s : Dev) (won : Nat → Bool) (b : Nat) (d : Bytes) : Bytes :=
  d.zipIdx.map (fun x => if won ((b + x.2) / 8) then s.byte (b + x.2) else x.1)

/-- The memory that a move will write whose source has not been read yet. -/
def MqEntry.later (e : MqEntry) : Option Nat :=
  match e.op, e.phase with
  | .move, .access | .move, .decode => some e.dest
  | _, _ => none

/-- A write has been performed that others which still wait are not ordered with (R304): writes of other tiles, and where it is
itself a tile's (`own`), planned landings and control-plane writes. In each shared word a free bit says whether its value or the
later one stays. -/
def settleRaces (s : Dev) (own : Option Nat) (a n : Nat) : Dev :=
  let hitMq (t : Nat) (e : MqEntry) : Bool := own != some t
    && ((match e.target with | some b => rangesMeet a n b e.data.length | none => false)
      || (match e.later with | some b => rangesMeet a n b e.len | none => false))
  let hitLanding (p : PlannedLanding) : Bool := own.isSome && rangesMeet a n p.addr p.data.length
  let hitCp (c : CpAccess) : Bool := own.isSome && c.write && rangesMeet a n c.addr c.data.length
  if s.tiles.any (fun x => x.2.mq.entries.any (hitMq x.1)) || s.plannedLandings.any hitLanding || s.cp.any hitCp then
    let f := s.takeFree (n / 8 + 2)
    let s := f.2
    let won (w : Nat) : Bool := decide (a / 8 ≤ w) && decide (w ≤ (a + n - 1) / 8) && bit f.1 (w - a / 8)
    let mix (t : Nat) (e : MqEntry) : MqEntry :=
      if !hitMq t e then e else
      match e.target with
      | some b =>
        { e with
          data := s.replaced won b e.data
          faults := (s.faultsAt b e.data.length).foldl (fun l x => if won (b / 8 + x.1) then Sparse.insert l x.1 x.2 else l)
            (e.faults.filter (fun x => !won (b / 8 + x.1))) }
      | none => { e with yielded := e.yielded ++ (wordSpan a n).filter won }
    { s with
      tiles := s.tiles.map (fun x => (x.1, { x.2 with mq := { x.2.mq with entries := x.2.mq.entries.map (mix x.1) } }))
      plannedLandings := s.plannedLandings.map (fun p => if hitLanding p then { p with data := s.replaced won p.addr p.data } else p)
      cp := s.cp.map (fun c => if hitCp c then { c with data := s.replaced won c.addr c.data } else c) }
  else s

/-- A write request is performed: its data are in the channel, and it is complete (R289, R541). Words in which an unordered
write's value stays keep what stands in memory (R304). -/
def mqWrite (s : Dev) (t : Nat) (e : MqEntry) (a : Nat) : Dev :=
  let kept (w : Nat) : Bool := e.yielded.contains w
  let d := s.replaced kept a e.data
  let fl := (s.faultsAt a e.data.length).foldl (fun l x => if kept (a / 8 + x.1) then Sparse.insert l x.1 x.2 else l)
    (e.faults.filter (fun x => !kept (a / 8 + x.1)))
  let bc := s.time.bc
  (settleRaces (writeMem s a d fl) (some t) a e.data.length).updMqEntry t e.id (·.completed bc)

/-- A memory-queue request has had its last slot of a phase (R289, R537, R538, R541). -/
def mqServed (s : Dev) (t : Nat) (e : MqEntry) : Dev :=
  match e.phase with
  | .second => mqWrite s t e e.dest
  | .access =>
    if e.pays then mqWrite s t e e.addr
    else
      let pages := s.pagesToDecode e.addr e.len
      if pages.isEmpty then mqHasData s t e []
      else
        let bound := pageBound s t (s.owner t) e pages.length
        s.updMqEntry t e.id (fun x => { x with phase := .decode, left := 33 * pages.length, paged := true, bound := bound })
  | _ => s.updMqEntry t e.id (fun x => { x with left := 0 })

/-- One slot for a memory-queue request. -/
def serveMq (s : Dev) (t : Nat) (e : MqEntry) : Dev :=
  if e.left ≤ 1 then mqServed s t e else s.updMqEntry t e.id (fun x => { x with left := x.left - 1 })

/-- One slot for a planned landing. -/
def serveLanding (s : Dev) (p : PlannedLanding) : Dev :=
  if p.left ≤ 1 then
    settleRaces (writeMem { s with plannedLandings := s.plannedLandings.filter (·.id != p.id) } p.addr p.data [])
      none p.addr p.data.length
  else { s with plannedLandings := s.plannedLandings.map (fun q => if q.id = p.id then { q with left := q.left - 1 } else q) }

/-- Insert an address into a rising list of at most 17; the seventeenth only shows that the list overflowed (R552). -/
def addLowest (l : List Nat) (a : Nat) : List Nat :=
  ((l.filter (· < a)) ++ [a] ++ l.filter (a < ·)).take 17

/-- Change a scrub. -/
def Dev.updScrub (s : Dev) (job : Nat) (f : ScrubJob → ScrubJob) : Dev :=
  { s with scrubs := s.scrubs.map (fun j => if j.id = job then f j else j) }

/-- Queue the next page of a scrub on a channel, or end the channel's share (R550). -/
def scrubNext (s : Dev) (job c : Nat) : Dev :=
  match s.scrubs.find? (·.id == job) with
  | none => s
  | some j =>
    match j.active.find? (fun (x : Nat × Nat × Nat × Nat) => x.1 == c) with
    | none => s
    | some (_, page, stop, _) =>
      if page < stop then addCpCost s false (2048 * page) 2048 33 (.scrub job c)
      else
        let s := s.updScrub job (fun j => { j with active := j.active.filter (fun x => x.1 != c) })
        s.updChannel c (fun ch => { ch with scrubBusy := false })

/-- Move a scrub's channel on to its next page. -/
def scrubAdvance (s : Dev) (job c : Nat) : Dev :=
  scrubNext (s.updScrub job (fun j => { j with
    pages := j.pages + 1, active := j.active.map (fun x => if x.1 = c then (c, x.2.1 + 1, x.2.2.1, 0) else x) })) job c

/-- Corrected, uncorrectable and poisoned words of a page as the word code sees them, and whether the page syndrome is zero
after single-bit corrections (R550). -/
def scrubLook (s : Dev) (page : Nat) : List Nat × List Nat × Bool :=
  let ws := s.faultySpan (2048 * page) 2048
  let corr := ws.filter (fun w => match s.wordClassAt w with | .corrected _ => true | _ => false)
  let pois := ws.filter (fun w => s.wordClassAt w == .poisoned)
  let clean := ws.all (fun w => match s.wordClassAt w with
    | .corrected m => (s.fault w).data.toNat == m
    | .poisoned => true
    | .clean => (s.fault w).data == 0
    | .uncorrectable => false)
  (corr, pois, clean)

/-- Count what a scrub found in a page (R550). -/
def scrubCount (s : Dev) (job c page : Nat) : Dev :=
  let look := scrubLook s page
  let part := s.partOfChannel c
  let s := s.updScrub job (fun j => { j with poisoned := j.poisoned + look.2.1.length })
  if look.2.2 then
    let s := s.updScrub job (fun j => { j with
      correctedWords := j.correctedWords + look.1.length
      wordAddrs := look.1.foldl (fun l w => addLowest l (8 * w)) j.wordAddrs })
    countChannelCorrected s c look.1.length
  else if pageDecodes s page then
    countCorrectedPage (s.updScrub job (fun j => { j with
      correctedPages := j.correctedPages + 1, pageAddrs := addLowest j.pageAddrs (2048 * page) })) page part
  else
    countBadPage (s.updScrub job (fun j => { j with
      uncorrectable := j.uncorrectable + 1, badAddrs := addLowest j.badAddrs (2048 * page) })) page 0 part none

/-- A scrub has read a page (R550): it is counted and the scrub moves on, or a changed page is written back first. -/
def scrubPage (s : Dev) (job c page : Nat) : Dev :=
  match s.scrubs.find? (·.id == job) with
  | none => s
  | some j =>
    let look := scrubLook s page
    let changed : Bool := (look.2.2 && !look.1.isEmpty) || (!look.2.2 && pageDecodes s page)
    if j.writeback && changed then addCpCost s true (2048 * page) 2048 (s.backCost page) (.scrubBack job c false)
    else scrubAdvance (scrubCount s job c page) job c

/-- A scrub's write-back is served: performed, or discarded and the page read again, at most PAGE_RETRY_LIMIT times
(R539, R550). -/
def scrubBack (s : Dev) (job c page : Nat) (stale : Bool) : Dev :=
  if !stale then scrubAdvance (rebuildPage (scrubCount s job c page) page) job c
  else
    let s := s.updIn (fun i => { i with writebacksDiscarded := i.writebacksDiscarded + 1 })
    match s.scrubs.find? (·.id == job) with
    | none => s
    | some j =>
      let tries := match j.active.find? (fun (x : Nat × Nat × Nat × Nat) => x.1 == c) with | some x => x.2.2.2 | none => 0
      if 4 ≤ tries then scrubAdvance (s.updScrub job (fun j => { j with skipped := j.skipped + 1 })) job c
      else scrubNext (s.updScrub job (fun j => { j with
        active := j.active.map (fun x => if x.1 = c then (c, x.2.1, x.2.2.1, tries + 1) else x) })) job c

/-- A control-plane access is complete. -/
def cpServed (s : Dev) (a : CpAccess) : Dev :=
  let s := { s with cp := s.cp.filter (·.id != a.id) }
  let put (s : Dev) : Dev := settleRaces (writeMem s a.addr a.data []) none a.addr a.data.length
  match a.owner with
  | .scrub job c => scrubPage s job c (a.addr / 2048)
  | .scrubBack job c stale => scrubBack s job c (a.addr / 2048) stale
  | .writeback stale =>
    if stale then s.updIn (fun i => { i with writebacksDiscarded := i.writebacksDiscarded + 1 })
    else rebuildPage s (a.addr / 2048)
  | .firmware => if a.write then put s else s
  | .host id => partDone (if a.write then put s else s) id
  | .packet id =>
    if a.write then partDone (put s) id
    else
      let ws := s.faultySpan a.addr a.len
      if ws.any (fun w => (s.wordClassAt w).lost) then readFailed s id
      else readDone (countChannelCorrected s (channelOf a.addr) ws.length) id

/-- One slot for a control-plane access; a read that needs the page code goes on to it (R280, R537). -/
def serveCp (s : Dev) (a : CpAccess) : Dev :=
  let put (f : CpAccess → CpAccess) : Dev := { s with cp := s.cp.map (fun b => if b.id = a.id then f b else b) }
  if 1 < a.left then put (fun b => { b with left := b.left - 1 })
  else if a.decode then put (fun b => { b with left := 0 })
  else
    let pages := match a.owner with
      | .packet _ | .firmware | .host _ => if a.write then [] else s.pagesToDecode a.addr a.len
      | _ => []
    if pages.isEmpty then cpServed s a else put (fun b => { b with decode := true, left := 33 * pages.length })

/-- Whether a request of a token-selection unit may take a slot of a channel in a frame: moves are held to BATT_SLOTS slots
of each frame (R471). -/
def Serving.mayServe (v : Serving) (c frame : Nat) (r : UnitReq) : Bool :=
  let p := Sparse.get (0, 0) v.paced c
  channelOf r.addr == c && (r.owner.isNone || p.1 != frame
    || decide (p.2 < match v.cfg with | some x => x.battSlots | none => 0))

/-- The oldest request of a token-selection unit that may take a slot of a channel: its partition and itself (R280, R443). -/
def Dev.oldestUnit (s : Dev) (c : Nat) : Option (Nat × UnitReq) :=
  (s.parts.flatMap (fun p => ((p.2.serving.memq.take 256).filter (p.2.serving.mayServe c (s.time.bc / 64))).map
    (fun r => (p.1, r)))).foldl
    (fun best x => match best with
      | none => some x
      | some y => if x.2.id < y.2.id then some x else some y) none

/-- One slot for a request of a token-selection unit. -/
def serveUnit (s : Dev) (c k : Nat) (r : UnitReq) : Dev :=
  let frame := s.time.bc / 64
  s.updServe k (fun v =>
    let p := Sparse.get (0, 0) v.paced c
    { v with
      memq := if r.left ≤ 1 then v.memq.filter (fun x => x.id != r.id)
        else v.memq.map (fun x => if x.id = r.id then { x with left := x.left - 1 } else x)
      paced := if r.owner.isNone then v.paced
        else Sparse.set (0, 0) v.paced c (frame, (if p.1 = frame then p.2 else 0) + 1) })

/-- The older of a memory-queue request and a planned landing gets a slot; none where neither waits (R280). -/
def planSlot (s : Dev) (c : Nat) : Option (Nat × Dev) :=
  match s.oldestMq c, s.oldestLanding c with
  | some (t, e), some p => some (if e.id < p.id then (e.id, serveMq s t e) else (p.id, serveLanding s p))
  | some (t, e), none => some (e.id, serveMq s t e)
  | none, some p => some (p.id, serveLanding s p)
  | none, none => none

/-- A planned slot: as `planSlot`, unless a request of a token-selection unit is older still (R280, R443). -/
def plannedSlot (s : Dev) (c : Nat) : Option Dev :=
  match planSlot s c, s.oldestUnit c with
  | some x, some (k, r) => some (if x.1 < r.id then x.2 else serveUnit s c k r)
  | some x, none => some x.2
  | none, some (k, r) => some (serveUnit s c k r)
  | none, none => none

/-- A slot serves the oldest waiting control-plane access, if one waits; `plan` where it is a planned slot (R280). -/
def cpSlot (s : Dev) (c : Nat) (plan : Bool) : Option Dev :=
  (s.oldestCp c plan).map (fun a =>
    let bc := s.time.bc
    serveCp (s.updChannel c (fun ch => { ch with lastCp := 1 + bc })) a)

/-- Whether a channel's slots all serve control-plane accesses: its partition is stopped, or it has none (R280). -/
def Dev.channelStopped (s : Dev) (c : Nat) : Bool :=
  match s.partOfChannel c with | some k => (s.part k).time.mode == .stopped | none => true

/-- CHANNEL_SLOT (R279, R280): the next slot of a channel's frame, if it has begun. While the channel's partition is stopped,
control-plane accesses come first in every slot; what memory queues have outstanding runs to completion in the slots that none
takes (R297; assumption 80). -/
def channelSlot (s : Dev) (c : Nat) : Dev :=
  let ch := s.channel c
  let frame := s.time.bc / 64
  let j := if ch.frame = frame then ch.slot else 0
  if 272 ≤ c ∨ frameSlots c ≤ j ∨ ¬ slotBegun c j (s.time.bc % 64) then s
  else
    let s := s.updChannel c (fun ch => { ch with frame := frame, slot := j + 1 })
    if j < refreshSlots c then s
    else if s.channelStopped c then ((cpSlot s c true).orElse (fun _ => plannedSlot s c)).getD s
    else if j < refreshSlots c + s.cpSlots c then (cpSlot s c false).getD s
    else ((plannedSlot s c).orElse (fun _ => cpSlot s c true)).getD s

/-- PAGE_DECODE (R537): the page decoder of a channel finishes the oldest access whose pages have been read. -/
def pageDecode (s : Dev) (c : Nat) : Dev :=
  let ready := (s.tiles.flatMap (fun x => (x.2.mq.entries.filter (fun e =>
    e.phase == .decode && e.left == 0 && channelOf e.addr == c)).map (fun e => (x.1, e)))).head?
  match ready with
  | some (t, e) =>
    let pages := s.pagesToDecode e.addr e.len
    mqHasData (decodePages s pages 1 (s.partOfTile t) (some t)) t e pages
  | none =>
    match s.cp.find? (fun a => a.decode && a.left == 0 && channelOf a.addr == c) with
    | none => s
    | some a =>
      let pages := s.pagesToDecode a.addr a.len
      let good := pages.all (pageDecodes s)
      let pois := (s.faultySpan a.addr a.len).any (fun w => s.wordClassAt w == .poisoned)
      let s := decodePages { s with cp := s.cp.filter (·.id != a.id) } pages 0 none none
      match a.owner with
      | .packet id =>
        if good && !pois then
          -- the answer carries the rebuilt words; the store itself changes with the write-back only
          { readDone (pages.foldl rebuildPage s) id with mem := s.mem, lost := s.lost, faults := s.faults }
        else readFailed s id
      | .host id => partDone s id
      | _ => s

/-- Whether a control-plane access waits with its frame's control-plane slots used up, and no idle slot has served the channel's
accesses in this beat (R281). -/
def Dev.cpHeld (s : Dev) : Bool :=
  s.cp.any (fun a =>
    let c := channelOf a.addr
    let ch := s.channel c
    a.left != 0 && ch.frame == s.time.bc / 64 && decide (refreshSlots c + s.cpSlots c ≤ ch.slot) && ch.lastCp != 1 + s.time.bc)

/-- Begin a scrub (R548 to R550): each channel of the range takes its pages in rising order. -/
def startScrub (s : Dev) (requester fn : Nat) (writeback : Bool) (start len : Nat) : Dev :=
  let i := s.newId
  let shares := (partsOf start len).map (fun p => (channelOf p.1, p.1 / 2048, (p.1 + p.2) / 2048, 0))
  let job : ScrubJob := {
    id := i.1, requester := requester, fn := fn, writeback := writeback, start := start, length := len
    bcStart := s.time.bc, aborted := false, active := shares, pages := 0, correctedWords := 0, correctedPages := 0
    uncorrectable := 0, poisoned := 0, skipped := 0, wordAddrs := [], pageAddrs := [], badAddrs := [] }
  let s := { i.2 with scrubs := s.scrubs ++ [job] }
  shares.foldl (fun s x => scrubNext (s.updChannel x.1 (fun ch => { ch with scrubBusy := true })) i.1 x.1) s

/-- The channels of a range. -/
def rangeChannels (a n : Nat) : List Nat := (partsOf a n).map (fun p => channelOf p.1)

/-- The COMMAND_STATUS of a scrub (Table IN-3): `holder` is the partition of a host principal, none host admin. -/
def scrubStatus (s : Dev) (holder : Option Nat) (body : Bytes) : Nat :=
  let a := leAt body 0 6
  let n := leAt body 8 8
  let parts := partsOf a n
  let whole : Bool := (isHbm a && decide (a + n ≤ 2 ^ 39))
    || (isCap a && parts.all (fun p => isCap p.1 && s.memBacked p.1 p.2))
  if a % 2048 ≠ 0 ∨ n % 2048 ≠ 0 ∨ n = 0 ∨ 2 ≤ byteAt body 16 ∨ 2 ^ 40 < n ∨ ¬ whole then 1
  else if isHbm a && !(parts.all (fun p => s.memBacked p.1 p.2)) then 2
  else if !((rangeChannels a n).all (fun c => match holder with | some k => s.partOfChannel c == some k | none => true)) then 2
  else if (rangeChannels a n).any (fun c => (s.channel c).scrubBusy) then 3
  else 0

/-- A scrub of a channel that is given to another partition ends early (R551). -/
def abortScrubs (s : Dev) (c : Nat) : Dev :=
  let hit := s.scrubs.filter (fun j => j.active.any (fun x => x.1 == c))
  hit.foldl (fun s j =>
    let mine (a : CpAccess) : Bool := match a.owner with
      | .scrub job _ => job == j.id
      | .scrubBack job _ _ => job == j.id
      | _ => false
    let s := j.active.foldl (fun s x => s.updChannel x.1 (fun ch => { ch with scrubBusy := false })) s
    (({ s with cp := s.cp.filter (fun a => !mine a) }).updScrub j.id (fun j => { j with active := [], aborted := true }))) s

/-- The scrub summary (Table IN-4). -/
def scrubSummary (j : ScrubJob) (bc : Nat) : Bytes :=
  let list (l : List Nat) : Bytes :=
    ((l.take 16) ++ List.replicate (16 - min 16 l.length) (2 ^ 64 - 1)).flatMap (leBytes 8)
  let cut := 16 < j.wordAddrs.length || 16 < j.pageAddrs.length || 16 < j.badAddrs.length
  leBytes 2 1 ++ leBytes 1 j.requester ++ leBytes 1 (boolNat j.writeback + 2 * boolNat j.aborted + 4 * boolNat cut)
    ++ zeros 4 ++ leBytes 8 j.start ++ leBytes 8 j.length ++ leBytes 8 j.bcStart ++ leBytes 8 bc ++ leBytes 8 j.pages
    ++ leBytes 8 j.correctedWords ++ leBytes 8 j.correctedPages ++ leBytes 8 j.uncorrectable ++ leBytes 8 j.poisoned
    ++ leBytes 8 j.skipped ++ list j.wordAddrs ++ list j.pageAddrs ++ list j.badAddrs ++ zeros 40

/-- SCRUB_COMPLETE (R551, R552): the oldest scrub whose channels are all done posts its summary; none is posted after a
device-fatal error. -/
def scrubComplete (s : Dev) : Dev :=
  match s.scrubs.find? (·.active.isEmpty) with
  | none => s
  | some j =>
    let s := { s with scrubs := s.scrubs.filter (·.id != j.id) }
    if s.deviceFatal then s
    else
      let s := s.updIn (fun i => { i with scrubs := i.scrubs + 1 })
      if j.requester = 0xFF then s else pushEvent s j.fn 0x24 (scrubSummary j s.time.bc)

/-- Whether an injection into a word is refused (R555). -/
def injectRefused (s : Dev) : Bool :=
  let a := s.integrity.injectAddr
  let running (k : Option Nat) : Bool := match k with | some k => (s.part k).time.mode != .stopped | none => false
  if s.integrity.injectTarget = 5 then (s.partOfTile s.integrity.injectTile).isNone
  else if isHbm a || isCap a then running (s.partOfChannel (channelOf a))
  else if isStore a then running (s.partOfTile (storeTile a))
  else if isImem a then running (s.partOfTile (imemTile a))
  else true

/-- INJECT_ARM (R555): a mask of 0 disarms; a refused arm shows state 3. -/
def injectArm (s : Dev) : Bool × Dev :=
  if injectRefused s then (false, s.updIn (fun i => { i with injectState := 3 }))
  else (true, s.updIn (fun i => { i with injectState := if i.injectMask = 0 then 0 else 1 }))

end Sys2Proof.Machine
end

