-- ==== Sys2Proof/Machine/Power.lean ====
section
/-!
DEFINITION. Power and thermal management, assignment and clearing of resources, fuses (10, 19, 23).
-/
namespace Sys2Proof.Machine

/-- Change the power state. -/
def Dev.updPower (s : Dev) (f : Power → Power) : Dev := { s with power := f s.power }
/-- Change the grant of a partition. -/
def Dev.updGrant (s : Dev) (k : Nat) (f : PartPower → PartPower) : Dev :=
  s.updPart k (fun p => { p with power := f p.power })

/-- A loaded plan ends because a group it names has left its partition (R561). -/
def endPlan (s : Dev) (k : Nat) : Dev :=
  (dropSuccessor s k).updPlan k (fun p => { p with plan := none, state := 0 })

/-- Give a partition a new set of groups: a plan that names a removed group ends (R561), and new groups are marked for
clearing (R565). -/
def assignGroups (s : Dev) (k m : Nat) : Dev :=
  let old := (s.part k).groups
  let removed := (maskList old 84).filter (fun g => !bit m g)
  let names (g : Nat) : Bool := match s.planOf k with | some q => bit q.groups g | none => false
  let s := s.updPart k (fun p => { p with groups := m })
  let s := s.updPower (fun p => { p with clearingGroups := p.clearingGroups ||| (m - (m &&& old)) })
  if removed.any names then endPlan s k else s

/-- PART_GROUPS_WRITE (R561): RWS, with its refusals. -/
def partGroupsWrite (s : Dev) (k m : Nat) : Bool × Dev :=
  if 16 ≤ k ∨ 2 ^ 84 ≤ m ∨ (s.part k).time.mode ≠ .stopped then (false, s)
  else if (maskList m 84).any (fun g => !s.groupEnabled g || s.fusing.contains g
      || (List.range 16).any (fun j => j != k && bit (s.part j).groups g)) then (false, s)
  else (true, assignGroups s k m)

/-- Firmware removes the groups with a pending fuse from a stopped partition (R575). -/
def dropPending (s : Dev) (k : Nat) : Dev :=
  let p := s.part k
  let bad := s.fusing.filter (bit p.groups)
  if p.time.mode = .stopped ∧ bad ≠ [] then assignGroups s k (bad.foldl (fun m g => setBit m g false) p.groups) else s

/-- Whether a removed channel holds a region or a manifest area of a batch that is not EMPTY (R565). -/
def Dev.channelInUse (s : Dev) (k c : Nat) : Bool :=
  match (s.weights k).config with
  | none => false
  | some w => (List.range 2).any (fun b => ((s.weights k).batch b).state != 0
      && (channelOf (w.manifestAddr.getD b 0) == c || (w.regionsOf b).any (fun r => channelOf r.1 == c)))

/-- HBM_CHANNELS_WRITE (R274, R565). -/
def hbmChannelsWrite (s : Dev) (k m : Nat) : Bool × Dev :=
  let old := (s.part k).hbm
  if 16 ≤ k ∨ 2 ^ 256 ≤ m ∨ (s.part k).time.mode ≠ .stopped then (false, s)
  else if (maskList m 256).any (fun c => (List.range 16).any (fun j => j != k && bit (s.part j).hbm c)) then (false, s)
  else if ((maskList old 256).filter (fun c => !bit m c)).any (s.channelInUse k) then (false, s)
  else
    let s := s.updPart k (fun p => { p with hbm := m })
    let s := (maskList (m - (m &&& old)) 256).foldl abortScrubs s
    (true, s.updPower (fun p => { p with clearingHbm := p.clearingHbm ||| (m - (m &&& old)) }))

/-- CAP_CHANNELS_WRITE (R278, R565). -/
def capChannelsWrite (s : Dev) (k m : Nat) : Bool × Dev :=
  let old := (s.part k).cap
  if 16 ≤ k ∨ 2 ^ 16 ≤ m ∨ (s.part k).time.mode ≠ .stopped then (false, s)
  else if (maskList m 16).any (fun c => (List.range 16).any (fun j => j != k && bit (s.part j).cap c)) then (false, s)
  else if ((maskList old 16).filter (fun c => !bit m c)).any (fun c => s.channelInUse k (256 + c)) then (false, s)
  else
    let s := s.updPart k (fun p => { p with cap := m })
    let s := (maskList (m - (m &&& old)) 16).foldl (fun s c => abortScrubs s (256 + c)) s
    (true, s.updPower (fun p => { p with clearingCap := p.clearingCap ||| (m - (m &&& old)) }))

/-- CLEARING_COMPLETE (R565): the resource holds zeros and its mark falls. -/
def clearingComplete (s : Dev) (kind ix : Nat) : Dev :=
  let mark := match kind with | 0 => s.power.clearingGroups | 1 => s.power.clearingHbm | _ => s.power.clearingCap
  if !bit mark ix then s else
  let s := (s.resourceRanges kind ix).foldl (fun s r => zeroRange s r.1 r.2) s
  let s := if kind = 0 then
      (groupTiles ix).foldl (fun s t => s.updTile t (fun x => { x with endOnly := [false, false] })) s
    else s
  s.updPower (fun p =>
    match kind with
    | 0 => { p with clearingGroups := setBit p.clearingGroups ix false }
    | 1 => { p with clearingHbm := setBit p.clearingHbm ix false }
    | _ => { p with clearingCap := setBit p.clearingCap ix false })

/-- CLEARING_COMPLETE (R565) for a resource. -/
def clearedResource (s : Dev) (r : Resource) : Dev :=
  match r with
  | .group g => clearingComplete s 0 g
  | .hbm c => clearingComplete s 1 c
  | .cap c => clearingComplete s 2 c

/-- The number of groups a partition holds. -/
def Dev.groupCount (s : Dev) (k : Nat) : Nat := (maskList (s.part k).groups 84).length
/-- The grant cost of a partition: BOOST_COST_PER_GROUP for each group (R568). -/
def Dev.grantCost (s : Dev) (k : Nat) : Nat := 7 * s.groupCount k

/-- Whether a partition is eligible for a grant (R568). -/
def Dev.eligible (s : Dev) (k : Nat) : Bool :=
  (s.part k).power.boostEnable && s.planRuns k && s.power.thermalState == 0
    && (match s.planOf k with | some q => q.steps.any (fun r => r.op == 3) | none => false)

/-- BOOST_ENABLE_WRITE (R568): writing 0 ends a grant at once. -/
def boostEnableWrite (s : Dev) (k : Nat) (v : Bool) : Dev :=
  let s := s.updGrant k (fun g => { g with boostEnable := v })
  if v then s else loseGrant s k

/-- The GRANT entry of ring EVT (Table HI-10a). -/
def grantEntry (state bc : Nat) : Bytes := leBytes 1 state ++ zeros 7 ++ leBytes 8 bc

/-- Withdraw a grant with a notice of 64 beats (R570); one under notice is not withdrawn again (R569). -/
def withdraw (s : Dev) (k : Nat) : Dev :=
  if (s.part k).power.inForce then
    let s := s.updGrant k (fun g => { g with
      inForce := false, withdrawnAt := some s.time.bc, grantState := 2, withdrawals := g.withdrawals + 1 })
    pushEvent s (k + 1) 0x23 (grantEntry 2 (s.time.bc + 64))
  else s

/-- Grant a partition OP-B (R570). -/
def grant (s : Dev) (k : Nat) : Dev :=
  let s := s.updGrant k (fun g => { g with inForce := true, grantBit := true, grantState := 1, grants := g.grants + 1 })
  pushEvent s (k + 1) 0x23 (grantEntry 1 s.time.bc)

/-- Whether a partition is running an OP-B step. -/
def Dev.boosting (s : Dev) (k : Nat) : Bool := s.planRuns k && (s.part k).time.opCurrent == 2

/-- The partitions in the order of grants: BOOST_PRIORITY, then number (R569). -/
def Dev.byPriority (s : Dev) : List Nat :=
  (List.range 16).flatMap (fun q => (List.range 16).filter (fun k => (s.part k).power.boostPriority == q))

/-- Step 1 of an evaluation: while the pool is below 0, the grant in force that comes last is withdrawn (R569). -/
def withdrawStep : List Nat → Int → Dev → Int × Dev
  | [], pool, s => (pool, s)
  | k :: t, pool, s =>
    if pool < 0 then
      if (s.part k).power.inForce then withdrawStep t (pool + s.grantCost k) (withdraw s k) else withdrawStep t pool s
    else (pool, s)

/-- Step 2 of an evaluation: eligible partitions are granted in order while the pool lasts (R569). -/
def grantStep : List Nat → Int → Dev → Dev
  | [], _, s => s
  | k :: t, pool, s =>
    let g := (s.part k).power
    if s.eligible k && !g.inForce && !g.grantBit && decide ((s.grantCost k + s.power.grantMargin : Nat) ≤ pool) then
      grantStep t (pool - s.grantCost k) (grant s k)
    else grantStep t pool s

/-- The thermal state that the triggers of Table PP-4 ask for; state 3 needs two successive evaluations. -/
def thermalLevel (p : Power) (hot : Nat) (tj th : Int) : Nat :=
  if 2 ≤ hot then 3 else if p.paceTj ≤ tj ∨ 90 ≤ th then 2 else if p.boostTjMax ≤ tj then 1 else 0

/-- Whether the trigger of the present state is 3 °C below its threshold (R572). -/
def thermalCool (p : Power) (tj th : Int) : Bool :=
  match p.thermalState with
  | 1 => decide (tj + 3 ≤ p.boostTjMax)
  | 2 => decide (tj + 3 ≤ p.paceTj) && decide (th + 3 ≤ 90)
  | _ => false

/-- THERMAL_STATE at an evaluation (R572). -/
def Power.thermal (p : Power) (tj : Int) (sensor : Nat) (th : Int) : Power :=
  let hot := if 105 ≤ tj ∨ 100 ≤ th then p.hotRuns + 1 else 0
  let n := thermalLevel p hot tj th
  let cool := if thermalCool p tj th then p.coolRuns + 1 else 0
  let p := { p with tjHottest := tj, tjSensor := sensor, hbmHottest := th, hotRuns := hot }
  if p.thermalState < n then { p with thermalState := n, coolRuns := 0 }
  else if n < p.thermalState ∧ 2 ≤ cool then { p with thermalState := n, coolRuns := 0 }
  else { p with coolRuns := cool }

/-- GRANT_STATE of a partition without a grant. -/
def settleGrant (s : Dev) (k : Nat) : Dev :=
  let g := (s.part k).power
  if g.inForce || g.grantBit then s
  else s.updGrant k (fun g => { g with grantState := if s.eligible k then 0 else 3 })

/-- The pool of R569. -/
def Dev.pool (s : Dev) (pm : Nat) : Int :=
  (List.range 16).foldl (fun (a : Int) k =>
    if (s.part k).power.inForce && !s.boosting k then a - s.grantCost k else a) ((s.power.powerLimit : Int) - pm)

/-- POWER_EVALUATION (R569 to R573): at an edge at which BC is a multiple of EVAL_BEATS, with the mean package power, the
hottest junction sensor and the hottest stack. -/
def powerEvaluation (s : Dev) (pm : Nat) (tj : Int) (sensor : Nat) (th : Int) : Dev :=
  if s.time.bc % 4096 ≠ 0 ∨ s.power.evaluatedAt = some s.time.bc ∨ s.halted ∨ ¬ s.fwRunning then s else
  let was := s.power.thermalState
  let s := s.updPower (fun p => ({ p with packagePower := pm, evaluatedAt := some s.time.bc }).thermal tj sensor th)
  let now := s.power.thermalState
  let s := if was < now ∧ 2 ≤ now then s.updMgmt (·.scored 6 s.time.bc) else s
  let s := if now = 3 ∧ was ≠ 3 then
      raise (s.updPower (fun p => { p with thermalStops := p.thermalStops + 1 })) 3 18 572 none none (zeros 16)
    else s
  let s := s.updPower (fun p => { p with
    powerPacing := if 2800 < pm then true else if pm ≤ p.powerLimit then false else p.powerPacing })
  let order := s.byPriority
  let s :=
    if now ≠ 0 ∨ 2800 < pm then order.foldl withdraw s
    else
      let r := withdrawStep order.reverse (s.pool pm) s
      grantStep order r.1 r.2
  (List.range 16).foldl settleGrant s

/-- GRANT_BIT_FALL (R570): 64 beats after the evaluation that withdrew it. -/
def grantBitFall (s : Dev) (k : Nat) : Dev :=
  match (s.part k).power.withdrawnAt with
  | some b =>
    if b + 64 ≤ s.time.bc then
      settleGrant (s.updGrant k (fun g => { g with withdrawnAt := none, grantBit := false })) k
    else s
  | none => s

/-- FUSE_REQUEST (R574, R575): refused while the group's partition is not stopped. -/
def fuseRequest (s : Dev) (g : Nat) : Bool × Dev :=
  if 84 ≤ g then (false, s) else
  match s.partOfGroup g with
  | some k => if (s.part k).time.mode ≠ .stopped then (false, s) else (true, dropPending (fusingGroup s g) k)
  | none => (true, fusingGroup s g)

/-- FIELD_FUSE_PROGRAM (R574): the bit is one-time programmable. -/
def fieldFuseProgram (s : Dev) (g : Nat) : Dev :=
  if s.fusing.contains g then { s with fuses := { s.fuses with fieldFused := setBit s.fuses.fieldFused g true } } else s

/-- THERMTRIP (R572, R681): in hardware, in every stage; `none` is a failed sensor. -/
def thermtrip (s : Dev) (tj : Option Int) : Dev :=
  if (match tj with | some x => decide (115 ≤ x) | none => true) then s.updPower (fun p => { p with thermtrip := true }) else s

end Sys2Proof.Machine
end

