-- ==== Sys2Proof/Machine/Serve.lean ====
section
/-!
DEFINITION. The passes of the token-selection unit (15): composing a step, drafting, verifying, parking and resuming, result
batches.
-/
namespace Sys2Proof.Machine

/-- Beats of a step (R313, R315). -/
def Plan.stepBeats (q : Plan) (i : Nat) : Nat :=
  let r := q.steps.getD i ⟨1, true, false, false, 1, 0, 0, 0⟩
  ((q.stints.drop r.first).take r.stints).foldl (fun n x => n + x.length) 0

/-- The step that follows step `i` (R314); none where the plan ends. -/
def Plan.nextStep (q : Plan) (i : Nat) : Option Nat :=
  if i + 1 < q.steps.length then some (i + 1) else if q.loopStart = 0xFFFFFFFF then none else some q.loopStart

/-- PT_STRIDE (R447). -/
def ServeConfig.ptStride (c : ServeConfig) : Nat := c.maxPos / 16
/-- Rows of a decode slot. -/
def ServeConfig.width (c : ServeConfig) : Nat := c.g + 1
/-- `x` rounded up to a multiple of 128. -/
def up128 (x : Nat) : Nat := ceilDiv x 128 * 128
/-- Offset of the TOKENS section (Table SV-7). -/
def ServeConfig.tokensAt (c : ServeConfig) : Nat := 128 + up128 (32 * (c.d + c.c))
/-- Offset of the POS section. -/
def ServeConfig.posAt (c : ServeConfig) : Nat := c.tokensAt + up128 (4 * c.b)
/-- Offset of the KVIDX section. -/
def ServeConfig.kvAt (c : ServeConfig) : Nat := c.tokensAt + 2 * up128 (4 * c.b)
/-- Offset of the DRAFT_IN section. -/
def ServeConfig.draftAt (c : ServeConfig) : Nat := c.tokensAt + 3 * up128 (4 * c.b)
/-- MAP_BYTES (Table SV-7). -/
def ServeConfig.mapBytes (c : ServeConfig) : Nat := up128 (c.draftAt + (if c.g = 0 then 0 else 4 * c.d))
/-- Bytes of a batt block (R471). -/
def ServeConfig.blockBytes (c : ServeConfig) : Nat := c.slices * 64 * c.rowBytes
/-- The address of batt block `b` (R471). -/
def ServeConfig.blockAddr (c : ServeConfig) (b : Nat) : Nat :=
  c.battBase + b % c.battChannels * 0x2000000000 + b / c.battChannels * c.blockBytes
/-- The address of a physical page in a slice (R455). -/
def ServeConfig.pageAddr (c : ServeConfig) (slice p : Nat) : Nat := c.pools.getD slice 0 + p * 64 * c.rowBytes

/-- The tiles that receive the row map (R448). -/
def Dev.mapTiles (s : Dev) (k : Nat) (c : ServeConfig) : List Nat :=
  (s.partTiles k).filter (fun t => bit c.mapGroups (tileGroup t))

/-- Write bytes into the row map of the step with step counter `n`, in every tile that receives it (R448). -/
def writeMap (s : Dev) (k : Nat) (c : ServeConfig) (n off : Nat) (d : Bytes) : Dev :=
  (s.mapTiles k c).foldl (fun s t => writeStore s t (c.mapOffset + n % 2 * c.mapBytes + off) d []) s

/-- The KV index of a position (R455). -/
def Seq.kvIndex (x : Seq) (p : Nat) : Nat := x.pages.getD (p / 64) 0 * 64 + p % 64

/-- Input row `i` of a sequence: the pending token first where it leads (R452). -/
def Dev.inputToken (s : Dev) (x : Seq) (i : Nat) : Nat :=
  if x.lead && i == 0 then x.pending else leNat (s.bytesAt (x.addr + 4 * (i - boolNat x.lead)) 4)

/-- Input rows in all. -/
def Seq.inputRows (x : Seq) : Nat := x.inputLen + boolNat x.lead

/-- Pages held by the sequences (R456). -/
def Serving.heldPages (v : Serving) : List Nat := v.seqs.flatMap (fun x => x.2.pages)
/-- The lowest free page. -/
def Serving.freePage (v : Serving) (c : ServeConfig) : Option Nat :=
  let held := v.heldPages
  (List.range c.npages).find? (fun p => !held.contains p)

/-- Take `n` more pages for a sequence entry; none where they are not all free. -/
def Serving.takePages (v : Serving) (c : ServeConfig) (e : Nat) : Nat → Option Serving
  | 0 => some v
  | n + 1 =>
    match v.freePage c, Sparse.find v.seqs e with
    | some p, some x => Serving.takePages { v with seqs := Sparse.insert v.seqs e { x with pages := x.pages ++ [p] } } c e n
    | _, _ => none

/-- Give a sequence pages for its positions below `upto`, and write their page-table words (R455, R456); false where they are
not all free. -/
def allocPages (s : Dev) (k : Nat) (c : ServeConfig) (e upto : Nat) : Bool × Dev :=
  match Sparse.find (s.serve k).seqs e with
  | none => (false, s)
  | some x =>
    match (s.serve k).takePages c e (ceilDiv upto 64 - x.pages.length) with
    | none => (false, s)
    | some v =>
      let all := match Sparse.find v.seqs e with | some y => y.pages | none => []
      let new := (all.zip (List.range all.length)).drop x.pages.length
      (true, new.foldl (fun s (p : Nat × Nat) =>
        let a := c.ptBase + e * c.ptStride + 4 * p.2
        writeMem (postUnit s k a 4 true none) a (leBytes 4 p.1) []) (s.updServe k (fun _ => v)))

/-- Change a sequence. -/
def Dev.updSeq (s : Dev) (k e : Nat) (f : Seq → Seq) : Dev :=
  s.updServe k (fun v => match Sparse.find v.seqs e with
    | some x => { v with seqs := Sparse.insert v.seqs e (f x) }
    | none => v)

/-- Free a sequence's entry and pages. -/
def Dev.freeSeq (s : Dev) (k e : Nat) : Dev := s.updServe k (fun v => { v with seqs := Sparse.erase v.seqs e })

/-- Report an event that is not tied to a slot (R478). -/
def serveEvent (s : Dev) (k : Nat) (b : BatchEntry) : Dev :=
  s.updServe k (fun v => { v with events := v.events ++ [b] })

/-- A batch entry of a sequence without tokens. -/
def Seq.entry (x : Seq) (event : Nat) : BatchEntry :=
  { handle := x.handle, len := x.len, firstPos := 0, event := event, drafts := 0, accepted := 0, gst := x.gram.st
    depth := x.gram.stack.length, slot := 0xFF, inputDone := x.done, tokens := [], expiry := 0, digest := zeros 48 }

/-- A batch entry of a batt. -/
def Batt.entry (x : Batt) (event : Nat) : BatchEntry :=
  { handle := x.handle, len := x.len, firstPos := 0, event := event, drafts := 0, accepted := 0, gst := x.gram.st
    depth := x.gram.stack.length, slot := 0xFF, inputDone := 0, tokens := [], expiry := 0, digest := zeros 48 }

/-- Free a batt. -/
def dropBatt (s : Dev) (k h : Nat) : Dev :=
  s.updServe k (fun v => { v with batts := v.batts.filter (·.handle != h) })

/-- The acceptance BC of a command (R446). -/
def ServeCmd.bc : ServeCmd → Nat
  | .request _ _ _ _ _ b | .resume _ _ _ _ _ b | .park _ _ b | .cancel _ b => b
/-- The handle of a REQUEST or RESUME. -/
def ServeCmd.opens (h : Nat) : ServeCmd → Bool
  | .request x _ _ _ _ _ | .resume x _ _ _ _ _ => x == h
  | _ => false

/-- The sequence with a handle: its entry. -/
def Serving.seqOf (v : Serving) (h : Nat) : Option (Nat × Seq) := v.seqs.find? (fun p => p.2.handle == h)
/-- The batt with a handle. -/
def Serving.battOf (v : Serving) (h : Nat) : Option Batt := v.batts.find? (·.handle == h)
/-- The lowest free entry of the sequence table. -/
def Serving.freeEntry (v : Serving) : Option Nat := (List.range 512).find? (fun e => (Sparse.find v.seqs e).isNone)

/-- The lowest run of `n` free batt blocks (R471). -/
def Serving.battRun (v : Serving) (c : ServeConfig) (n : Nat) : Option Nat :=
  if 4096 ≤ v.batts.length ∨ c.battBlocks < n then none
  else (List.range (c.battBlocks - n + 1)).find? (fun f => v.batts.all (fun b => !rangesMeet f n b.first b.blocks))

/-- A new sequence. -/
def Seq.start (h : Nat) (st : SeqState) (addr len : Nat) (g : GramState) (f : Sampling) (bc : Nat) : Seq :=
  { handle := h, state := st, len := 0, pending := nullIx, addr := addr, inputLen := len, lead := false, done := 0
    gram := g, f := f, pages := [], emitted := 0, lastStep := 0, bc := bc, cancelled := false, ttl := 0, endCode := 0
    reported := false }

/-- CANCEL at a compose (R452, Table SV-12): queued requests, sequences, batts. The queue is the caller's. -/
def applyCancel (s : Dev) (k h : Nat) : Dev :=
  match (s.serve k).seqOf h with
  | some (e, x) =>
    match x.state with
    | .prefill | .decode =>
      serveEvent (s.updSeq k e (fun x => { x with state := .ended, endCode := 6 })) k (x.entry 6)
    | .parking | .resuming => s.updSeq k e (fun x => { x with cancelled := true })
    | _ => s
  | none =>
    match (s.serve k).battOf h with
    | some b => serveEvent (dropBatt s k h) k (b.entry 6)
    | none => s

/-- PARK at a compose (R471): the sequence takes its run of batt blocks, or stays in DECODE with PARK_FAILED. -/
def applyPark (s : Dev) (k : Nat) (c : ServeConfig) (h ttl : Nat) : Dev :=
  match (s.serve k).seqOf h with
  | some (e, x) =>
    if x.state ≠ .decode then s
    else match (s.serve k).battRun c (ceilDiv x.len 64) with
      | none => serveEvent s k (x.entry 9)
      | some f =>
        let s := s.updSeq k e (fun x => { x with state := .parking, ttl := ttl })
        s.updServe k (fun v => { v with batts := v.batts ++
          [⟨h, x.len, x.pending, x.gram, f, ceilDiv x.len 64, none, zeros 48, false⟩] })
  | none => s

/-- One command of the queue at a compose: true where it leaves the queue (R452, step 1). -/
def applyCommand (s : Dev) (k : Nat) (c : ServeConfig) (q : ServeCmd) : Bool × Dev :=
  match q with
  | .cancel h _ => (true, applyCancel s k h)
  | .park h ttl _ => (true, applyPark s k c h ttl)
  | .request h addr len g f bc =>
    match (s.serve k).freeEntry with
    | none => (false, s)
    | some e =>
      (true, s.updServe k (fun v => { v with seqs := Sparse.insert v.seqs e (Seq.start h .prefill addr len g f bc) }))
  | .resume h addr len g f bc =>
    match (s.serve k).freeEntry, (s.serve k).battOf h with
    | some e, some b =>
      let x := Seq.start h .resuming addr len (g.getD b.gram) f bc
      (true, s.updServe k (fun v => { v with
        seqs := Sparse.insert v.seqs e { x with len := b.len, pending := b.pending, lead := true } }))
    | none, some _ => (false, s)
    | _, none => (true, s)

/-- A CANCEL drops a REQUEST or RESUME of its handle that stayed queued before it (R452). DESIGN CHOICE (assumption 93): a CANCEL that
drops a RESUME frees its batt as well. -/
def dropQueued (s : Dev) (k : Nat) (q : ServeCmd) (kept : List ServeCmd) : Dev × List ServeCmd :=
  match q with
  | .cancel h _ =>
    if kept.any (·.opens h) then
      (serveEvent s k { (Seq.start h .ended 0 0 ⟨none, 0, []⟩ ⟨0, 0, 0, 0, 0, 0, [], 0⟩ 0).entry 14 with handle := h },
        kept.filter (fun x => !x.opens h))
    else (s, kept)
  | _ => (s, kept)

/-- Step 1 of a compose: the commands accepted before the trigger edge (R452, R475). -/
def composeCommands (s : Dev) (k : Nat) (c : ServeConfig) (bc : Nat) : Dev :=
  let r := (s.serve k).queue.foldl (fun (a : Dev × List ServeCmd) q =>
    if bc ≤ q.bc then (a.1, a.2 ++ [q])
    else
      let d := dropQueued a.1 k q a.2
      let x := applyCommand d.1 k c q
      (x.2, if x.1 then d.2 else d.2 ++ [q])) (s, [])
  r.1.updServe k (fun v => { v with queue := r.2 })

/-- Batts whose expiry BC has come and that no RESUME has pinned are freed (R473). -/
def expireBatts (s : Dev) (k : Nat) : Dev :=
  let old := (s.serve k).batts.filter (fun b => !b.pinned && (match b.expiry with
    | some e => decide (e ≤ s.time.bc) | none => false))
  old.foldl (fun s b => serveEvent (dropBatt (s.updSt (fun t => { t with battExpiries := t.battExpiries + 1 })) k b.handle) k
    (b.entry 12)) s

/-- Sequences in RESUMING that have no pages yet take them where they are free (R474). -/
def resumePages (s : Dev) (k : Nat) (c : ServeConfig) : Dev :=
  (s.serve k).seqs.foldl (fun s (p : Nat × Seq) =>
    if p.2.state = .resuming ∧ p.2.pages.isEmpty then (allocPages s k c p.1 p.2.len).2 else s) s

/-- Entries of a state, in a given order. -/
def insertBy (key : Nat × Seq → Nat) (a : Nat × Seq) : List (Nat × Seq) → List (Nat × Seq)
  | [] => [a]
  | b :: t => if key b ≤ key a then b :: insertBy key a t else a :: b :: t

/-- The entries of a state ordered by a key, then by entry number. -/
def Serving.ordered (v : Serving) (st : SeqState) (key : Nat × Seq → Nat) : List (Nat × Seq) :=
  (v.seqs.filter (fun p => p.2.state == st)).foldl (fun l a => insertBy key a l) []

/-- Placement of decode slots (R452, step 3). -/
def placeDecode (s : Dev) (k : Nat) (c : ServeConfig) (n : Nat) : Dev :=
  ((s.serve k).ordered .decode (fun p => p.2.lastStep)).foldl (fun s (p : Nat × Seq) =>
    let i := (s.serve k).placed.length
    if c.d ≤ i then s
    else
      let g := min c.g (min p.2.f.draftMax (c.maxPos - 1 - p.2.len))
      let r := allocPages s k c p.1 (p.2.len + g + 1)
      if !r.1 then s.updSt (fun t => { t with pageWaits := t.pageWaits + 1 })
      else
        (r.2.updSeq k p.1 (fun x => { x with lastStep := n })).updServe k (fun v => { v with
          placed := v.placed ++ [⟨i, p.1, p.2.len, i * c.width, g + 1, 1, g, [], false⟩] })) s

/-- Placement of chunks (R452, step 4). -/
def placeChunks (s : Dev) (k : Nat) (c : ServeConfig) (n : Nat) : Dev :=
  ((s.serve k).ordered .prefill (fun p => p.2.bc)).foldl (fun s (p : Nat × Seq) =>
    let chunks := (s.serve k).placed.filter (fun x => decide (2 ≤ x.kind))
    let used := chunks.foldl (fun a x => a + x.rows) 0
    let left := c.b - c.d * c.width - used
    let rows := min (p.2.inputRows - p.2.done) (min c.chunkMax left)
    if c.c ≤ chunks.length ∨ rows = 0 then s
    else
      let r := allocPages s k c p.1 (p.2.len + rows)
      if !r.1 then s.updSt (fun t => { t with pageWaits := t.pageWaits + 1 })
      else
        let kind := if p.2.done + rows = p.2.inputRows then 3 else 2
        (r.2.updSeq k p.1 (fun x => { x with lastStep := n })).updServe k (fun v => { v with
          placed := v.placed ++ [⟨c.d + chunks.length, p.1, p.2.len, c.d * c.width + used, rows, kind, 0, [], false⟩] })) s

/-- The slot of a row, with the row's place in it. -/
def rowSlot (l : List Placed) (r : Nat) : Option (Placed × Nat) :=
  match l.find? (fun x => decide (x.firstRow ≤ r ∧ r < x.firstRow + x.rows)) with
  | some x => some (x, r - x.firstRow)
  | none => none

/-- TOKENS, POS and KVIDX of a row of a composed map (R452, R453). -/
def Dev.rowWords (s : Dev) (v : Serving) (r : Nat) : Nat × Nat × Nat :=
  match rowSlot v.placed r with
  | none => (nullIx, 0, nullIx)
  | some (x, j) =>
    match Sparse.find v.seqs x.entry with
    | none => (nullIx, 0, nullIx)
    | some q =>
      let pos := x.len + j
      if x.kind = 1 then
        if j = 0 then (q.pending, pos, q.kvIndex pos) else (nullIx, pos, nullIx)
      else (s.inputToken q (q.done + j), pos, q.kvIndex pos)

/-- A slot record (Table SV-8). -/
def slotRecord (v : Serving) (slot : Nat) : Bytes :=
  match v.placed.find? (·.slot == slot) with
  | none => leBytes 4 nullIx ++ zeros 28
  | some x =>
    let pages := match Sparse.find v.seqs x.entry with | some q => q.pages.length | none => 0
    leBytes 4 x.entry ++ leBytes 4 x.len ++ leBytes 4 x.firstRow ++ leBytes 2 x.rows ++ leBytes 1 x.kind ++ leBytes 1 x.g
      ++ leBytes 4 pages ++ zeros 12

/-- The row map of a composed step (Table SV-7). -/
def Dev.rowMap (s : Dev) (v : Serving) (c : ServeConfig) (n : Nat) : Bytes :=
  let dec := (v.placed.filter (·.kind == 1)).length
  let words := (List.range c.b).map (s.rowWords v)
  let sect (f : Nat × Nat × Nat → Nat) : Bytes := padTo (up128 (4 * c.b)) (words.flatMap (fun w => leBytes 4 (f w)))
  let used := v.placed.foldl (fun a x => a + x.rows) 0
  let head := leBytes 8 n ++ leBytes 2 dec ++ leBytes 1 (v.placed.length - dec) ++ zeros 1 ++ leBytes 4 used
  let drafts := (List.range c.d).flatMap (fun i => leBytes 4 (match v.placed.find? (·.slot == i) with
    | some x => (match Sparse.find v.seqs x.entry with | some q => q.pending | none => nullIx)
    | none => nullIx))
  padTo c.mapBytes (padTo 128 head ++ padTo (up128 (32 * (c.d + c.c))) ((List.range (c.d + c.c)).flatMap (slotRecord v))
    ++ sect (·.1) ++ sect (·.2.1) ++ sect (·.2.2) ++ (if c.g = 0 then [] else drafts))

/-- How many steps ahead the next serving step lies, from step `i` (R450); none where the plan ends before one. -/
def stepsAhead (q : Plan) (c : ServeConfig) : Nat → Nat → Nat → Option Nat
  | 0, _, _ => none
  | f + 1, i, d =>
    if c.first ≤ i ∧ i ≤ c.last then some d
    else match q.nextStep i with
      | some j => stepsAhead q c f j (d + 1)
      | none => none

/-- The step counter of the serving step that a pass composes: the first one from the step in progress on, or, for a final
pass, after it. -/
def Dev.composeStep (s : Dev) (k : Nat) (c : ServeConfig) (after : Bool) : Option Nat :=
  let p := s.part k
  match p.plan.plan with
  | none => none
  | some q =>
    if !after then (stepsAhead q c (q.steps.length + 1) p.plan.stepIx 0).map (· + p.audit.step)
    else match q.nextStep p.plan.stepIx with
      | none => none
      | some j => (stepsAhead q c (q.steps.length + 1) j 1).map (· + p.audit.step)

/-- The reads of the input tokens of the chunks placed (R452, step 5). -/
def postInput (s : Dev) (k : Nat) : Dev :=
  ((s.serve k).placed.filter (fun x => decide (2 ≤ x.kind))).foldl (fun s x =>
    match Sparse.find (s.serve k).seqs x.entry with
    | some q =>
      let first := q.done - boolNat q.lead
      postUnit s k (q.addr + 4 * first) (4 * (q.done + x.rows - boolNat q.lead - first)) false none
    | none => s) s

/-- The compose of a final or initial pass whose trigger edge had BC `bc` (R452). DESIGN CHOICE (assumption 93): sequences that resume
take their pages after step 2 and before decode slots are placed. -/
def compose (s : Dev) (k : Nat) (c : ServeConfig) (bc : Nat) (n : Option Nat) : Dev :=
  let s := composeCommands (expireBatts s k) k c bc
  let gone := (s.serve k).seqs.filter (fun p => p.2.state == .ended && p.2.reported)
  let s := resumePages (gone.foldl (fun s (p : Nat × Seq) => s.freeSeq k p.1) s) k c
  let s := s.updServe k (fun v => { v with placed := [] })
  match n with
  | none => s
  | some n =>
    let s := postInput (placeChunks (placeDecode s k c n) k c n) k
    writeMap s k c n 0 (s.rowMap (s.serve k) c n)

/-- A draft of a slot (R458): its token, or none where the drafts of the slot end. -/
def draftOf (s : Dev) (v : Serving) (c : ServeConfig) (x : Placed) (q : Seq) (kk : Nat) : Option Selection :=
  if x.draftsEnded then none
  else
    let step (a : GramState × Bool) (t : Nat) : GramState × Bool :=
      let r := v.applyToken a.1 t
      (r.1, a.2 || r.2 || q.f.stop.contains t)
    let g := x.drafts.foldl step (q.gram, false)
    if g.2 then none else some (selectToken s v c g.1 q.f true (x.slot * c.width + kk - 1) (x.len + kk))

/-- Draft pass `kk` for one slot: the draft is written into the current map, or its slot's drafts end (R458). -/
def draftSlot (s : Dev) (k : Nat) (c : ServeConfig) (n kk : Nat) (x : Placed) : Dev :=
  match Sparse.find (s.serve k).seqs x.entry with
  | none => s
  | some q =>
    let sel := draftOf s (s.serve k) c x q kk
    let s := match sel with | some r => countSelection s k c (x.slot * c.width + kk - 1) r | none => s
    let word (s : Dev) (base i v : Nat) : Dev := writeMap s k c n (base + 4 * i) (leBytes 4 v)
    match sel.bind (·.token) with
    | some t =>
      let s := s.updServe k (fun v => { v with placed := v.placed.map (fun y =>
        if y.slot = x.slot then { y with drafts := y.drafts ++ [t] } else y) })
      let r := x.firstRow + kk
      word (word (word s c.tokensAt r t) c.kvAt r (q.kvIndex (x.len + kk))) c.draftAt x.slot t
    | none =>
      let s := s.updServe k (fun v => { v with placed := v.placed.map (fun y =>
        if y.slot = x.slot then { y with draftsEnded := true } else y) })
      let rows := (List.range (x.g + 1 - kk)).map (fun i => x.firstRow + kk + i)
      word (rows.foldl (fun s r => word (word s c.tokensAt r nullIx) c.kvAt r nullIx) s) c.draftAt x.slot nullIx

/-- Draft pass `kk` (R451, R458). -/
def draftPass (s : Dev) (k : Nat) (c : ServeConfig) (n kk : Nat) : Dev :=
  ((s.serve k).placed.filter (fun x => x.kind == 1 && decide (kk ≤ x.g))).foldl (fun s x => draftSlot s k c n kk x) s

/-- How emitting goes: the sequence so far, the tokens emitted, drafts accepted, and the END_* code once it ends. -/
structure Emit where
  seq : Seq
  tokens : List Nat
  accepted : Nat
  endCode : Option Nat
deriving DecidableEq, Repr

/-- A sequence emits a token at position `p`: the end conditions in order (R470). -/
def emitToken (v : Serving) (c : ServeConfig) (a : Emit) (p t : Nat) : Emit :=
  let r := v.applyToken a.seq.gram t
  let x := { a.seq with gram := r.1, emitted := a.seq.emitted + 1, len := p, pending := t }
  let e := if x.f.stop.contains t then some 2 else if r.2 then some 3
    else if x.f.maxNew ≤ x.emitted ∨ p = c.maxPos then some 4 else none
  { a with seq := x, tokens := a.tokens ++ [t], endCode := e }

/-- The check of a decode slot's drafts from draft `j` on (R459, R470). -/
def verifySlot (s : Dev) (k : Nat) (v : Serving) (c : ServeConfig) (x : Placed) : List Nat → Nat → Dev × Emit → Dev × Emit
  | ds, j, (s', a) =>
    let r := selectToken s v c a.seq.gram a.seq.f false (x.slot * c.width + j - 1) (x.len + j)
    let s' := countSelection s' k c (x.slot * c.width + j - 1) r
    match r.token with
    | none => (s', { a with seq := { a.seq with len := x.len + j }, endCode := some 5 })
    | some t =>
      let b := emitToken v c a (x.len + j) t
      match ds with
      | [] => (s', b)
      | d :: rest =>
        if d = t then
          let b := { b with accepted := b.accepted + 1 }
          if b.endCode.isSome then (s', b) else verifySlot s k v c x rest (j + 1) (s', b)
        else (s', b)

/-- A sequence after its part of a final pass: its END_* code is kept, and DIGEST_ON_END sends it to ENDING (R470). -/
def Emit.settle (a : Emit) : Seq :=
  match a.endCode with
  | none => a.seq
  | some e => { a.seq with state := if bit a.seq.f.mode 2 then .ending else .ended, endCode := e }

/-- The batch entry of a slot (Table SV-14): `event` where the sequence goes on. -/
def slotEntry (x : Placed) (a : Emit) (event : Nat) : BatchEntry :=
  let ev := match a.endCode with | none => event | some e => if bit a.seq.f.mode 2 then 0 else e
  { a.seq.entry ev with
    firstPos := if a.tokens.isEmpty then 0 else x.len + (if x.kind = 1 then 1 else x.rows), drafts := x.drafts.length
    accepted := a.accepted, slot := x.slot, tokens := a.tokens }

/-- The final pass for one slot (R451, R459, R470). -/
def finishSlot (s : Dev) (k : Nat) (c : ServeConfig) (x : Placed) : Dev :=
  match Sparse.find (s.serve k).seqs x.entry with
  | none => s
  | some q =>
    let v := s.serve k
    let a0 : Emit := ⟨q, [], 0, none⟩
    let r : Dev × Emit × Nat :=
      if x.kind = 1 then
        let r := verifySlot s k v c x x.drafts 1 (s, a0)
        (r.1, r.2, 0)
      else
        let q := { q with len := x.len + x.rows, done := q.done + x.rows }
        if x.kind = 2 then (s, ⟨q, [], 0, none⟩, 0)
        else
          let sel := selectToken s v c q.gram q.f false (c.d * c.width + (x.slot - c.d)) (x.len + x.rows)
          let s := countSelection s k c (c.d * c.width + (x.slot - c.d)) sel
          let q := { q with state := .decode }
          match sel.token with
          | none => (s, ⟨q, [], 0, some 5⟩, 1)
          | some t => (s, emitToken v c ⟨q, [], 0, none⟩ (x.len + x.rows) t, 1)
    let a := r.2.1
    let s := r.1.updSeq k x.entry (fun _ => a.settle)
    let s := s.updSt (fun t => { t with
      tokens := t.tokens + a.tokens.length, proposed := t.proposed + x.drafts.length, accepted := t.accepted + a.accepted
      noTokenEnds := t.noTokenEnds + boolNat (a.endCode == some 5) })
    s.updServe k (fun v => { v with entries := v.entries ++ [slotEntry x a r.2.2] })

/-- The committed bytes of a logical page in a slice: positions below `len` (R471, R472). -/
def ServeConfig.committed (c : ServeConfig) (len m : Nat) : Nat := min 64 (len - 64 * m) * c.rowBytes

/-- The pairs of a logical page and a slice of `len` positions, in digest order. -/
def ServeConfig.pieces (c : ServeConfig) (len : Nat) : List (Nat × Nat) :=
  (List.range (ceilDiv len 64)).flatMap (fun m => (List.range c.slices).map (fun i => (m, i)))

/-- Whether the moves or reads of a sequence can go on: it parks, ends with a digest, or resumes with its pages allocated from a batt
whose park is complete (R474, Table SV-12). -/
def Serving.moves (v : Serving) (x : Seq) : Bool :=
  match x.state with
  | .parking | .ending => true
  | .resuming => decide (ceilDiv x.len 64 ≤ x.pages.length) && (v.battOf x.handle).any (·.expiry.isSome)
  | _ => false

/-- Post the reads and writes of a park, a resume or an end digest (R471, R472, R474). -/
def postMoves (s : Dev) (k : Nat) (c : ServeConfig) (e : Nat) (x : Seq) : Dev :=
  (c.pieces x.len).foldl (fun s (p : Nat × Nat) =>
    let n := c.committed x.len p.1
    let page := c.pageAddr p.2 (x.pages.getD p.1 0)
    match x.state, (s.serve k).battOf x.handle with
    | .parking, some b =>
      postUnit (postUnit s k page n false (some e)) k (c.blockAddr (b.first + p.1) + p.2 * 64 * c.rowBytes) n true (some e)
    | .resuming, some b =>
      postUnit (postUnit s k (c.blockAddr (b.first + p.1) + p.2 * 64 * c.rowBytes) n false (some e)) k page n true (some e)
    | .ending, _ => postUnit s k page n false (some e)
    | _, _ => s) s

/-- Post what the sequences need that have begun to move since `v`. -/
def startMoves (s : Dev) (k : Nat) (c : ServeConfig) (v : Serving) : Dev :=
  (s.serve k).seqs.foldl (fun s (p : Nat × Seq) =>
    let before := match Sparse.find v.seqs p.1 with | some y => v.moves y && y.state == p.2.state | none => false
    if (s.serve k).moves p.2 && !before then postMoves s k c p.1 p.2 else s) s

/-- The work of a pass, done as it starts (R451). -/
def passWork (s : Dev) (k : Nat) (p : Pass) : Dev :=
  let s := s.updServe k (fun v => { v with running := some p })
  match (s.serve k).cfg with
  | none => s
  | some c =>
    match p.kind with
    | .initial => compose s k c p.bc (s.composeStep k c false)
    | .draft kk => draftPass s k c p.counter kk
    | .final =>
      let s := (s.serve k).placed.foldl (fun s x => finishSlot s k c x) (s.updServe k (fun v => { v with entries := [] }))
      compose s k c p.bc (s.composeStep k c true)

/-- A pass starts: its work, and the moves of the sequences that it sends to be parked, resumed or digested. -/
def runPass (s : Dev) (k : Nat) (p : Pass) : Dev :=
  match (s.serve k).cfg with
  | none => passWork s k p
  | some c => startMoves (passWork s k p) k c (s.serve k)

/-- A trigger fires: its pass starts, or waits for the pass that runs (R450). -/
def triggerPass (s : Dev) (k : Nat) (kind : PassKind) : Dev :=
  let p := s.part k
  let x : Pass := ⟨kind, s.time.bc, p.audit.step, p.plan.stepIx⟩
  let s := s.updServe k (fun v => { v with fired := p.time.pbc :: v.fired.filter (fun f => decide (p.plan.stepBegan ≤ f)) })
  if (s.serve k).running.isNone then runPass s k x
  else (s.updServe k (fun v => { v with waiting := v.waiting ++ [x] })).updSt (fun t => { t with
    passOverruns := t.passOverruns + 1 })

/-- A trigger's edge: PBC has become `pbc` at this edge, in a running plan, and no trigger has fired for it (R450). -/
def Dev.atTrigger (s : Dev) (k pbc : Nat) : Bool :=
  let p := s.part k
  p.plan.state == 3 && p.time.mode == .running && p.time.pbc == pbc && p.time.still == 0 && !p.serving.fired.contains pbc

/-- INITIAL_PASS (R450). -/
def initialPass (s : Dev) (k : Nat) : Dev :=
  if (s.serve k).cfg.isSome && s.atTrigger k 0 then triggerPass s k .initial else s

/-- Whether the step in progress is a serving step at its trigger `i` (R450). -/
def Dev.servingTrigger (s : Dev) (k i : Nat) : Bool :=
  match (s.serve k).cfg with
  | none => false
  | some c =>
    let p := (s.part k).plan
    decide (i ≤ c.g) && decide (c.first ≤ p.stepIx) && decide (p.stepIx ≤ c.last) && p.stopFrom.isNone && !p.stopDue
      && s.atTrigger k (p.stepBegan + c.passAt.getD i 0)

/-- DRAFT_PASS (R450, R458). -/
def draftPassRow (s : Dev) (k kk : Nat) : Dev :=
  match (s.serve k).cfg with
  | none => s
  | some c => if 1 ≤ kk ∧ kk ≤ c.g ∧ s.servingTrigger k (kk - 1) then triggerPass s k (.draft kk) else s

/-- FINAL_PASS (R450, R451). -/
def finalPass (s : Dev) (k : Nat) : Dev :=
  match (s.serve k).cfg with
  | none => s
  | some c => if s.servingTrigger k c.g then triggerPass s k .final else s

/-- The bytes of a batch entry (Table SV-14). -/
def BatchEntry.toBytes (b : BatchEntry) : Bytes :=
  leBytes 8 b.handle ++ leBytes 4 b.len ++ leBytes 4 b.firstPos ++ leBytes 1 b.event ++ leBytes 1 b.tokens.length
    ++ leBytes 1 b.drafts ++ leBytes 1 b.accepted ++ leBytes 4 b.gst ++ leBytes 1 b.depth ++ leBytes 1 b.slot ++ zeros 2
    ++ leBytes 4 b.inputDone ++ (List.range 9).flatMap (fun i => leBytes 4 (b.tokens.getD i nullIx)) ++ leBytes 8 b.expiry
    ++ zeros 4 ++ padTo 48 b.digest

/-- A result batch (Table SV-13). -/
def batchBody (k : Nat) (e : StepEdge) (more : Bool) (l : List BatchEntry) : Bytes :=
  leBytes 2 1 ++ leBytes 1 k ++ leBytes 1 (boolNat e.unsync + 2 * boolNat more) ++ leBytes 4 l.length ++ leBytes 8 e.counter
    ++ leBytes 8 e.bc ++ leBytes 8 e.pbc ++ leBytes 4 e.step ++ leBytes 4 (l.foldl (fun n b => n + b.tokens.length) 0)
    ++ zeros 24 ++ l.flatMap BatchEntry.toBytes

/-- Post the entries of one step, in batches of at most `m` entries (R478). -/
def postBatches (k m : Nat) (e : StepEdge) : Nat → List BatchEntry → Dev → Dev
  | 0, _, s => s
  | f + 1, l, s =>
    let more := decide (m < l.length)
    let s := pushEntry s (k + 1) 2 0x30 (batchBody k e more (l.take m))
    if more then postBatches k m e f (l.drop m) s else s

/-- Whether an event ends a sequence. -/
def isEnd (e : Nat) : Bool := decide (2 ≤ e ∧ e ≤ 7)

/-- Post the result batch of every serving step whose boundary edge and final pass are both past (R478). -/
def postResults (s : Dev) (k : Nat) : Dev :=
  match (s.serve k).results with
  | [] => s
  | (n, slots) :: rest =>
    match (s.serve k).edges.find? (·.counter == n) with
    | none => s
    | some e =>
      let l := slots ++ (s.serve k).events
      let ring := (s.fn (k + 1)).ring 2
      let m := min 1024 ((ring.size / 2 - 80) / 128)
      let s := postBatches k m e (l.length + 1) l s
      let ended := (l.filter (fun b => isEnd b.event)).map (·.handle)
      s.updServe k (fun v => { v with
        results := rest, edges := v.edges.filter (·.counter != n), events := []
        seqs := v.seqs.map (fun p => if p.2.state = .ended ∧ ended.contains p.2.handle then
          (p.1, { p.2 with reported := true }) else p) })

/-- The boundary edge of a step: a serving step's batch is due (R478). -/
def serveStepEnd (s : Dev) (k : Nat) : Dev :=
  match (s.serve k).cfg with
  | none => s
  | some c =>
    let p := s.part k
    if p.plan.stepIx < c.first ∨ c.last < p.plan.stepIx then s
    else
      let s := s.updServe k (fun v => { v with
        edges := v.edges ++ [⟨p.audit.step, s.time.bc, p.time.pbc, p.plan.stepIx, s.time.sync != 2⟩] })
      postResults s k

/-- Whether every request of the pass (none) or of a sequence entry's moves has been served. -/
def Serving.unitDone (v : Serving) (owner : Option Nat) : Bool := v.memq.all (fun r => r.owner != owner)

/-- PASS_COMPLETE (R454): every request of the pass has been served; the signal counts rise, the step's results are ready, and
a pass that waits starts. -/
def passComplete (s : Dev) (k : Nat) : Dev :=
  if !(s.serve k).unitDone none then s else
  match (s.serve k).running, (s.serve k).cfg with
  | some p, some c =>
    let s := (s.mapTiles k c).foldl (fun s t => signalTile s t c.signalJ) s
    let s := s.updServe k (fun v => { v with
      running := none, lastPassBeats := s.time.bc - p.bc
      results := if p.kind = .final then v.results ++ [(p.counter, v.entries)] else v.results })
    let s := if p.kind = .final then postResults s k else s
    match (s.serve k).waiting with
    | [] => s
    | q :: t => runPass (s.updServe k (fun v => { v with waiting := t })) k q
  | _, _ => s

/-- The digest of a sequence's committed KV (R472). -/
def Dev.kvDigest (s : Dev) (c : ServeConfig) (x : Seq) : Bytes :=
  sha384 ((c.pieces x.len).flatMap (fun (p : Nat × Nat) =>
    s.bytesAt (c.pageAddr p.2 (x.pages.getD p.1 0)) (c.committed x.len p.1)))

/-- Copy bytes between memories, with their word faults (R532). -/
def moveBytes (s : Dev) (src dst n : Nat) : Dev := writeMem s dst (s.bytesAt src n) (s.faultsAt src n)

/-- PARK_COMPLETE (R471 to R473, Table SV-12). -/
def parkComplete (s : Dev) (k e : Nat) : Dev :=
  match (s.serve k).cfg, Sparse.find (s.serve k).seqs e with
  | some c, some x =>
    if x.state ≠ .parking ∨ !(s.serve k).unitDone (some e) then s
    else match (s.serve k).battOf x.handle with
      | none => s
      | some b =>
        let v := s.serve k
        let digest := s.kvDigest c x
        let s := (c.pieces x.len).foldl (fun s (p : Nat × Nat) =>
          moveBytes s (c.pageAddr p.2 (x.pages.getD p.1 0)) (c.blockAddr (b.first + p.1) + p.2 * 64 * c.rowBytes)
            (c.committed x.len p.1)) s
        let s := (s.freeSeq k e).updSt (fun t => { t with parks := t.parks + 1 })
        if x.cancelled then serveEvent (dropBatt s k x.handle) k (b.entry 6)
        else
          let expiry := s.time.bc + x.ttl
          let s := s.updServe k (fun v => { v with batts := v.batts.map (fun y =>
            if y.handle = x.handle then { y with expiry := some expiry, digest := digest } else y) })
          startMoves (serveEvent s k { b.entry 8 with expiry := expiry, digest := digest }) k c v
  | _, _ => s

/-- RESUME_COMPLETE (R474, Table SV-12). -/
def resumeComplete (s : Dev) (k e : Nat) : Dev :=
  match (s.serve k).cfg, Sparse.find (s.serve k).seqs e with
  | some c, some x =>
    match (s.serve k).battOf x.handle with
    | none => s
    | some b =>
      if x.state ≠ .resuming ∨ b.expiry.isNone ∨ x.pages.length < ceilDiv x.len 64 ∨ !(s.serve k).unitDone (some e) then s
      else
        let s := (c.pieces x.len).foldl (fun s (p : Nat × Nat) =>
          moveBytes s (c.blockAddr (b.first + p.1) + p.2 * 64 * c.rowBytes) (c.pageAddr p.2 (x.pages.getD p.1 0))
            (c.committed x.len p.1)) s
        if x.cancelled then serveEvent (dropBatt (s.freeSeq k e) k x.handle) k (x.entry 6)
        else if s.kvDigest c x = b.digest then
          serveEvent (dropBatt (s.updSeq k e (fun x => { x with state := .prefill })) k x.handle) k (x.entry 10)
        else
          let s := (s.freeSeq k e).updServe k (fun v => { v with batts := v.batts.map (fun y =>
            if y.handle = x.handle then { y with pinned := false } else y) })
          let s := s.updSt (fun t => { t with digestFails := t.digestFails + 1 })
          raise (serveEvent s k (b.entry 11)) 0 14 474 (some k) none (zeros 16)
  | _, _ => s

/-- END_DIGEST_COMPLETE (R472). -/
def endDigestComplete (s : Dev) (k e : Nat) : Dev :=
  match (s.serve k).cfg, Sparse.find (s.serve k).seqs e with
  | some c, some x =>
    if x.state ≠ .ending ∨ !(s.serve k).unitDone (some e) then s
    else serveEvent (s.updSeq k e (fun x => { x with state := .ended })) k
      { x.entry x.endCode with digest := s.kvDigest c x }
  | _, _ => s

/-- Empty everything but the configuration and the grammar store (R443, R477). -/
def Serving.cleared (v : Serving) : Serving :=
  { Serving.reset with cfg := v.cfg, staged := v.staged, grammar := v.grammar, slots := v.slots, lastStatus := v.lastStatus
                       lastPassBeats := v.lastPassBeats }

end Sys2Proof.Machine
end

