-- ==== Sys2Proof/Machine/ServeCmd.lean ====
section
/-!
DEFINITION. The serving commands (15): configuration, grammars, requests; the unit at a successor switch and at resets.
-/
namespace Sys2Proof.Machine

/-- Answer a serving command with a status of Table SV-4, kept in LAST_STATUS (R446, R589). -/
def serveStatus (s : Dev) (k : Nat) (c : Cmd) (st : Nat) : Dev :=
  respond (s.updServe k (fun v => { v with lastStatus := st })) c 0 st 0

/-- The configuration record (Table SV-6). -/
def ServeConfig.parse (p : Bytes) : ServeConfig :=
  { modelTag := slice p 0 8, vocab := leAt p 8 4, logitFmt := byteAt p 12, g := byteAt p 13, c := byteAt p 14
    channels := byteAt p 15, b := leAt p 16 2, d := leAt p 18 2, chunkMax := leAt p 20 2, slices := leAt p 22 2
    rowBytes := leAt p 24 2, signalJ := byteAt p 26, battSlots := byteAt p 27, maxPos := leAt p 28 4, npages := leAt p 32 4
    first := leAt p 36 4, last := leAt p 40 4, mapOffset := leAt p 44 4, mapGroups := leAt p 48 16, ptBase := leAt p 64 6
    logitBase := leAt p 72 6, battBase := leAt p 80 6, battChannels := byteAt p 86, battBlocks := leAt p 88 4
    passAt := (List.range 9).map (fun i => leAt p (96 + 4 * i) 4)
    pools := (List.range (leAt p 22 2)).map (fun i => leAt p (160 + 8 * i) 6) }

/-- Every field in its range, reserved bytes 0 (Table SV-6). -/
def ServeConfig.inRange (c : ServeConfig) (p : Bytes) : Bool :=
  decide (2 ≤ c.vocab ∧ c.vocab ≤ 262144) && (c.logitFmt == 1 || c.logitFmt == 2) && decide (c.g ≤ 8) && decide (c.c ≤ 16)
    && decide (1 ≤ c.channels ∧ c.channels ≤ 64) && decide (1 ≤ c.b ∧ c.b ≤ 4096) && decide (c.d ≤ 256)
    && decide (1 ≤ c.chunkMax ∧ c.chunkMax ≤ 4096) && decide (1 ≤ c.slices ∧ c.slices ≤ 4096)
    && c.rowBytes % 8 == 0 && decide (8 ≤ c.rowBytes ∧ c.rowBytes ≤ 256) && decide (c.signalJ ≤ 15) && decide (c.battSlots ≤ 32)
    && c.maxPos % 64 == 0 && decide (64 ≤ c.maxPos ∧ c.maxPos ≤ 131072) && decide (1 ≤ c.npages ∧ c.npages ≤ 1048576)
    && decide (c.first ≤ c.last) && c.mapOffset % 128 == 0 && decide (c.mapGroups < 2 ^ 84) && c.logitBase % 2048 == 0
    && decide (1 ≤ c.battChannels ∧ c.battChannels ≤ 16) && decide (c.battBlocks ≤ 1048576)
    && (c.passAt.drop (c.g + 1)).all (· == 0) && leAt p 70 2 == 0 && leAt p 78 2 == 0 && byteAt p 87 == 0 && leAt p 92 4 == 0
    && (slice p 132 28).all (· == 0) && (List.range c.slices).all (fun i => leAt p (160 + 8 * i + 6) 2 == 0)

/-- The areas of a configuration: pools, page tables, logits by channel, batts by channel (R447). -/
def ServeConfig.hbmAreas (c : ServeConfig) : List (Nat × Nat) :=
  c.pools.map (fun a => (a, c.npages * 64 * c.rowBytes)) ++ [(c.ptBase, 512 * c.ptStride)]
    ++ (List.range c.channels).map (fun i =>
      (c.logitBase + i * 0x80000000, (c.d * c.width + c.c) * ceilDiv c.chunks c.channels * 2048))
/-- The batt area, by channel. -/
def ServeConfig.battAreas (c : ServeConfig) : List (Nat × Nat) :=
  if c.battBlocks = 0 then [] else
  (List.range c.battChannels).map (fun i => (c.battBase + i * 0x2000000000, ceilDiv c.battBlocks c.battChannels * c.blockBytes))

/-- The passes fit every serving step of a plan (R447). -/
def ServeConfig.fitsPlan (c : ServeConfig) (q : Plan) : Bool :=
  decide (c.last < q.steps.length)
    && (List.range (c.last - c.first + 1)).all (fun i =>
      (c.passAt.take (c.g + 1)).all (fun x => decide (x < q.stepBeats (c.first + i))))

/-- The checks of R447 that do not depend on a plan. DESIGN CHOICE (assumption 93): ROW_MAP_GROUPS may name only groups of the
partition. -/
def Dev.configOk (s : Dev) (k : Nat) (c : ServeConfig) : Bool :=
  let at_ := c.passAt.take (c.g + 1)
  decide (c.d * c.width ≤ c.b) && decide (1 ≤ c.d + c.c) && (at_.zip (at_.drop 1)).all (fun p => decide (p.1 < p.2))
    && c.hbmAreas.all (fun r => isHbm r.1 && s.ownMemory k r.1 (max 1 r.2) true)
    && c.battAreas.all (fun r => isCap r.1 && s.ownMemory k r.1 (max 1 r.2) false)
    && disjointRanges (c.hbmAreas ++ c.battAreas) && decide (c.mapOffset + 2 * c.mapBytes ≤ 0x200000)
    && (List.range 84).all (fun g => !bit c.mapGroups g || bit (s.part k).groups g)

/-- The plan that a CONFIG is checked against: the successor being received where its control part is accepted, or the plan
loaded (R447, R477). -/
def PlanState.configPlan (p : PlanState) : Option Plan :=
  if p.state = 2 then p.plan
  else match p.successor with
    | some x => some x.plan
    | none => (p.streams.find? (·.successor)).bind (·.plan)

/-- A successor image is being received, or waits to be taken (R446, R593). -/
def PlanState.receiving (p : PlanState) : Bool := p.succState == 1 || p.succState == 2 || p.succState == 3

/-- CONFIG (R447, R477). -/
def serveConfig (s : Dev) (k : Nat) (c : Cmd) : Dev :=
  let p := (s.part k).plan
  let x := ServeConfig.parse c.payload
  if c.len < 168 ∨ c.len ≠ 160 + 8 * x.slices then respond s c 4 0 0
  else if p.state ≠ 2 ∧ ¬ p.receiving then serveStatus s k c 2
  else if ¬ x.inRange c.payload ∨ ¬ s.configOk k x ∨ (p.configPlan).any (fun q => !x.fitsPlan q) then serveStatus s k c 1
  else if p.state = 2 then serveStatus (s.updServe k (fun v => { v with cfg := some x })) k c 0
  else serveStatus (s.updServe k (fun v => { v with staged := some x })) k c 0

/-- Bytes of the grammar store. -/
def grammarStore : Nat := 8388608

/-- Whether bytes touch a committed slot. -/
def Serving.touchesSlot (v : Serving) (off n : Nat) (but : Option Nat) : Bool :=
  (v.slots.zip (List.range 16)).any (fun (p : Option (Nat × Nat) × Nat) => some p.2 != but && (match p.1 with
    | some r => rangesMeet off n r.1 r.2
    | none => false))

/-- GRAMMAR_WRITE (R446): slot, store offset and bytes. -/
def grammarWrite (s : Dev) (k : Nat) (c : Cmd) : Dev :=
  if c.len < 9 ∨ 65472 + 8 < c.len then respond s c 4 0 0 else
  let off := leAt c.payload 4 4
  let d := c.payload.drop 8
  if 16 ≤ byteAt c.payload 0 ∨ leAt c.payload 1 3 ≠ 0 then serveStatus s k c 1
  else if grammarStore < off + d.length then serveStatus s k c 6
  else if (s.serve k).touchesSlot off d.length none then serveStatus s k c 5
  else serveStatus (s.updServe k (fun v => { v with grammar := putBytes v.grammar off d })) k c 0

/-- A slot is named by a queued request, a sequence or a batt (R464). -/
def Serving.slotInUse (v : Serving) (slot : Nat) : Bool :=
  v.queue.any (fun q => match q with
    | .request _ _ _ g _ _ => g.slot == some slot
    | .resume _ _ _ (some g) _ _ => g.slot == some slot
    | _ => false)
    || v.seqs.any (fun x => x.2.gram.slot == some slot) || v.batts.any (fun x => x.gram.slot == some slot)

/-- A strictly rising list. -/
def rising : List Nat → Bool
  | a :: b :: t => decide (a < b) && rising (b :: t)
  | _ => true

/-- The image is well formed (R464). -/
def Gram.wellFormed (g : Gram) (len : Nat) : Bool :=
  let ok := decide (32 ≤ len) && decide (2 ≤ g.vocab ∧ g.vocab ≤ 262144) && g.at 6 2 == 0 && decide (g.at 20 1 ≤ 1)
    && (List.range 11).all (fun i => g.at (21 + i) 1 == 0) && decide (1 ≤ g.states ∧ g.states ≤ 65536)
  if !ok then false
  else if g.isList then
    decide (32 + 4 * g.states ≤ len) && rising ((List.range g.states).map g.listed)
      && (List.range g.states).all (fun i => decide (g.listed i < g.vocab))
  else
    decide (2 ≤ g.classes ∧ g.classes ≤ 16384) && decide (g.stateBase + 8 * g.states + 8 * g.transitions ≤ len)
      && decide (g.start < g.states) && (List.range g.vocab).all (fun t => decide (g.classOf t < g.classes))
      && (List.range g.states).all (fun i =>
        let r := g.stateRec i
        let n := bits r 32 13
        let f := bits r 0 32
        decide (n ≤ 4096) && bits r 45 19 == 0 && decide (f + n ≤ g.transitions)
          && rising ((List.range n).map (fun j => bits (g.trans (f + j)) 0 14)))
      && (List.range g.transitions).all (fun i =>
        let x := g.trans i
        decide (1 ≤ bits x 0 14 ∧ bits x 0 14 < g.classes) && bits x 48 16 == 0
          && (bits x 14 2 == 2 || decide (bits x 16 16 < g.states)) && (bits x 14 2 != 1 || decide (bits x 32 16 < g.states)))

/-- GRAMMAR_COMMIT (R464): slot, store offset, length. -/
def grammarCommit (s : Dev) (k : Nat) (c : Cmd) : Dev :=
  if c.len ≠ 12 then respond s c 4 0 0 else
  let slot := byteAt c.payload 0
  let off := leAt c.payload 4 4
  let len := leAt c.payload 8 4
  let v := s.serve k
  if 16 ≤ slot ∨ leAt c.payload 1 3 ≠ 0 then serveStatus s k c 1
  else if v.slotInUse slot then serveStatus s k c 5
  else if len = 0 then serveStatus (s.updServe k (fun v => { v with slots := v.slots.set slot none })) k c 0
  else if grammarStore < off + len ∨ v.touchesSlot off len (some slot) then serveStatus s k c 6
  else if ¬ (Gram.mk v off).wellFormed len then serveStatus s k c 1
  else serveStatus (s.updServe k (fun v => { v with slots := v.slots.set slot (some (off, len)) })) k c 0

/-- The sampling fields of a record (Table SV-5). -/
def Sampling.parse (p : Bytes) : Sampling :=
  { seed := leAt p 24 8, mode := byteAt p 32, draftMax := byteAt p 34, temp := leAt p 36 4, topP := leAt p 40 4
    topK := leAt p 44 2, stop := ((List.range 4).map (fun i => leAt p (48 + 4 * i) 4)).filter (· != nullIx), maxNew := leAt p 20 4 }

/-- An FP32 encoding that is greater than 0 and at most 1. -/
def unitFraction (w : Nat) : Bool := match fp32.decode w with
  | .fin false m => !m.isZero && !Mag.lt (.ofNat 1) m
  | _ => false

/-- The fields that REQUEST and RESUME share are valid (Table SV-5); RESUME may keep the batt's grammar. -/
def Dev.recordOk (s : Dev) (k : Nat) (c : ServeConfig) (p : Bytes) (resume : Bool) : Bool :=
  let f := Sampling.parse p
  let addr := leAt p 8 6
  let n := leAt p 16 4
  let gs := byteAt p 33
  let v := s.serve k
  leAt p 0 8 != 0 && leAt p 14 2 == 0 && byteAt p 35 == 0 && leAt p 46 2 == 0 && addr % 4 == 0
    && isHbm addr && s.ownMemory k addr (max 1 (4 * n)) true
    && decide (1 ≤ f.maxNew ∧ f.maxNew ≤ 2 ^ 31) && decide (f.mode < 8) && decide (f.draftMax ≤ 8) && decide (f.topK ≤ 1024)
    && (f.mode % 4 == 0 || goodSigma f.temp) && unitFraction f.topP && f.stop.all (fun t => decide (t < c.vocab))
    && (gs == 0xFF || (resume && gs == 0xFE) || (match v.image gs with
      | some g => decide (gs < 16) && g.vocab == c.vocab
      | none => false))

/-- The grammar state a record starts with (R474). -/
def Serving.startGram (v : Serving) (gs : Nat) : GramState :=
  if gs = 0xFF then ⟨none, 0, []⟩ else ⟨some gs, (match v.image gs with | some g => g.start | none => 0), []⟩

/-- The queue takes a command. -/
def enqueue (s : Dev) (k : Nat) (c : Cmd) (q : ServeCmd) : Dev :=
  if 256 ≤ (s.serve k).queue.length then serveStatus s k c 4
  else serveStatus (s.updServe k (fun v => { v with queue := v.queue ++ [q] })) k c 0

/-- A handle names a queued REQUEST, a sequence or a batt (R445). -/
def Serving.handleUsed (v : Serving) (h : Nat) : Bool :=
  v.queue.any (·.opens h) || (v.seqOf h).isSome || (v.battOf h).isSome

/-- REQUEST (R445, R446). -/
def serveRequest (s : Dev) (k : Nat) (c : Cmd) : Dev :=
  if c.len ≠ 64 then respond s c 4 0 0 else
  let p := c.payload
  let v := s.serve k
  match v.cfg with
  | none => serveStatus s k c 2
  | some x =>
    let n := leAt p 16 4
    if ¬ s.recordOk k x p false ∨ n = 0 ∨ x.maxPos - 1 < n then serveStatus s k c 1
    else if v.handleUsed (leAt p 0 8) then serveStatus s k c 3
    else enqueue s k c (.request (leAt p 0 8) (leAt p 8 6) n (v.startGram (byteAt p 33)) (Sampling.parse p) c.accepted)

/-- RESUME (R446, R473): it pins the batt. -/
def serveResume (s : Dev) (k : Nat) (c : Cmd) : Dev :=
  if c.len ≠ 64 then respond s c 4 0 0 else
  let p := c.payload
  let v := s.serve k
  match v.cfg with
  | none => serveStatus s k c 2
  | some x =>
    let h := leAt p 0 8
    match v.battOf h with
    | none => serveStatus s k c 3
    | some b =>
      let n := leAt p 16 4
      if ¬ s.recordOk k x p true ∨ x.maxPos < 2 + b.len + n then serveStatus s k c 1
      else if (match b.expiry with | some e => decide (e ≤ c.accepted) | none => false) && !b.pinned then serveStatus s k c 7
      else if b.pinned then serveStatus s k c 8
      else if 256 ≤ v.queue.length then serveStatus s k c 4
      else
        let g := if byteAt p 33 = 0xFE then none else some (v.startGram (byteAt p 33))
        let s := s.updServe k (fun v => { v with batts := v.batts.map (fun y =>
          if y.handle = h then { y with pinned := true } else y) })
        enqueue s k c (.resume h (leAt p 8 6) n g (Sampling.parse p) c.accepted)

/-- PARK (R446, R471). -/
def servePark (s : Dev) (k : Nat) (c : Cmd) : Dev :=
  if c.len ≠ 16 then respond s c 4 0 0 else
  let h := leAt c.payload 0 8
  let ttl := leAt c.payload 8 8
  let v := s.serve k
  match v.cfg with
  | none => serveStatus s k c 2
  | some x =>
    if ttl = 0 ∨ 2 ^ 48 ≤ ttl then serveStatus s k c 1
    else match v.seqOf h with
      | none => serveStatus s k c 3
      | some q =>
        if q.2.state ≠ .decode ∨ x.battSlots = 0 then serveStatus s k c 2
        else enqueue s k c (.park h ttl c.accepted)

/-- CANCEL (R446, R452). -/
def serveCancel (s : Dev) (k : Nat) (c : Cmd) : Dev :=
  if c.len ≠ 8 then respond s c 4 0 0 else
  let h := leAt c.payload 0 8
  if (s.serve k).cfg.isNone then serveStatus s k c 2
  else if !(s.serve k).handleUsed h then serveStatus s k c 3
  else enqueue s k c (.cancel h c.accepted)

/-- The two records agree where R477 asks it: bytes 0 to 35 and from offset 64 on. -/
def ServeConfig.carriesOver (a b : ServeConfig) : Bool :=
  { a with first := b.first, last := b.last, mapOffset := b.mapOffset, mapGroups := b.mapGroups } == b

/-- The unit at a successor switch (R477): with records that agree everything carries over and a compose runs; otherwise
every sequence and batt ends and the queue is emptied. -/
def serveSwitch (s : Dev) (k : Nat) : Dev :=
  let v := s.serve k
  match v.cfg with
  | none => s.updServe k (fun v => { v with cfg := v.staged, staged := none })
  | some old =>
    let new := v.staged.getD old
    let ok := (s.planOf k).all new.fitsPlan
    let s := s.updServe k (fun v => { v with cfg := if ok then some new else none, staged := none })
    if ok && old.carriesOver new then triggerPass s k .initial
    else
      let s := v.seqs.foldl (fun s (p : Nat × Seq) => serveEvent s k (p.2.entry 7)) s
      let s := v.batts.foldl (fun s b => serveEvent s k (b.entry 13)) s
      s.updServe k (fun v => { v with
        seqs := [], batts := [], queue := [], placed := [], lastStatus := if v.queue.isEmpty then v.lastStatus else 2 })

/-- The unit at a cold load (R443). -/
def serveColdLoad (s : Dev) (k : Nat) : Dev := s.updServe k Serving.cleared

/-- SERVE_STATE (Table SV-18). -/
def Dev.serveState (s : Dev) (k : Nat) : Nat :=
  let v := s.serve k
  if v.cfg.isNone then 0 else if v.staged.isSome then 3 else if (s.part k).plan.state = 3 then 2 else 1

end Sys2Proof.Machine
end

