-- ==== Sys2Proof/Machine/DictRead.lean ====
section
/-!
DEFINITION. The value of every entry of the object dictionary, as the little-endian number of its bytes (R613). Byte strings
and octet strings are read the same way; a negative number stands in two's complement of its size.
-/
namespace Sys2Proof.Machine

/-- The number under which a principal's own selections are kept (R611). -/
def Principal.index : Principal → Nat
  | .hostAdmin => 0
  | .host k => 1 + k
  | .board => 17
  | .firmware => 18

/-- The bit of a principal in the masks of a dictionary row. -/
def Principal.bit : Principal → Nat
  | .hostAdmin => 0
  | .host _ => 1
  | .board => 2
  | .firmware => 3

/-- The selections of a principal (R611). -/
def Dev.selected (s : Dev) (who : Principal) : Selections := Sparse.get .reset s.select (Principal.index who)

/-- The bytes of an ASCII text. -/
def ascii (t : String) : Bytes := t.toList.map (fun c => BitVec.ofNat 8 c.toNat)

/-- A bit for each number below `n` that has a property. -/
def maskOf (n : Nat) (p : Nat → Bool) : Nat := ((List.range n).filter p).foldl (fun m i => m + 2 ^ i) 0

/-- TIME_STATE (Table BT-6). -/
def PartTime.state (t : PartTime) : Nat :=
  match t.mode with
  | .stopped => 0
  | .frozen => if t.bres.isSome then 5 else 4
  | .running => if t.slipping then 2 else if t.holdPoint.isSome then 3 else 1

/-- CC_STATE (Table CC-9). -/
def Core.stateCode (c : Core) : Nat :=
  match c.state with
  | .idle => 0
  | .running => 1
  | .due _ _ | .stalled _ _ => 2
  | .waiting _ => 3
  | .atEnd => 4
  | .napped => 5
  | .faulted => 6

/-- Partitions whose PLANNED_LINKS holds a link: at most one (R384). -/
def Dev.linkOwner (s : Dev) (l : Nat) : Option Nat := (List.range 16).find? (fun k => bit (s.part k).net.plannedLinks l)

/-- Device identity (Table MG-9). -/
def identityEntry (s : Dev) (sub : Nat) : Nat :=
  match sub with
  | 1 => leNat (ascii "Uhlivina")
  | 2 => leNat (ascii "Dravvik")
  | 3 => leNat (ascii (match s.fuses.factoryGrade with | 0 => "DV2-A640" | 1 => "DV2-B608" | _ => "DV2-C576"))
  | 4 => leNat (padTo 16 s.fuses.serial)
  | 5 => leNat (ascii "B0")
  | _ => 2

/-- Die identity (Table MG-10). -/
def dieEntry (s : Dev) (d sub : Nat) : Nat :=
  let x := s.fuses.dies.getD d ([], 0, 0, 0)
  match sub with
  | 1 => if d < 4 then 0 else 1
  | 2 => leNat (padTo 12 x.1)
  | 3 => x.2.1
  | 4 => ofSigned 16 x.2.2.1
  | _ => ofSigned 16 x.2.2.2

/-- HBM stack identity (Table MG-11). -/
def stackEntry (s : Dev) (i sub : Nat) : Nat :=
  let x := s.boot.hbmStacks.getD i (0, [])
  match sub with
  | 1 => x.1
  | 2 => leNat (padTo 16 x.2)
  | 3 => 64
  | _ => 16

/-- Tile and grade identity (Tables TL-7, PP-7, PP-12). -/
def gradeEntry (s : Dev) (sub : Nat) : Nat :=
  match sub with
  | 1 => s.enabledGroups
  | 2 => s.enabledTiles
  | 3 => 84 - s.enabledTiles / 8
  | 4 => s.grade
  | 5 => s.fuses.factoryGrade
  | 6 => s.fuses.factoryBad
  | 7 => s.fuses.fieldFused
  | 8 => s.fusing.foldl (fun m g => setBit m g true) 0
  | 9 => s.boot.spare
  | _ => s.power.clearingGroups

/-- Firmware and start-up (Table HI-13). -/
def startEntry (s : Dev) (sub : Nat) : Nat :=
  match sub with
  | 1 => s.fwVersion
  | 2 => s.boot.keySlot
  | 3 => s.stage
  | 4 => s.failCause
  | 5 => s.hostTotals.readyBc
  | 6 => s.fuses.fwMinVersion
  | _ => 50

/-- Device ID and failure domain (Tables MG-12, ER-11). -/
def deviceEntry (s : Dev) (sub : Nat) : Nat :=
  match sub with
  | 1 => s.deviceId
  | 2 => s.boot.sledSlot
  | 3 => boolNat s.mgmt.idConflict
  | _ => s.mgmt.failureDomain

/-- The timebase (Table BT-2). -/
def timebaseEntry (s : Dev) (sub : Nat) : Nat :=
  match sub with
  | 1 => s.time.bc
  | 2 => s.time.nextEpoch
  | 3 => s.time.sync
  | 4 => s.time.mismatches
  | _ => s.time.missed

/-- Clock configuration (Table CK-6). -/
def clockConfigEntry (s : Dev) (sub : Nat) : Nat :=
  match sub with
  | 1 => s.clockCfg.jitterLimit
  | 2 => s.clockCfg.dutyMin
  | 3 => s.clockCfg.dutyMax
  | 4 => s.clockCfg.tripThreshold
  | 5 => 4000
  | 6 => 16
  | _ => 4

/-- Fabric configuration (Table FB-7). -/
def fabricEntry (s : Dev) (sub : Nat) : Nat :=
  match sub with
  | 1 => s.router.tagCooldown
  | 2 => 4096
  | 3 => 88
  | 4 => 6
  | 5 => 256
  | _ => 65536

/-- Synchronisation configuration (Table SY-10). -/
def syncConfigEntry (s : Dev) (sub : Nat) : Nat :=
  match sub with
  | 1 => s.sync.bowWindow
  | 2 => s.sync.noticeRetry
  | 3 => 16
  | 4 => 256
  | 5 => 1024
  | _ => 512

/-- Serving limits (Table SV-17). -/
def serveLimit (sub : Nat) : Nat := [512, 256, 4096, 8388608, 16, 262144, 64, 8, 64, 1024].getD (sub - 1) 0

/-- Weight configuration (Table WT-9). -/
def weightConfigEntry (s : Dev) (sub : Nat) : Nat :=
  match sub with
  | 1 => 32
  | 2 => 65536
  | 3 => 256
  | _ => s.weightTotals.warmLead

/-- Integrity configuration (Table IN-11). -/
def integrityConfigEntry (s : Dev) (sub : Nat) : Nat :=
  match sub with
  | 1 => s.integrity.logThreshold
  | 2 => 4
  | 3 => 180
  | _ => 1

/-- Health configuration (Table MG-16). -/
def healthConfigEntry (s : Dev) (sub : Nat) : Nat :=
  match sub with
  | 1 => s.mgmt.watch
  | 2 => s.mgmt.expel
  | 3 => s.mgmt.hysteresis
  | 4 => s.mgmt.minIncidents
  | 5 => s.mgmt.window
  | 6 => scorePeriod
  | _ => incidentBeats

/-- The link-local address of a MAC address: fe80::/64 with the modified EUI-64 identifier (R624). -/
def linkLocal (mac : Bytes) : Bytes :=
  [0xFE, 0x80, 0, 0, 0, 0, 0, 0, mac.getD 0 0 ^^^ 0x02, mac.getD 1 0, mac.getD 2 0, 0xFF, 0xFE, mac.getD 3 0, mac.getD 4 0,
   mac.getD 5 0]

/-- The management port (Table MG-12). -/
def managementEntry (s : Dev) (sub : Nat) : Nat :=
  match sub with
  | 1 => boolNat s.mgmt.enable
  | 2 => leNat (padTo 6 s.fuses.mac)
  | 3 => leNat (linkLocal s.fuses.mac)
  | 4 => 1 + s.boot.sledSlot
  | 5 => 50611
  | _ => leNat (padTo 16 s.mgmt.notifyTarget)

/-- Partition time (Table BT-6). -/
def timeEntry (s : Dev) (k sub : Nat) : Nat :=
  let t := (s.part k).time
  match sub with
  | 1 => t.pbc
  | 2 => t.offset
  | 3 => t.opCurrent
  | 4 => s.horizon k
  | 5 => match s.planOf k with | some q => q.header.holdLimit | none => 0
  | 6 => t.state
  | 7 => t.slipCount
  | 8 => t.slipBeats
  | 9 => t.holdCount
  | 10 => t.holdBeats
  | 11 => t.lastHoldCause
  | 12 => t.lastHoldBc
  | 13 => t.lastHoldOrigin
  | _ => t.longestStill

/-- Partition memory (Table ME-11). -/
def partMemoryEntry (s : Dev) (k sub : Nat) : Nat :=
  let p := s.part k
  match sub with
  | 1 => p.hbm
  | 2 => p.cap
  | 3 => p.hbmCp
  | 4 => p.capCp
  | 5 => 304 - p.hbmCp
  | _ => 132 - p.capCp

/-- The plan of a partition (Table PI-13). -/
def planEntry (s : Dev) (k sub : Nat) : Nat :=
  let p := (s.part k).plan
  let ofPlan (f : Plan → Nat) : Nat := match p.plan with | some q => f q | none => 0
  match sub with
  | 1 => p.state
  | 2 => p.loadStatus
  | 3 => p.loadDetail
  | 4 => ofPlan (fun q => leNat q.hash)
  | 5 => ofPlan (fun q => leNat q.patchDigest)
  | 6 => p.format
  | 7 => ofPlan (fun q => q.header.rank)
  | 8 => p.stepIx
  | 9 => p.stintIx
  | 10 => ofPlan (fun q => q.hmin)
  | 11 => p.succState
  | 12 => p.succStatus
  | 13 => leNat p.succHash
  | _ => p.switches

/-- Partition fabric (Table FB-8). -/
def partFabricEntry (s : Dev) (k sub : Nat) : Nat :=
  let p := s.part k
  match sub with
  | 1 => p.fenceTag
  | 2 => p.net.plannedLinks
  | 3 => p.net.routeState
  | 4 => match p.net.route with | some r => r.ranks | none => 0
  | _ => maskOf 64 (s.openFor k)

/-- Partition synchronisation (Table SY-11); the barrier is the one the principal selects. -/
def partSyncEntry (s : Dev) (who : Principal) (k sub : Nat) : Nat :=
  let n := (s.part k).net
  let b := s.barrier k (s.selected who).barrier
  match sub with
  | 1 => n.treeState
  | 2 => n.parentLink
  | 3 => n.childLinks
  | 4 => n.bow.state
  | 5 => n.bow.serial
  | 6 => n.bow.failDev
  | 7 => n.bow.failCause
  | 8 => n.bow.failLinks
  | 9 => n.bow.startBc
  | 10 => boolNat n.parity
  | 11 => (s.selected who).barrier
  | 12 => b.n % 256
  | _ => (b.slot b.n).count % 4096 + (b.slot (b.n + 1)).count % 4096 * 2 ^ 12 + (b.slot b.n).children.length % 128 * 2 ^ 24

/-- Partition serving (Table SV-18). -/
def partServeEntry (s : Dev) (k sub : Nat) : Nat :=
  let v := s.serve k
  match sub with
  | 1 => s.serveState k
  | 2 => match v.cfg with | some c => leNat c.modelTag | none => 0
  | 3 => v.seqs.length
  | 4 => v.queue.length
  | 5 => v.batts.length
  | 6 => match v.cfg with | some c => c.npages - v.heldPages.length | none => 0
  | 7 => match v.cfg with | some c => c.battBlocks - (v.batts.map (·.blocks)).sum | none => 0
  | 8 => grammarStore - ((v.slots.filterMap id).map (·.2)).sum
  | 9 => v.lastPassBeats
  | _ => v.lastStatus

/-- Partition weights (Table WT-10). -/
def partWeightEntry (s : Dev) (k sub : Nat) : Nat :=
  let w := s.weights k
  match sub with
  | 1 => (w.batch 0).state
  | 2 => (w.batch 1).state
  | 3 => leNat (w.batch 0).digest
  | 4 => leNat (w.batch 1).digest
  | 5 => (w.batch 0).version
  | 6 => (w.batch 1).version
  | 7 => (w.batch 0).matched.length
  | 8 => (w.batch 1).matched.length
  | 9 => w.armPbc
  | _ => w.lastStatus

/-- Partition audit (Table DA-7). -/
def partAuditEntry (s : Dev) (k sub : Nat) : Nat :=
  let a := (s.part k).audit
  match sub with
  | 1 => a.stepBase
  | 2 => a.step
  | 3 => a.recordTile
  | 4 => a.recordOffset
  | 5 => a.recordLayers
  | 6 => a.recordsPosted
  | _ => a.lastRecordStep

/-- Tiles of a partition that nap (R566). -/
def Dev.nappedTiles (s : Dev) (k : Nat) : Nat :=
  ((s.partTiles k).filter (fun t => match (s.tile t).clock.gen with | .napped | .waking => true | _ => false)).length

/-- Partition composition (Table PP-8). -/
def compositionEntry (s : Dev) (k sub : Nat) : Nat :=
  let p := s.part k
  match sub with
  | 1 => p.groups
  | 2 => boolNat p.power.boostEnable
  | 3 => p.power.boostPriority
  | 4 => p.power.grantState
  | 5 => s.grantCost k
  | 6 => p.power.grants
  | 7 => p.power.withdrawals
  | 8 => s.nappedTiles k
  | _ => p.power.wakes

/-- Link configuration (Table LK-11). -/
def linkConfigEntry (s : Dev) (sub : Nat) : Nat :=
  match sub with
  | 1 => 64
  | 2 => s.router.dlpAllow
  | 3 => 4
  | 4 => 512
  | 5 => 32
  | 6 => 2048
  | _ => s.router.respTimeout

/-- A link (Table LK-12). -/
def linkEntry (s : Dev) (l sub : Nat) : Nat :=
  let x := s.link l
  match sub with
  | 1 => boolNat x.enable
  | 2 => x.st
  | 3 => x.dlp
  | 4 => x.peerDev
  | 5 => x.peerLink
  | 6 => x.peerGen
  | 7 => x.latency
  | 8 => x.roundTrip
  | 9 => boolNat x.latValid
  | 10 => boolNat x.long
  | 11 => x.replayTimeout
  | 12 => x.replayLimit
  | 14 => x.downCause
  | 15 => x.gen
  | _ => x.lastDownBc

/-- Link counters (Table LK-13). -/
def linkCounterEntry (s : Dev) (l sub : Nat) : Nat :=
  let c := (s.link l).cnt
  match sub with
  | 1 => c.cwCorrected
  | 2 => c.symbolsCorrected
  | 3 => c.cwUncorrectable
  | 4 => c.crcErrors
  | 5 => c.nakReplays
  | 6 => c.timeoutReplays
  | 7 => c.replayedFlits
  | 8 => c.duplicates
  | 9 => c.stallFlits
  | 10 => c.noticesSent
  | 11 => c.droppedPackets
  | 12 => c.synthCompletions
  | 13 => c.orphanResponses
  | 14 => c.linkDowns
  | 15 => c.probesSent
  | _ => c.maxReplays

/-- Link frames (Table FB-9). -/
def linkFrameEntry (s : Dev) (l sub : Nat) : Nat :=
  let x := s.link l
  match sub with
  | 1 => (s.linkOwner l).getD 0xFF
  | 2 => s.plannedSlots l
  | 3 => boolNat x.anchorPbc
  | 4 => x.cnt.plannedFlits
  | 5 => x.cnt.beFlits
  | 6 => x.cnt.fenceDrops
  | _ => x.cnt.queuePeak

/-- HBM (Tables ME-10, PP-12). -/
def hbmEntry (s : Dev) (sub : Nat) : Nat :=
  match sub with
  | 1 => 0x008000000000
  | 2 => 0x80000000
  | 3 => 0x00100000
  | 4 => 320
  | 5 => 16
  | 6 => s.power.clearingHbm
  | _ => s.power.clearingCap

/-- The capacity tier (Tables ME-10, PP-12). -/
def capEntry (s : Dev) (sub : Nat) : Nat :=
  match sub with
  | 1 => s.capGib
  | 2 => 16 * s.capGib * 2 ^ 30
  | 3 => 9600
  | 4 => 144
  | 5 => 12
  | _ => s.power.clearingCap

/-- A channel's integrity (Table IN-9). -/
def channelEntry (s : Dev) (c sub : Nat) : Nat :=
  let x := s.channel c
  match sub with
  | 1 => x.correctedWords
  | 2 => x.correctedPages
  | 3 => x.uncorrectablePages
  | 4 => x.lastBadAddr
  | 5 => x.epochCorrected
  | _ => boolNat x.scrubBusy

/-- Health score (Table MG-15). -/
def scoreEntries (s : Dev) (sub : Nat) : Nat :=
  match sub with
  | 1 => s.mgmt.score
  | 2 => s.mgmt.advice
  | 3 => s.mgmt.raw
  | 4 => s.mgmt.inWindow
  | 5 => s.mgmt.lastBc.getD 0
  | 6 => s.mgmt.lastCauses
  | 7 => sparePenalty s.boot.spare
  | _ => s.mgmt.lastEval

/-- Protocol counters (Table MG-17). -/
def protocolEntry (s : Dev) (sub : Nat) : Nat :=
  match sub with
  | 1 => s.mgmt.requests
  | 2 => s.mgmt.refusals
  | 3 => s.mgmt.duplicates
  | 4 => s.mgmt.malformed
  | 5 => s.mgmt.discards
  | _ => s.mgmt.idConflicts

/-- Error log state (Table ER-8). -/
def logEntries (s : Dev) (sub : Nat) : Nat :=
  match sub with
  | 1 => 64
  | 2 => s.log.queue.length
  | 3 => s.log.lastSeq
  | 4 => s.log.overflows
  | 5 => match s.log.handling with | some e => e.cls | none => 0xFF
  | 6 => s.log.nestedErrors
  | 7 => s.log.escalations
  | 8 => s.log.correctedLogged
  | 9 => s.log.contained
  | 10 => s.log.jobFatal
  | _ => s.log.deviceFatal

/-- The dump (Table ER-10). -/
def dumpEntry (s : Dev) (sub : Nat) : Nat :=
  match sub with
  | 1 => s.dump.state
  | 2 => s.dump.bytes
  | 3 => s.dump.triggerSeq
  | 4 => s.dump.bc
  | 5 => leNat s.dump.digest
  | _ => 268435456

/-- The last-gasp record as published (Table ER-10): zeros until LG_VALID is 1. -/
def gaspEntry (s : Dev) (sub : Nat) : Nat :=
  if !s.gasp.valid then 0
  else match sub with
    | 1 => 1
    | 2 => s.gasp.bc
    | sub => leNat (slice s.gasp.area (128 * (sub - 3)) 128)

/-- Clock health totals (Table CK-7). -/
def clockTotalEntry (s : Dev) (sub : Nat) : Nat :=
  let c := s.clockTotals
  match sub with
  | 1 => c.stretches
  | 2 => c.gaps
  | 3 => c.readWaits
  | 4 => c.writeWaits
  | 5 => c.jitterTrips
  | 6 => c.dutyTrips
  | 7 => c.escalations
  | 8 => c.lastEscTile
  | 9 => c.lastEscCause
  | _ => c.lastEscBc

/-- Tile health totals (Table TL-8). -/
def tileTotalEntry (s : Dev) (sub : Nat) : Nat :=
  let c := s.tileTotals
  match sub with
  | 1 => c.queueFullStalls
  | 2 => c.latePeriods
  | 3 => c.bankConflicts
  | 4 => c.conflictPeriods
  | 5 => c.orderFaults
  | 6 => c.engineOverlaps
  | 7 => c.writeCollisions
  | 8 => c.lastFaultTile
  | _ => c.lastFaultBc

/-- Control-core, format, accumulation, operation, forest, plan and audit totals (Tables CC-8, NF-7, XA-10, TO-13, FR-9, PI-15,
DA-9), by base index. -/
def opTotalEntry (s : Dev) (base sub : Nat) : Nat :=
  let o := s.opTotals
  let l := match base with
    | 0x6031 => [o.ccFaults, o.waitPeriods, o.naps, o.lateRejoins]
    | 0x6040 => [o.saturations, o.nanResults, o.nanBlocks, o.intNanZeros, o.formatFaults]
    | 0x6041 => [o.windowExceptions, o.accOverflows, o.exactDots, o.fastDots]
    | 0x6042 => [o.descriptorFaults, o.feedFaults, o.indexRange, o.digestRewrites]
    | 0x6043 => [o.forestWalks, o.depthOverruns, o.nodeRange, o.featureRange, o.layoutEvents, o.samples]
    | 0x6060 => [o.imemRefusals, o.planRefusals, o.sealWaitBeats, o.lastRefusedTile]
    | _ => [o.runRecords, o.tableFaults, o.incompleteRecords, o.reproFastFaults]
  l.getD (sub - 1) 0

/-- Memory totals (Table ME-12). -/
def memTotalEntry (s : Dev) (sub : Nat) : Nat :=
  let m := s.memTotals
  [m.requests, m.fullWaits, m.boundOverruns, m.addressFaults, m.addressRejects, m.cpHeldBeats, m.landingFullPeriods].getD
    (sub - 1) 0

/-- Link totals (Table LK-14). -/
def linkTotalEntry (s : Dev) (sub : Nat) : Nat :=
  let r := s.router
  [r.linkDowns, r.replays, r.uncorrectable, r.respTimeouts, r.ortFullWaits].getD (sub - 1) 0

/-- Fabric totals (Table FB-10). -/
def fabricTotalEntry (s : Dev) (sub : Nat) : Nat :=
  let r := s.router
  [r.fenceDrops, r.badKind, r.unroutable, r.rankDrops, r.staleDrops, r.parkRejects, r.mgmtDrops, r.plannedDrops,
   r.plannedOverflows, 0, r.remoteFails].getD (sub - 1) 0

/-- Synchronisation totals (Table SY-12). -/
def syncTotalEntry (s : Dev) (sub : Nat) : Nat :=
  let y := s.sync
  [y.rounds, y.overruns, y.mismatches, y.staleTree, y.signalsDelivered, y.signalHoldBeats, y.rejectedSignals, y.pathOverflows,
   y.noticesDelivered, y.noticeBusy, y.noticeFails, y.bowAborts].getD (sub - 1) 0

/-- Serving totals (Table SV-19). -/
def serveTotalEntry (s : Dev) (sub : Nat) : Nat :=
  let t := s.serveTotals
  [t.tokens, t.proposed, t.accepted, t.selections, t.nanLogits, t.noTokenEnds, t.pageWaits, t.topPTruncations, t.passOverruns,
   t.battExpiries, t.digestFails, t.parks].getD (sub - 1) 0

/-- Weight totals (Table WT-12). -/
def weightTotalEntry (s : Dev) (sub : Nat) : Nat :=
  let w := s.weightTotals
  [w.mismatches, w.signatureFails, w.refusals, w.switches, w.bytesHashed].getD (sub - 1) 0

/-- Integrity totals and the self-test (Table IN-8). -/
def integrityTotalEntry (s : Dev) (sub : Nat) : Nat :=
  let i := s.integrity
  match sub with
  | 16 => i.firstFailChecker
  | 17 => i.firstFailUnit
  | sub =>
    [i.tsCorrected, i.tsUncorrectable, i.imemCorrected, i.memCorrectedWords, i.memCorrectedPages, i.memUncorrectablePages,
     i.poisonWrites, i.residueFaults, i.arrayCorrected, i.writebacksDiscarded, i.rmwWrites, i.scrubs, i.selftestState,
     i.selftestFails].getD (sub - 1) 0

/-- Power totals (Table PP-11). -/
def powerTotalEntry (s : Dev) (sub : Nat) : Nat :=
  let p := s.power
  [p.paceBeats, p.thermalStops, p.fuseCandidates, p.regrades].getD (sub - 1) 0

/-- Host interface totals (Table HI-13). -/
def hostTotalEntry (s : Dev) (sub : Nat) : Nat :=
  let h := s.hostTotals
  [h.ringDrops, h.headerRejects, h.commands].getD (sub - 1) 0

/-- Power (Table PP-9). -/
def powerEntry (s : Dev) (sub : Nat) : Nat :=
  match sub with
  | 1 => s.power.powerLimit
  | 2 => 2400
  | 3 => 2800
  | 4 => s.power.packagePower
  | 5 => s.power.grantMargin
  | sub => [7, 4096, 64, 128, 16].getD (sub - 6) 0

/-- Thermal (Table PP-10). -/
def thermalEntry (s : Dev) (sub : Nat) : Nat :=
  match sub with
  | 1 => ofSigned 16 s.power.tjHottest
  | 2 => s.power.tjSensor
  | 3 => ofSigned 16 s.power.hbmHottest
  | 4 => s.power.boostTjMax
  | 5 => s.power.paceTj
  | 6 => 105
  | 7 => 115
  | _ => s.power.thermalState

/-- Versions (Tables MG-8a, HI-13, PI-14, LK-15, SV-20, WT-13, DA-10), by base index. -/
def versionEntry (s : Dev) (base sub : Nat) : Nat :=
  match base, sub with
  | 0x8000, 1 => 1
  | 0x8000, 4 => leNat ((List.range 17).flatMap (fun f => leBytes 2 (s.fn f).proto))
  | 0x8000, 5 => maskOf 64 (fun l => (s.link l).st == 4 && (s.link l).dlp == 0x0201)
  | 0x8000, 6 => maskOf 64 (fun l => (s.link l).st == 4 && (s.link l).dlp == 0x0103)
  | 0x8000, _ => 0x10
  | 0x8010, _ => 0x0100
  | 0x8020, 1 => 2
  | 0x8020, _ => 0
  | 0x8030, 1 => 3
  | 0x8030, _ => 0x0201
  | _, _ => 1

/-- Per-region diagnostics (Table CK-8); MAX_DEFICIT is shown in whole picoseconds. -/
def regionEntry (s : Dev) (who : Principal) (sub : Nat) : Nat :=
  let t := (s.selected who).region
  let c := (s.tile t).clock
  match sub with
  | 1 => t
  | 2 => s.regionState t
  | 3 => c.stretches
  | 4 => c.gaps
  | 5 => c.readWaits
  | 6 => c.readWaitPs
  | 7 => c.writeWaits
  | 8 => c.jitterTrips
  | 9 => c.dutyTrips
  | 10 => c.epochTrips
  | _ => min 4000 (c.maxDeficit / 408)

/-- Tile diagnostics (Tables TL-9, CC-9, ME-13, PI-16, SY-13), by base index, of the selected tile. -/
def tileEntry (s : Dev) (who : Principal) (base sub : Nat) : Nat :=
  let x := s.tile (s.selected who).region
  match base with
  | 0x9030 => [x.imemActive, x.eng.queueFullStalls, x.eng.latePeriods, x.eng.bankConflicts, x.eng.conflictPeriods, x.eng.lastFault,
      x.eng.lastFaultCycle, x.eng.lastFaultUnit].getD (sub - 1) 0
  | 0x9031 => [x.core.stateCode, x.core.pc, x.core.faultCause, x.core.waitPeriods, x.core.lastWaitKind,
      x.core.inbox.length].getD (sub - 1) 0
  | 0x9050 =>
    if 3 ≤ sub ∧ sub ≤ 10 then (x.mq.counts.getD (sub - 3) 0).toNat
    else match sub with
      | 1 => x.mq.entries.length
      | 2 => x.mq.bufferLines
      | 11 => x.mq.fullWaits
      | 12 => x.mq.boundOverruns
      | 13 => x.mq.landingFullPeriods
      | _ => x.mq.lastFaultAddr
  | 0x9060 => [boolNat x.sealed0 + 2 * boolNat x.sealed1, x.imemRefusals, x.lastRefusedOffset, x.lastRefusalSource].getD (sub - 1) 0
  | _ => (x.signals.getD (sub - 1) 0).toNat

/-- The output of the generator for a principal's own inputs (R517, R518, R527): Y0 to Y3. -/
def cbgOutput (x : Selections) : Bytes :=
  let w := cbgBlock x.cbgSeed x.cbgStep x.cbgTensor x.cbgCounter
  (List.range 4).flatMap (fun j => leBytes 4 (w.word j))

/-- Generator diagnostics (Table DA-8). -/
def cbgEntry (s : Dev) (who : Principal) (sub : Nat) : Nat :=
  let x := s.selected who
  match sub with
  | 1 => x.cbgSeed
  | 2 => x.cbgStep
  | 3 => x.cbgTensor
  | 4 => x.cbgCounter
  | _ => leNat (cbgOutput x)

/-- Fault injection (Table IN-10). -/
def injectEntry (s : Dev) (sub : Nat) : Nat :=
  let i := s.integrity
  match sub with
  | 1 => i.injectTarget
  | 2 => i.injectAddr
  | 3 => i.injectMask
  | 4 => i.injectTile
  | _ => i.injectState

/-- The value of an entry for a principal, as a number. -/
def entryNat (s : Dev) (who : Principal) (base inst sub : Nat) : Nat :=
  match base with
  | 0x1000 => identityEntry s sub
  | 0x1010 => dieEntry s inst sub
  | 0x1020 => stackEntry s inst sub
  | 0x1030 => gradeEntry s sub
  | 0x1040 => startEntry s sub
  | 0x2000 => deviceEntry s sub
  | 0x2010 => timebaseEntry s sub
  | 0x2020 => clockConfigEntry s sub
  | 0x2030 => fabricEntry s sub
  | 0x2040 => syncConfigEntry s sub
  | 0x2050 => serveLimit sub
  | 0x2060 => weightConfigEntry s sub
  | 0x2070 => integrityConfigEntry s sub
  | 0x2080 => healthConfigEntry s sub
  | 0x2090 => managementEntry s sub
  | 0x3010 => timeEntry s inst sub
  | 0x3020 => partMemoryEntry s inst sub
  | 0x3030 => planEntry s inst sub
  | 0x3040 => partFabricEntry s inst sub
  | 0x3050 => partSyncEntry s who inst sub
  | 0x3060 => partServeEntry s inst sub
  | 0x3070 => partWeightEntry s inst sub
  | 0x3080 => leNat (padTo 96 ((s.weights inst).keys.getD (sub - 1) []))
  | 0x3090 => partAuditEntry s inst sub
  | 0x30A0 => (s.part inst).audit.seeds.getD (sub - 1) 0
  | 0x30B0 => compositionEntry s inst sub
  | 0x4000 => linkConfigEntry s sub
  | 0x4100 => linkEntry s inst sub
  | 0x4200 => linkCounterEntry s inst sub
  | 0x4300 => linkFrameEntry s inst sub
  | 0x5000 => hbmEntry s sub
  | 0x5010 => capEntry s sub
  | 0x5100 => channelEntry s inst sub
  | 0x6000 => scoreEntries s sub
  | 0x6001 => if sub = 9 then leNat s.mgmt.stateBytes else s.mgmt.penalties.getD (sub - 1) 0
  | 0x6002 => protocolEntry s sub
  | 0x6010 => logEntries s sub
  | 0x6011 => match s.log.entries[sub - 1]? with | some e => leNat e.toBytes | none => 0
  | 0x6012 => dumpEntry s sub
  | 0x6013 => gaspEntry s sub
  | 0x6020 => clockTotalEntry s sub
  | 0x6030 => tileTotalEntry s sub
  | 0x6050 => memTotalEntry s sub
  | 0x6070 => linkTotalEntry s sub
  | 0x6080 => fabricTotalEntry s sub
  | 0x6090 => syncTotalEntry s sub
  | 0x60A0 => serveTotalEntry s sub
  | 0x60B0 => weightTotalEntry s sub
  | 0x60D0 => integrityTotalEntry s sub
  | 0x60E0 => powerTotalEntry s sub
  | 0x6100 => hostTotalEntry s sub
  | 0x7000 => powerEntry s sub
  | 0x7010 => thermalEntry s sub
  | 0x9020 => regionEntry s who sub
  | 0x9030 => tileEntry s who base sub
  | 0x9031 => tileEntry s who base sub
  | 0x9050 => tileEntry s who base sub
  | 0x9060 => tileEntry s who base sub
  | 0x9070 => tileEntry s who base sub
  | 0x9080 => cbgEntry s who sub
  | 0x9090 => injectEntry s sub
  | b => if b < 0x8000 then opTotalEntry s b sub else versionEntry s b sub

/-- Whether a principal stands among the readers or writers of an entry: the mask of its row; in a partition's subtree only the
host principal of that partition (R610); of the diagnostics of a tile only where the selection names a tile of its partition
(R95); of a channel only where its partition holds the channel (R559). -/
def Dev.entryRight (s : Dev) (who : Principal) (mask base inst sub : Nat) : Bool :=
  bit mask (Principal.bit who) && (match who with
    | .host k =>
      if 0x3000 ≤ base ∧ base < 0x4000 then inst == k.val
      else if (base = 0x9020 ∧ sub ≠ 1) ∨ base = 0x9030 ∨ base = 0x9031 ∨ base = 0x9050 ∨ base = 0x9060 ∨ base = 0x9070 then
        s.partOfTile (s.selected who).region == some k.val
      else if base = 0x5100 then s.partOfChannel inst == some k.val
      else true
    | _ => true)

/-- A READ of one entry (R610, R613 to R619): its status, its row, and its bytes. A TYPE of 0 accepts any type. -/
def readItem (s : Dev) (who : Principal) (ix sub ty : Nat) : Nat × Option DictRow × Bytes :=
  match dictRow ix sub with
  | none => (1, none, [])
  | some r =>
    let b := dictBase ix
    if r.mode = 2 then (2, some r, [])
    else if !s.entryRight who r.readers b.1 b.2 sub then (4, some r, [])
    else if ty ≠ 0 ∧ ty ≠ r.ty then (6, some r, [])
    else (0, some r, leBytes r.size (entryNat s who b.1 b.2 sub))

end Sys2Proof.Machine
end

