-- ==== Sys2Proof/Machine/HostRegs.lean ====
section
/-!
DEFINITION. The function registers (20): what writes and reads of them do, and what a function reset clears.
-/
namespace Sys2Proof.Machine

/-- Whether a register access of a function reaches it: the PCIe link is up, the function exists, and it is not being
cleared (R582, R602). -/
def Dev.registersOpen (s : Dev) (f : Nat) : Bool :=
  s.pcie.linkUp && s.fnEnabled f && !(s.fn f).clearing && s.stage != 0

/-- The bits of HI_ERR (Table HI-2). -/
def doorbellBad : Nat := 0
def headBad : Nat := 1
def ringConfigBad : Nat := 2
def protoBad : Nat := 3
def mbxBusy : Nat := 4

/-- HI_RING_CTRL of a ring (Table HI-4). -/
def Ring.ctrl (r : Ring) : Nat :=
  boolNat r.enable + 2 * r.sizeLog2 + 256 * r.vector + 65536 * r.modCount + 16777216 * r.modUs

/-- Rings that a function has (Table HI-2). -/
def hasRing (f r : Nat) : Bool := decide (r < 4) && !(f == 0 && decide (2 ≤ r))

/-- Vectors of a function (R600). -/
def vectorCount (f : Nat) : Nat := if f = 0 then 32 else 8

/-- A 4-byte read of the MSI-X table or the PBA: entry `v` holds its address, its data, and the mask in bit 0 of its last word
(R582; assumption 88). -/
def HostFn.readMsix (x : HostFn) (f off : Nat) : Nat :=
  let v := (off - 0x8000) / 16
  if off = 0x9000 then x.pba
  else if off < 0x8000 ∨ vectorCount f ≤ v then 0
  else
    let e := Sparse.get (0, 0) x.msix v
    match off % 16 with
    | 0 => e.1 % 2 ^ 32
    | 4 => e.1 / 2 ^ 32
    | 8 => e.2
    | 12 => boolNat (bit x.masked v)
    | _ => 0

/-- A read of a function register (Table HI-2): a function that is being cleared answers its reset values (R602). -/
def Dev.readRegister (s : Dev) (f off : Nat) : Nat :=
  let x := if (s.fn f).clearing then HostFn.reset else s.fn f
  match off with
  | 0x0000 => 0x0002D7A1
  | 0x0004 => f
  | 0x0008 =>
    if (s.fn f).clearing then 0 else if s.halted then s.boot.frozen.getD f 0 else s.hiStatus f
  | 0x000C => x.err
  | 0x0010 => if (s.fn f).clearing then 0 else s.time.bc
  | 0x0018 => x.proto
  | 0x0024 => x.consumed
  | 0x0028 => x.sqShadow
  | 0x0200 => x.bulkBase.getD 0 0
  | 0x0208 => x.bulkSize.getD 0 0
  | 0x0210 => x.bulkBase.getD 1 0
  | 0x0218 => x.bulkSize.getD 1 0
  | off =>
    let r := (off - 0x40) / 0x40
    if 0x8000 ≤ off then x.readMsix f off
    else if off < 0x40 ∨ 0x140 ≤ off ∨ ¬ hasRing f r then 0
    else match off % 0x40 with
      | 0x00 => (x.ring r).base
      | 0x08 => (x.ring r).ctrl
      | 0x10 => (x.ring r).head
      | 0x18 => (x.ring r).tail
      | 0x20 => (x.ring r).shadow
      | 0x28 => (x.ring r).drops
      | _ => 0

/-- Whether an enable of a ring is refused (R596). -/
def Dev.ringRefused (s : Dev) (f r : Nat) : Bool :=
  let g := (s.fn f).ring r
  decide (g.sizeLog2 < 16) || decide (30 < g.sizeLog2) || g.base % g.size != 0
    || decide ((if f = 0 then 31 else 7) < g.vector) || (r == 0 && (s.fn f).proto == 0)
    || (r == 3 && decide (g.sizeLog2 < 17))

/-- A ring is enabled: head and tail restart, and for RSP the packet counts too (R596). -/
def enableRing (s : Dev) (f r : Nat) : Dev :=
  s.updFn f (fun x =>
    let x := x.updRing r (fun g => { g with enable := true, head := 0, tail := 0, unsignalled := 0 })
    if r = 0 then { x with produced := 0, consumed := 0, window := [] } else x)

/-- A ring is disabled: for RSP, packets not yet accepted are discarded (R596). -/
def disableRing (s : Dev) (f r : Nat) : Dev :=
  s.updFn f (fun x =>
    let x := x.updRing r (fun g => { g with enable := false })
    if r = 0 then { x with window := [] } else x)

/-- RING_ENABLE and every other write of HI_RING_CTRL (R596, Table HI-4). -/
def ringCtrlWrite (s : Dev) (f r v : Nat) : Dev :=
  if !s.registersOpen f || !hasRing f r then s else
  let g := (s.fn f).ring r
  let size := bits v 1 5
  let vector := bits v 8 5
  let s := s.updFn f (·.updRing r (fun g => { g with modCount := bits v 16 8, modUs := bits v 24 8 }))
  if g.enable then
    let s := if size ≠ g.sizeLog2 ∨ vector ≠ g.vector then s.hiErr f ringConfigBad else s
    if bit v 0 then s else disableRing s f r
  else
    let s := s.updFn f (·.updRing r (fun g => { g with sizeLog2 := size, vector := vector }))
    if !bit v 0 then s
    else if s.ringRefused f r then s.hiErr f ringConfigBad
    else enableRing s f r

/-- RING_HEAD_WRITE (R596). -/
def ringHeadWrite (s : Dev) (f r v : Nat) : Dev :=
  if !s.registersOpen f || !hasRing f r then s else
  let g := (s.fn f).ring r
  if v < g.head ∨ g.tail < v then s.hiErr f headBad else s.updFn f (·.updRing r (fun g => { g with head := v }))

/-- RING_DROPS_READ (R599): the count is returned and cleared. -/
def ringDropsRead (s : Dev) (f r : Nat) : Dev :=
  if !s.registersOpen f || !hasRing f r then s
  else { s.updFn f (·.updRing r (fun g => { g with drops := 0 })) with readData := leBytes 4 ((s.fn f).ring r).drops }

/-- PROTO_SELECT_WRITE (R584): this issue supports version 1.0 alone. -/
def protoSelectWrite (s : Dev) (f v : Nat) : Dev :=
  if !s.registersOpen f then s
  else if v = 0x0100 then s.updFn f (fun x => { x with proto := v })
  else s.hiErr f protoBad

/-- A write of a bulk-window register (R583). -/
def bulkWrite (s : Dev) (f v : Nat) (g : HostFn → HostFn) : Dev :=
  if v % 4096 = 0 then s.updFn f g else s.hiErr f ringConfigBad

/-- A write of a ring register other than HI_RING_CTRL and HI_RING_HEAD (R583, R596). -/
def ringRegisterWrite (s : Dev) (f r field v : Nat) : Dev :=
  if !hasRing f r then s else
  match field with
  | 0x00 =>
    if ((s.fn f).ring r).enable then s.hiErr f ringConfigBad else s.updFn f (·.updRing r (fun g => { g with base := v }))
  | 0x20 => if v % 8 = 0 then s.updFn f (·.updRing r (fun g => { g with shadow := v })) else s.hiErr f ringConfigBad
  | _ => s

/-- The pending vectors that may send now do (R600). -/
def HostFn.sendPending (x : HostFn) (f : Nat) : HostFn :=
  (List.range (vectorCount f)).foldl (fun x v =>
    if bit x.pba v && !x.vectorMasked v then
      { x with pba := setBit x.pba v false, messages := Sparse.set 0 x.messages v (Sparse.get 0 x.messages v + 1) }
    else x) x

/-- A 4-byte write of the MSI-X table (R582, R600). -/
def HostFn.writeMsix (x : HostFn) (f off v : Nat) : HostFn :=
  let i := (off - 0x8000) / 16
  let e := Sparse.get (0, 0) x.msix i
  if vectorCount f ≤ i then x
  else match off % 16 with
    | 0 => { x with msix := Sparse.set (0, 0) x.msix i (e.1 / 2 ^ 32 * 2 ^ 32 + v % 2 ^ 32 / 4 * 4, e.2) }
    | 4 => { x with msix := Sparse.set (0, 0) x.msix i (v % 2 ^ 32 * 2 ^ 32 + e.1 % 2 ^ 32, e.2) }
    | 8 => { x with msix := Sparse.set (0, 0) x.msix i (e.1, v % 2 ^ 32) }
    | 12 => HostFn.sendPending { x with masked := setBit x.masked i (bit v 0) } f
    | _ => x

/-- A write of a function register without a row of its own (R583): `v` in the register's width. Writes to unlisted offsets
and to read-only registers are ignored. -/
def plainRegisterWrite (s : Dev) (f off v : Nat) : Dev :=
  if !s.registersOpen f then s else
  match off with
  | 0x000C => s.updFn f (fun x => { x with err := x.err - (x.err &&& v) })
  | 0x0028 => if v % 8 = 0 then s.updFn f (fun x => { x with sqShadow := v }) else s.hiErr f ringConfigBad
  | 0x0200 => bulkWrite s f v (fun x => { x with bulkBase := x.bulkBase.set 0 v })
  | 0x0208 => bulkWrite s f v (fun x => { x with bulkSize := x.bulkSize.set 0 v })
  | 0x0210 => bulkWrite s f v (fun x => { x with bulkBase := x.bulkBase.set 1 v })
  | 0x0218 => bulkWrite s f v (fun x => { x with bulkSize := x.bulkSize.set 1 v })
  | off =>
    if 0x8000 ≤ off then s.updFn f (·.writeMsix f off v)
    else if off < 0x40 ∨ 0x140 ≤ off then s
    else if off % 0x40 = 0x08 then ringCtrlWrite s f ((off - 0x40) / 0x40) (v % 2 ^ 32)
    else if off % 0x40 = 0x10 then ringHeadWrite s f ((off - 0x40) / 0x40) v
    else ringRegisterWrite s f ((off - 0x40) / 0x40) (off % 0x40) v

/-- A write into HI_MBX_IN (Table HI-2). -/
def mailboxWrite (s : Dev) (f off : Nat) (d : Bytes) : Dev :=
  if !s.registersOpen f then s
  else s.updFn f (fun x => { x with mbxIn := overlay (padTo 4096 x.mbxIn) off d })

/-- A write of HI_MBX_DOORBELL (R601): a frame of the kind goes to firmware, or MBX_BUSY is set before FW_INIT or while the
frame before it has not been taken. -/
def mailboxDoorbell (s : Dev) (f v kind : Nat) : Dev :=
  if !s.registersOpen f || bits v 12 4 != kind then s
  else if !s.fwRunning || (s.fn f).mbxFrame.isSome then s.hiErr f mbxBusy
  else
    let n := if v % 4096 = 0 then 4096 else v % 4096
    s.updFn f (fun x => { x with mbxFrame := some (kind, slice x.mbxIn 0 n) })

/-- A notice of a host function (R427, R428, R432): firmware stamps its identity and puts it into the firmware inbox, which
holds 256; a notice that finds it full stays in the mailbox. -/
def takeHostNotice (s : Dev) (f : Nat) : Dev :=
  match (s.fn f).mbxFrame with
  | some (2, d) =>
    if 256 ≤ s.router.fwInbox.length then s
    else
      let sender := if f = 0 then 0xE1 else 256 * (f - 1) + 0xE0
      let body := padTo 11 d ++ leBytes 5 (sender + s.deviceId % 2 ^ 20 * 2 ^ 12)
      { s.updFn f (fun x => { x with mbxFrame := none }) with
        router := { s.router with fwInbox := s.router.fwInbox ++ [body] } }
  | _ => s

/-- Bytes of backlog that an entry of RSP for one more response takes (R599). -/
def HostFn.blocked (x : HostFn) : Bool := decide (2 ^ 20 < x.backlogBytes + 48 * (x.owed + 1))

/-- What a function-level reset clears (R602): registers, rings, backlog and unaccepted packets. Streams of accepted packets
and the messages sent are kept. -/
def functionReset (s : Dev) (f : Nat) : Dev :=
  s.updFn f (fun x => { HostFn.reset with streams := x.streams, gen := x.gen + 1, clearing := true, messages := x.messages })

/-- FUNCTION_LEVEL_RESET (R602): of one function. -/
def functionLevelReset (s : Dev) (f : Nat) : Dev :=
  if s.pcie.linkUp && s.fnEnabled f then functionReset s f else s

/-- FUNCTION_LEVEL_RESET_DONE (R602). -/
def functionLevelResetDone (s : Dev) (f : Nat) : Dev := s.updFn f (fun x => { x with clearing := false })

/-- Every function is treated as after a function-level reset (R602). -/
def resetFunctions (s : Dev) : Dev := (List.range 17).foldl functionReset s

/-- PCIE_LINK_LOSS (R602): loss of the link, or a hot reset. -/
def pcieLinkLoss (s : Dev) : Dev :=
  if s.pcie.linkUp then resetFunctions { s with pcie := { s.pcie with linkUp := false } } else s

/-- PCIE_FUNDAMENTAL_RESET (R678): PERST_N asserted alone acts as a hot reset. -/
def perstAssert (s : Dev) : Dev :=
  let s := pcieLinkLoss s
  { s with pcie := { s.pcie with perst := true } }

/-- PERST_N_RELEASE (R678): the endpoint comes up again unless the device is in reset. -/
def perstRelease (s : Dev) : Dev :=
  if !s.pcie.perst then s else { s with pcie := { s.pcie with perst := false, linkUp := s.stage != 0 } }

/-- CONFIGURATION_REQUEST (R581): Bus Master Enable of a function. A configuration request shows that the link is up. -/
def configBusMaster (s : Dev) (f : Nat) (b : Bool) : Dev :=
  if s.stage = 0 ∨ s.pcie.perst then s
  else
    let s := { s with pcie := { s.pcie with linkUp := true } }
    if s.fnEnabled f then s.updFn f (fun x => { x with busMaster := b }) else s

/-- CONFIGURATION_REQUEST (R600): MSI-X Enable and Function Mask of a function. -/
def configMsix (s : Dev) (f : Nat) (enable mask : Bool) : Dev :=
  if s.stage = 0 ∨ s.pcie.perst then s
  else
    let s := { s with pcie := { s.pcie with linkUp := true } }
    if s.fnEnabled f then s.updFn f (fun x => HostFn.sendPending { x with msixOn := enable, allMasked := mask } f) else s

/-- CONFIGURATION_REQUEST (R580, R581): NumVFs; a virtual function that is no longer enabled holds nothing. -/
def configNumVfs (s : Dev) (n : Nat) : Dev :=
  if s.stage = 0 ∨ s.pcie.perst ∨ 16 < n then s
  else
    let s := { s with pcie := { s.pcie with linkUp := true, numVfs := n } }
    (List.range 17).foldl (fun s f =>
      if n < f then s.updFn f (fun x => { HostFn.reset with streams := x.streams, gen := x.gen + 1, messages := x.messages })
      else s) s

/-- CONFIGURATION_REQUEST (R580, R581). -/
def configurationRequest (s : Dev) (w : ConfigWrite) : Dev :=
  match w with
  | .busMaster f b => configBusMaster s f b
  | .msix f e m => configMsix s f e m
  | .numVfs n => configNumVfs s n

/-- INTERRUPT_HOLDOFF (R600): MOD_US microseconds, of 250 beats each, after an unsignalled entry. -/
def interruptHoldoff (s : Dev) (f r : Nat) : Dev :=
  let g := (s.fn f).ring r
  if g.modUs ≠ 0 ∧ g.unsignalled ≠ 0 ∧ g.unsignalledBc + 250 * g.modUs ≤ s.time.bc ∧ s.canPost f r then signalRing s f r
  else s

end Sys2Proof.Machine
end

