-- ==== Sys2Proof/Machine/PlanImage.lean ====
section
/-!
DEFINITION. Plan images (11): reading the container and the checks of Table PI-11.
-/
namespace Sys2Proof.Machine

/-- The image header (Table PI-3). -/
def ImageHeader.parse (b : Bytes) : ImageHeader :=
  { magic := leAt b 0 4, major := leAt b 4 2, minor := leAt b 6 2, bytes := leAt b 8 8, sectionCount := leAt b 16 4
    sectionTable := leAt b 20 4, rank := leAt b 24 4, ranks := leAt b 28 4, crownRank := leAt b 32 4, h := leAt b 36 2
    barrierIds := leAt b 38 2, holdLimit := leAt b 40 4, hbmCp := byteAt b 44, capCp := byteAt b 45
    successor := bit (byteAt b 46) 0, reproducible := bit (byteAt b 46) 1, shards := leAt b 48 4, opword := leAt b 52 4 }

/-- A section table entry (Table PI-4). -/
def Section.parse (b : Bytes) : Section := ⟨leAt b 0 2, leAt b 4 4, leAt b 8 8, leAt b 16 8, leAt b 24 8⟩

/-- Control sections have types 0x01 to 0x0B (R311). -/
def Section.control (x : Section) : Bool := decide (x.type < 0x10)
/-- The tile of an IMEM or STORE section (Table PI-4). -/
def Section.tile (x : Section) : Nat := x.target % 1024
/-- The plan bank of an IMEM section (Table PI-4). -/
def Section.bank (x : Section) : Nat := bits x.target 16 1

/-- Step record `i` (Table PI-6). -/
def StepRec.parse (b : Bytes) : StepRec :=
  ⟨byteAt b 0, bit (byteAt b 1) 0, bit (byteAt b 1) 1, bit (byteAt b 1) 2, leAt b 2 2, leAt b 4 4, leAt b 8 4, leAt b 12 4⟩
/-- A stint record (Table PI-7). -/
def StintRec.parse (b : Bytes) : StintRec := ⟨leAt b 0 2 % 8192, bit (leAt b 0 2) 13, leAt b 2 2⟩
/-- A link record (R316). -/
def LinkRec.parse (b : Bytes) : LinkRec := ⟨leAt b 0 2, leAt b 2 4, byteAt b 6, leAt b 8 2, leAt b 10 4⟩
/-- A transfer record (Table PI-8). -/
def TransferRec.parse (b : Bytes) : TransferRec :=
  { step := leAt b 0 4, sendLast := leAt b 4 4, use := leAt b 8 4
    path := ((slice b 12 4).map (·.toNat)).takeWhile (· != 0xFF), bytes := leAt b 16 4, replayAllow := byteAt b 20
    destTile := leAt b 22 2, aOff := leAt b 24 4, w := leAt b 28 4 }
/-- A patch record (Table PI-10). -/
def PatchRec.parse (b : Bytes) : PatchRec :=
  ⟨byteAt b 0, byteAt b 1, byteAt b 2, leAt b 4 4, leAt b 8 8, leAt b 16 4, toSigned 32 (leAt b 20 4)⟩

/-- The records of `n` bytes each that a section holds. -/
def records (b : Bytes) (n : Nat) : List Bytes := (List.range (b.length / n)).map (fun i => slice b (n * i) n)

/-- Section table of an image whose header and table have arrived (R311). -/
def sectionsOf (img : Bytes) (h : ImageHeader) : List Section :=
  (List.range h.sectionCount).map (fun i => Section.parse (slice img (h.sectionTable + 32 * i) 32))

/-- The contents of the only section of a type; empty where there is none. -/
def sectionData (img : Bytes) (secs : List Section) (type : Nat) : Bytes :=
  match secs.find? (·.type == type) with
  | some x => slice img x.offset x.length
  | none => []

/-- The index of the first section of a type; 0 where there is none. -/
def sectionIx (secs : List Section) (type : Nat) : Nat := (secs.findIdx? (·.type == type)).getD 0

/-- The header's layout (R310): the ranges that Table PI-11 does not check under a code of its own. -/
def headerLayout (img : Bytes) (h : ImageHeader) : Bool :=
  h.magic == 0x50565045 && decide (h.bytes ≤ 2 ^ 40) && decide (4 ≤ h.sectionCount) && decide (h.sectionCount ≤ 65535)
    && h.sectionTable % 32 == 0 && decide (128 ≤ h.sectionTable) && decide (h.sectionTable + 32 * h.sectionCount ≤ h.bytes)
    && decide (1 ≤ h.ranks) && decide (h.ranks ≤ 16384) && decide (h.rank < h.ranks) && decide (leAt img 46 2 < 4)
    && h.opword % 8 == 0 && decide (h.opword + 8 ≤ 0x200000) && (slice img 64 64).all (· == 0)

/-- The layout of one section table entry (Table PI-4, Table PI-5). -/
def sectionLayout (h : ImageHeader) (raw : Bytes) (x : Section) : Bool :=
  leAt raw 2 2 == 0 && x.offset % 8 == 0 && decide (128 ≤ x.offset) && decide (x.offset + x.length ≤ h.bytes)
    && (decide (x.offset + x.length ≤ h.sectionTable) || decide (h.sectionTable + 32 * h.sectionCount ≤ x.offset))
    && (match x.type with
        | 0x01 => x.length == 16 && x.target == 0 && x.dest == 0
        | 0x02 => x.length == 48 && x.target == 0 && x.dest == 0
        | 0x03 => decide (16 ≤ x.length) && x.target == 0 && x.dest == 0
        | 0x04 => x.length % 16 == 0 && x.target == 0 && x.dest == 0
        | 0x08 => x.length % 16 == 0 && x.target == 0 && x.dest == 0
        | 0x09 => x.length % 32 == 0 && decide (x.length ≤ 32 * 16384) && x.target == 0 && x.dest == 0
        | 0x0A => x.length % 24 == 0 && x.target == 0 && x.dest == 0
        | 0x0B => x.length % 16 == 0 && x.target == 0 && x.dest == 0
        | 0x10 => x.target % 65536 < 672 && x.target / 65536 < 2 && x.dest % 8 == 0 && decide (x.dest + x.length ≤ 65536)
        | 0x11 => x.target < 672 && x.dest % 128 == 0 && decide (x.dest + x.length ≤ 0x200000)
        | 0x12 => x.target == 0
        | _ => false)

/-- Sections in index order with a section they overlap: none overlaps another (R311). -/
def overlapIx : Nat → List Section → Option Nat
  | _, [] => none
  | i, x :: t => if t.any (fun y => rangesMeet x.offset x.length y.offset y.length) then some i else overlapIx (i + 1) t

/-- How often a control section of a type may stand in an image (Table PI-5). -/
def sectionCountOk (secs : List Section) (type : Nat) : Bool :=
  let n := (secs.filter (·.type == type)).length
  if type ≤ 3 then n == 1 else decide (n ≤ 1)

/-- The first section at fault in the section table (R311, R312). -/
def sectionFault (img : Bytes) (h : ImageHeader) (secs : List Section) : Option Nat :=
  let bad := (secs.zip (List.range secs.length)).find? (fun p =>
    !sectionLayout h (slice img (h.sectionTable + 32 * p.2) 32) p.1)
  match bad with
  | some p => some p.2
  | none =>
    match overlapIx 0 secs with
    | some i => some i
    | none =>
      if [1, 2, 3, 4, 8, 9, 10, 11].any (fun t => !sectionCountOk secs t) then some 0
      else
        let firstBulk := ((secs.filter (fun x => !x.control)).map (·.offset)).foldl min h.bytes
        secs.findIdx? (fun x => x.control && decide (firstBulk < x.offset + x.length))

/-- Bytes of the control part: header, section table and control sections (R312). -/
def controlEnd (h : ImageHeader) (secs : List Section) : Nat :=
  ((secs.filter (·.control)).map (fun x => x.offset + x.length)).foldl max (h.sectionTable + 32 * h.sectionCount)

/-- The control part, read. `a` and `w` of the transfers are still those of the image. -/
structure Image where
  header : ImageHeader
  secs : List Section
  plan : Plan
  patches : List PatchRec
  params : Nat
deriving DecidableEq, Repr

/-- Read the control part (R313, R316, R317, R320). -/
def readImage (img : Bytes) : Image :=
  let h := ImageHeader.parse img
  let secs := sectionsOf img h
  let ch := sectionData img secs 2
  let tt := sectionData img secs 3
  let n := leAt tt 0 4
  let m := leAt tt 8 4
  { header := h, secs := secs
    plan := {
      header := h, groups := leNat (sectionData img secs 1), hbmMask := leNat (slice ch 0 32), capMask := leAt ch 32 2
      steps := ((records (tt.drop 16) 16).take n).map StepRec.parse, loopStart := leAt tt 4 4
      stints := ((records (tt.drop (16 + 16 * n)) 8).take m).map StintRec.parse
      swapSets := (records (sectionData img secs 4) 16).map leNat
      links := (records (sectionData img secs 8) 16).map LinkRec.parse
      transfers := (records (sectionData img secs 9) 32).map TransferRec.parse
      hash := [], patchDigest := [], hmin := 0 }
    patches := (records (sectionData img secs 10) 24).map PatchRec.parse
    params := (sectionData img secs 11).length / 16 }

/-- The first record of a list that fails a test. -/
def firstBad {α : Type} (l : List α) (ok : α → Bool) : Option Nat := l.findIdx? (fun x => !ok x)

/-- The layout of the time table: R313 and its ranges (code 2). -/
def timeTableLayout (tt : Bytes) (p : Plan) : Bool :=
  let n := leAt tt 0 4
  let m := leAt tt 8 4
  decide (1 ≤ n) && decide (n ≤ 65535) && decide (1 ≤ m) && decide (m ≤ 2 ^ 20) && leAt tt 12 4 == 0
    && tt.length == 16 + 16 * n + 8 * m
    && (List.range n).all (fun i => byteAt tt (16 + 16 * i + 1) < 8)
    && (List.range m).all (fun i => let o := 16 + 16 * n + 8 * i; leAt tt o 2 < 16384 && leAt tt (o + 4) 4 == 0)
    && p.steps.all (fun r => decide (r.op ≤ 3) && decide (1 ≤ r.stints) && decide (r.first + r.stints ≤ m)
        && (if r.op = 3 then decide (r.boostFirst + r.stints ≤ m) else r.boostFirst == 0)
        && (r.op == 3 || r.switch || r.decision == 0))
    && p.stints.all (fun r => decide (16 ≤ r.length) && decide (r.length ≤ 4096)
        && (!r.swap || decide (r.swapSet < p.swapSets.length)))

/-- The layout of a link record (R316). -/
def linkLayout (h : ImageHeader) (raw : Bytes) : Bool :=
  let r := LinkRec.parse raw
  decide (r.link < 64) && decide (r.peerLink < 64) && decide (r.peerRank < h.ranks) && decide (r.ownerRank < h.ranks)
    && byteAt raw 7 == 0 && leAt raw 14 2 == 0

/-- The layout of a transfer record (R317). -/
def transferLayout (p : Plan) (raw : Bytes) : Bool :=
  let x := TransferRec.parse raw
  let last := p.links.getD (x.path.getLastD 0) ⟨0, 0, 0, 0, p.header.ranks⟩
  decide (x.step < p.steps.length) && !x.path.isEmpty && x.path.all (fun i => decide (i < p.links.length))
    && (slice raw (12 + x.path.length) (4 - x.path.length)).all (· == 0xFF)
    && last.ownerRank == p.header.rank && decide (1 ≤ x.replayAllow) && decide (x.replayAllow ≤ 8) && byteAt raw 21 == 0
    && (decide (x.destTile < 672) || x.destTile == 0xFFFF) && x.aOff == 0 && x.w == 0

/-- The layout of a patch record (R320). -/
def patchLayout (secs : List Section) (raw : Bytes) : Bool :=
  let r := PatchRec.parse raw
  decide (1 ≤ r.kind) && decide (r.kind ≤ 6) && decide (1 ≤ r.width) && decide (r.width ≤ 48)
    && decide (r.shift + r.width ≤ 64) && byteAt raw 3 == 0 && decide (r.sec < secs.length) && r.off % 8 == 0
    && decide (r.off + 8 ≤ (secs.getD r.sec ⟨0, 0, 0, 0, 0⟩).length)

/-- Code 2: the first fault of the control sections, with its section or record index. -/
def controlFault (img : Bytes) (i : Image) : Option Nat :=
  let data := sectionData img i.secs
  if 2 ^ 84 ≤ i.plan.groups then some (sectionIx i.secs 1)
  else if (slice (data 2) 34 14).any (· != 0) then some (sectionIx i.secs 2)
  else if ¬ timeTableLayout (data 3) i.plan then some (sectionIx i.secs 3)
  else match firstBad (records (data 8) 16) (linkLayout i.header) with
    | some j => some j
    | none => match firstBad (records (data 9) 32) (transferLayout i.plan) with
      | some j => some j
      | none => firstBad (records (data 10) 24) (patchLayout i.secs)

/-- Measurements that take part: those of the rank and link (R594). -/
def measureAt (ms : List LinkMeasure) (rank link : Nat) : Option LinkMeasure :=
  ms.find? (fun m => m.rank == rank && m.link == link)

/-- The LATENCY and ROUND_TRIP of a link end: own links from the entries, others from the table (R318). -/
def Dev.figure (s : Dev) (ms : List LinkMeasure) (me rank link : Nat) : Option (Nat × Nat) :=
  if rank = me then some ((s.link link).latency, (s.link link).roundTrip)
  else (measureAt ms rank link).map (fun m => (m.latency, m.roundTrip))

/-- The directed links that take part in Hmin: from rank, to rank, and ⌈latency⌉ + 4 (R64). -/
def hminEdges (ms : List LinkMeasure) : List (Nat × Nat × Nat) :=
  (ms.filter (fun m => m.dlp == 2 && decide (0 < m.latency)
      && ms.any (fun f => f.rank == m.peerRank && f.link == m.peerLink && f.peerRank == m.rank && f.peerLink == m.link
          && f.dlp == 2 && decide (0 < f.latency)))).map
    (fun m => (m.peerRank, m.rank, ceilDiv m.latency 16 + 4))

/-- The smaller of two distances, where there is one. -/
def minDist : Option Nat → Option Nat → Option Nat
  | none, b => b
  | a, none => a
  | some a, some b => some (min a b)

/-- One round of relaxing every edge. -/
def relax (edges : List (Nat × Nat × Nat)) (d : List (Option Nat)) : List (Option Nat) :=
  edges.foldl (fun d e => match d.getD e.1 none with
    | some x => d.set e.2.1 (minDist (some (x + e.2.2)) (d.getD e.2.1 none))
    | none => d) d

/-- Distances from one rank to every rank. -/
def distances (edges : List (Nat × Nat × Nat)) (ranks src : Nat) : List (Option Nat) :=
  iter ranks (relax edges) ((List.replicate ranks none).set src (some 0))

/-- Hmin (R64); none where two ranks have no path. Tree latencies are taken to be flood latencies. -/
def hminOf (ms : List LinkMeasure) (ranks : Nat) : Option Nat :=
  let e := hminEdges ms
  (List.range ranks).foldl (fun a r => (distances e ranks r).foldl (fun a d => match a, d with
    | some a, some d => some (max a (d + 2))
    | _, _ => none) a) (some 2)

/-- The transit time between two hops (R390): the link of this hop's receiving end, and the sending end of the next. -/
def transitTime (inLink outLink : Nat) : Nat := if linkDie inLink = linkDie outLink then 13 else 19

/-- The figures of a transfer's hops, first to last: record, the receiving end's and the sending end's figures. -/
def Dev.hops (s : Dev) (ms : List LinkMeasure) (p : Plan) (x : TransferRec) :
    List (LinkRec × (Nat × Nat) × (Nat × Nat)) :=
  x.path.filterMap (fun i =>
    match p.links[i]? with
    | none => none
    | some r => some (r, (s.figure ms p.header.rank r.ownerRank r.link).getD (0, 0),
        (s.figure ms p.header.rank r.peerRank r.peerLink).getD (0, 0)))

/-- A_OFF and W of a transfer (R318). -/
def Dev.transferTimes (s : Dev) (ms : List LinkMeasure) (p : Plan) (x : TransferRec) : Nat × Nat :=
  let hs := s.hops ms p x
  let lat := (hs.map (fun (h : LinkRec × (Nat × Nat) × (Nat × Nat)) => ceilDiv h.2.1.1 16)).foldl (· + ·) 0
  let transit := ((hs.zip (hs.drop 1)).map
    (fun (q : (LinkRec × (Nat × Nat) × (Nat × Nat)) × (LinkRec × (Nat × Nat) × (Nat × Nat))) =>
      transitTime q.1.1.link q.2.1.peerLink)).foldl (· + ·) 0
  let trips := (hs.map (fun (h : LinkRec × (Nat × Nat) × (Nat × Nat)) =>
    x.replayAllow * ceilDiv (max h.2.1.2 h.2.2.2) 16)).foldl (· + ·) 0
  (x.sendLast + lat + transit, trips + 2)

/-- The mesh time from the edge column of a network die to a tile of the same row (R124, R383). -/
def edgeMeshTime (nd t : Nat) : Nat :=
  let c := tileCol t
  if nd = 0 then 2 * c + (if 12 ≤ c then 16 else 0) else 2 * (23 - c) + (if c < 12 then 16 else 0)

/-- The delivery time Dl (R319). -/
def deliveryTime (p : Plan) (x : TransferRec) : Nat :=
  if x.destTile = 0xFFFF then 0
  else
    let last := p.links.getD (x.path.getLastD 0) ⟨0, 0, 0, 0, 0⟩
    let op := (p.steps.getD x.step ⟨1, true, false, false, 1, 0, 0, 0⟩).op
    2 + ceilDiv (24 + edgeMeshTime (linkDie last.link) x.destTile) (if op = 3 then 8 else Config.cyclesPerBeat op)

/-- The value of a patch record before ADDEND (Table PI-9); none where it cannot be formed. `p` holds A_OFF and W. -/
def Dev.patchValue (s : Dev) (j : JobObjects) (p : Plan) (r : PatchRec) : Option Nat :=
  let ms := j.measures.getD []
  match r.kind with
  | 1 => (j.jobMap.getD [])[r.arg]?
  | 2 => (p.transfers[r.arg]?).map (·.aOff)
  | 3 => (p.transfers[r.arg]?).map (·.w)
  | 4 => (p.links[r.arg]?).bind (fun l => (s.figure ms p.header.rank l.ownerRank l.link).map (fun f => ceilDiv f.1 16))
  | 5 => (p.links[r.arg % 65536]?).bind (fun l =>
      (s.figure ms p.header.rank l.ownerRank l.link).map (fun f => r.arg / 65536 + 1 + ceilDiv (f.1 * 25) 256))
  | _ => some ((j.params.getD []).getD r.arg 0)

/-- Whether a patch record meets R321. -/
def Dev.patchOk (s : Dev) (j : JobObjects) (i : Image) (p : Plan) (r : PatchRec) : Bool :=
  let type := (i.secs.getD r.sec ⟨0, 0, 0, 0, 0⟩).type
  type != 1 && type != 2 && type != 10 && (r.kind != 6 || decide (r.arg < i.params)) && (match s.patchValue j p r with
    | none => false
    | some v => decide (0 ≤ (v : Int) + r.addend) && decide ((v : Int) + r.addend < 2 ^ r.width))

/-- The value a patch record writes. -/
def Dev.patched (s : Dev) (j : JobObjects) (p : Plan) (r : PatchRec) : Nat :=
  (((s.patchValue j p r).getD 0 : Int) + r.addend).toNat

/-- A byte with the field of a patch record written into it; `i` is the byte's place in the record's 8-byte word (R320). -/
def patchByte (r : PatchRec) (v i : Nat) (b : Byte) : Byte :=
  let mask := (2 ^ r.width - 1) * 2 ^ r.shift / 2 ^ (8 * i) % 256
  let val := (v * 2 ^ r.shift) / 2 ^ (8 * i) % 256
  BitVec.ofNat 8 ((b.toNat &&& (255 - mask)) ||| (val &&& mask))

/-- `d`, which stands at offset `o` of section `sec`, with the patch records applied in record order (R321). -/
def patchPiece (rs : List (PatchRec × Nat)) (sec o : Nat) (d : Bytes) : Bytes :=
  rs.foldl (fun d (x : PatchRec × Nat) =>
    if x.1.sec ≠ sec ∨ ¬ rangesMeet x.1.off 8 o d.length then d
    else (List.range 8).foldl (fun d i =>
      if x.1.off + i < o then d
      else match d[x.1.off + i - o]? with
        | some b => d.set (x.1.off + i - o) (patchByte x.1 x.2 i b)
        | none => d) d) d

/-- The control part as firmware loads it: A_OFF and W of `p` filled in (R317), then the patch records applied, with the values
`vs` (R320, R321; assumption 91). -/
def patchControl (img : Bytes) (i : Image) (p : Plan) (vs : List Nat) : Bytes :=
  let rs := i.patches.zip vs
  (i.secs.zip (List.range i.secs.length)).foldl (fun img (q : Section × Nat) =>
    if !q.1.control then img else
    let d := slice img q.1.offset q.1.length
    let d := if q.1.type ≠ 9 then d else
      (p.transfers.zip (List.range p.transfers.length)).foldl (fun d (x : TransferRec × Nat) =>
        overlay d (32 * x.2 + 24) (leBytes 4 x.1.aOff ++ leBytes 4 x.1.w)) d
    overlay img q.1.offset (patchPiece rs q.2 0 d)) img

/-- Whether a step whose neighbour before has OP `prev` may go without STOP (R314). -/
def stopOk (prev : Option Nat) (r : StepRec) : Bool :=
  r.stop || (r.op != 3 && prev == some r.op)

/-- The time table meets R314, R315 and R331, and sets no SWAP from the first step with STAGE_OPEN onward (code 10). -/
def timeTableOk (p : Plan) : Bool :=
  let n := p.steps.length
  let steps := p.steps.zip (List.range n)
  let body (first count : Nat) : List StintRec := (p.stints.drop first).take count
  let beats (first count : Nat) : Nat := ((body first count).map (·.length)).foldl (· + ·) 0
  let ends := p.loopStart == 0xFFFFFFFF
  let open_ := (p.steps.findIdx? (·.stageOpen)).getD n
  (ends || decide (p.loopStart < n))
    && steps.all (fun (x : StepRec × Nat) =>
      let r := x.1
      stopOk (if x.2 = 0 then none else (p.steps[x.2 - 1]?).map (·.op)) r
        && (r.op != 3 || (r.stop && decide (2 * p.header.h ≤ r.decision)
              && beats r.first r.stints == beats r.boostFirst r.stints))
        && (!r.switch || (decide (2 * p.header.h ≤ r.decision)
              && (if x.2 + 1 < n then (p.steps[x.2 + 1]?).any (·.stop) else !ends && (p.steps[p.loopStart]?).any (·.stop))))
        && (decide (x.2 < open_) || ((body r.first r.stints).all (fun y => !y.swap)
              && (r.op != 3 || (body r.boostFirst r.stints).all (fun y => !y.swap)))))
    && (ends || (p.steps[p.loopStart]?).all (stopOk ((p.steps.getLast?).map (·.op))))
    && p.swapSets.all (fun m => (List.range 128).all (fun g => !bit m g || bit p.groups g))

/-- Code 5 for the link of a local record (R316, R348, R385). -/
def Dev.localLinkOk (s : Dev) (k : Nat) (map : List Nat) (r : LinkRec) : Bool :=
  let l := s.link r.link
  l.st == 4 && l.dlp == 0x0201 && l.latValid && !l.long && l.peerDev == map.getD r.peerRank (2 ^ 20) && l.peerLink == r.peerLink
    && decide (1 ≤ r.slots) && decide (r.slots ≤ 88) && bit (s.part k).net.plannedLinks r.link

/-- Code 5 for a remote record (R316). -/
def remoteLinkOk (ms : List LinkMeasure) (r : LinkRec) : Bool :=
  r.slots == 0 && (measureAt ms r.ownerRank r.link).any (fun m =>
    m.peerRank == r.peerRank && m.peerLink == r.peerLink && decide (0 < m.latency))

/-- Code 5 for a hop: both ends are in the table and run DLP 2 (R316). -/
def hopOk (ms : List LinkMeasure) (r : LinkRec) : Bool :=
  (measureAt ms r.peerRank r.peerLink).any (fun m => m.peerRank == r.ownerRank && m.peerLink == r.link && m.dlp == 2)
    && (measureAt ms r.ownerRank r.link).any (fun m => m.dlp == 2)

/-- Code 5 for an entry of this rank in the link-measurement table (R594). -/
def Dev.measureOk (s : Dev) (map : List Nat) (m : LinkMeasure) : Bool :=
  let l := s.link m.link
  l.latency == m.latency && l.roundTrip == m.roundTrip && l.peerLink == m.peerLink && l.dlp / 256 == m.dlp
    && map.getD m.peerRank (2 ^ 20) == l.peerDev

/-- Code 5 as a whole, with the index at fault. -/
def Dev.jobFault (s : Dev) (k : Nat) (p : Plan) (j : JobObjects) : Option Nat :=
  match j.jobMap, j.measures with
  | some map, some ms =>
    if map.length ≠ p.header.ranks ∨ s.selfDev = 0xFFFFF ∨ map.getD p.header.rank (2 ^ 20) ≠ s.selfDev then some 0
    else match (ms.findIdx? (fun m => m.rank == p.header.rank && !s.measureOk map m)) with
      | some i => some i
      | none =>
        match firstBad p.links (fun r => if r.ownerRank = p.header.rank then s.localLinkOk k map r else remoteLinkOk ms r) with
        | some i => some i
        | none => firstBad p.transfers (fun x => x.path.all (fun i => (p.links[i]?).all (hopOk ms)))
  | _, _ => some 0

/-- Code 3: groups and target tiles (R100, R562, R565). -/
def Dev.groupFault (s : Dev) (k : Nat) (i : Image) : Option Nat :=
  let q := s.part k
  if q.groups = 0 ∨ (List.range 84).any (fun g => bit i.plan.groups g
      && (!s.groupEnabled g || !bit q.groups g || bit s.power.clearingGroups g)) then some (sectionIx i.secs 1)
  else i.secs.findIdx? (fun x => (x.type == 0x10 || x.type == 0x11) && !bit i.plan.groups (tileGroup x.tile))

/-- Code 4: channels and MEMORY sections (R270, R565). -/
def Dev.channelFault (s : Dev) (k : Nat) (i : Image) : Option Nat :=
  let q := s.part k
  let bad (m held clearing n : Nat) : Bool := (List.range n).any (fun c => bit m c && (!bit held c || bit clearing c))
  if bad i.plan.hbmMask q.hbm s.power.clearingHbm 256 || bad i.plan.capMask q.cap s.power.clearingCap 16 then
    some (sectionIx i.secs 2)
  else i.secs.findIdx? (fun x => x.type == 0x12 && !(partsOf x.dest x.length).all (fun y => s.memBacked y.1 y.2
    && (if isHbm y.1 then bit i.plan.hbmMask (channelOf y.1) else bit i.plan.capMask (channelOf y.1 - 256))))

/-- SHARDS is 0 or a power of two from 2 to 65,536 (R508). -/
def shardsOk (n : Nat) : Bool := n == 0 || (List.range 16).any (fun i => 2 ^ (i + 1) == n)

/-- What the successor must share with the running plan, and the code that refuses it (R329). -/
def successorFault (run : Plan) (i : Image) : Option (Nat × Nat) :=
  if i.plan.groups ≠ run.groups then some (3, sectionIx i.secs 1)
  else if i.plan.hbmMask ≠ run.hbmMask ∨ i.plan.capMask ≠ run.capMask then some (4, sectionIx i.secs 2)
  else if i.header.rank ≠ run.header.rank ∨ i.header.ranks ≠ run.header.ranks then some (5, 0)
  else if i.header.hbmCp ≠ run.header.hbmCp ∨ i.header.capCp ≠ run.header.capCp then some (11, 0)
  else match i.secs.findIdx? (fun x => x.type == 0x11 || (x.type == 0x10 && x.bank == 1)) with
    | some n => some (2, n)
    | none => none

/-- The transfers with A_OFF and W filled in (R318). -/
def Dev.fillTransfers (s : Dev) (ms : List LinkMeasure) (p : Plan) : Plan :=
  { p with transfers := p.transfers.map (fun x => let t := s.transferTimes ms p x; { x with aOff := t.1, w := t.2 }) }

/-- How far the checks of an image have come. -/
inductive Check where
  | wait
  | refuse (code detail : Nat)
  | accept (p : Plan) (patched : List Nat)
deriving DecidableEq, Repr

/-- The checks 3 to 13 of Table PI-11 on a control part that is well formed. DESIGN CHOICE (assumption 91): the checks before the
patch records see the control part as received; the time table is checked, and the plan taken, as patched. -/
def Dev.checkControl (s : Dev) (k : Nat) (img : Bytes) (i : Image) : Check :=
  let q := s.part k
  let h := i.header
  let j := q.job
  let ms := j.measures.getD []
  let p := s.fillTransfers ms i.plan
  let hm := hminOf ms h.ranks
  match s.groupFault k i with
  | some d => .refuse 3 d
  | none =>
  match s.channelFault k i with
  | some d => .refuse 4 d
  | none =>
  match s.jobFault k i.plan j with
  | some d => .refuse 5 d
  | none =>
  if h.h < 8 ∨ hm.all (fun m => h.h < m) then .refuse 6 0
  else if h.holdLimit < 1024 ∨ 16777216 < h.holdLimit ∨ h.holdLimit < 4 * h.h then .refuse 7 0
  else
  match firstBad p.transfers (fun x => decide (x.aOff + x.w + deliveryTime p x ≤ x.use)) with
  | some d => .refuse 8 d
  | none =>
  match firstBad i.patches (s.patchOk j i p) with
  | some d => .refuse 9 d
  | none =>
  let vs := i.patches.map (s.patched j p)
  let img := patchControl img i p vs
  let p := (readImage img).plan
  if ¬ (timeTableLayout (sectionData img i.secs 3) p ∧ timeTableOk p) then .refuse 10 (sectionIx i.secs 3)
  else if h.hbmCp < 8 ∨ 64 < h.hbmCp ∨ h.capCp < 8 ∨ 48 < h.capCp ∨ 256 < h.barrierIds ∨ h.ranks ≤ h.crownRank
      ∨ ¬ shardsOk h.shards then .refuse 11 0
  else if (if h.successor then decide (q.time.mode = .stopped) || q.plan.state != 3 || decide (2 ≤ q.plan.succState ∧ q.plan.succState ≤ 3)
      else decide (q.time.mode ≠ .stopped)) then .refuse 12 0
  else if (j.params.getD []).length < i.params then .refuse 13 (sectionIx i.secs 11)
  else
    match (if h.successor then q.plan.plan.bind (fun run => successorFault run i) else none) with
    | some e => .refuse e.1 e.2
    | none => .accept { p with hmin := hm.getD 2 } vs

/-- The checks of an image of which these bytes have arrived (R322); `last` says that no more will come. -/
def Dev.checkImage (s : Dev) (k : Nat) (img : Bytes) (last : Bool) : Check :=
  let more : Check := if last then .refuse 2 0 else .wait
  let h := ImageHeader.parse img
  if img.length < 8 then more
  else if h.major ≠ 2 ∨ h.minor ≠ 0 then .refuse 1 0
  else if img.length < 128 then more
  else if ¬ headerLayout img h ∨ h.bytes < img.length then .refuse 2 0
  else if img.length < h.sectionTable + 32 * h.sectionCount then more
  else
    let secs := sectionsOf img h
    match sectionFault img h secs with
    | some d => .refuse 2 d
    | none =>
      if img.length < controlEnd h secs then more
      else
        let i := readImage img
        match controlFault img i with
        | some d => .refuse 2 d
        | none => s.checkControl k img i

end Sys2Proof.Machine
end

