-- ==== Sys2Proof/Machine/PlanLoad.lean ====
section
/-!
DEFINITION. Loading plan images (11): cold loads, successors, PLAN_ABORT and the staging of a successor.
-/
namespace Sys2Proof.Machine

/-- Instruction memory as firmware writes it at a cold load (R324). -/
def putImem (s : Dev) (t bank off : Nat) (d : Bytes) : Dev :=
  let a := imemAddr t bank off
  let s := s.updTile t (·.imemWritten bank off)
  { s.store a d with faults := s.faults.filter (fun p => p.1 < a / 8 || (a + d.length + 7) / 8 ≤ p.1) }

/-- Write a piece of a bulk section at offset `o` of it, patched: firmware's control-plane writes for MEMORY sections (R280),
its own writes for the others at a cold load, nothing yet for a successor's IMEM sections (R324, R330). -/
def writePiece (s : Dev) (succ : Bool) (x : Section) (o : Nat) (d : Bytes) : Dev :=
  if d.isEmpty then s
  else if x.type = 0x10 then (if succ then s else putImem s x.tile x.bank (x.dest + o) d)
  else if x.type = 0x11 then writeStore s x.tile (x.dest + o) d []
  else ctlWrite s (x.dest + o) d .firmware 0

/-- Write what image bytes `old` to `upto` hold of the bulk sections. -/
def writeBulk (s : Dev) (x : ImageStream) (old : Nat) : Dev :=
  let i := readImage x.received
  let rs := i.patches.zip x.patched
  (i.secs.zip (List.range i.secs.length)).foldl (fun s (q : Section × Nat) =>
    if q.1.control then s else
    let a := max old q.1.offset
    let b := min x.received.length (q.1.offset + q.1.length)
    if b ≤ a then s
    else writePiece s x.successor q.1 (a - q.1.offset)
      (patchPiece rs q.2 (a - q.1.offset) (slice x.received a (b - a)))) s

/-- PATCH_DIGEST (R325). -/
def patchDigest (patched : List Nat) (p : Plan) : Bytes :=
  sha384 (patched.flatMap (leBytes 8) ++ p.transfers.flatMap (fun x => leBytes 4 x.aOff ++ leBytes 4 x.w))

/-- The open stream of a function: its last packet has not come. -/
def PlanState.streamOf (p : PlanState) (f : Nat) : Option ImageStream :=
  p.streams.find? (fun x => x.fn == f && x.closing.isNone)

/-- The stream of a function, replaced. -/
def setStream (s : Dev) (k : Nat) (x : ImageStream) : Dev :=
  s.updPlan k (fun p => { p with streams := x :: p.streams.filter (fun y => y.fn != x.fn || y.closing.isSome) })

/-- A control-plane write of firmware into memory of a partition. -/
def Dev.loadWrite (s : Dev) (k : Nat) (a : CpAccess) : Bool :=
  a.write && (match a.owner with | .firmware => true | _ => false) && s.partOfChannel (channelOf a.addr) == some k

/-- The banks, tile stores and memory of a partition are undefined (R323), and firmware writes no more of its image. -/
def losePartition (s : Dev) (k : Nat) : Dev :=
  let p := s.part k
  let s := { s with cp := s.cp.filter (!s.loadWrite k ·) }
  let ranges := (maskList p.groups 84).flatMap (s.resourceRanges 0) ++ (maskList p.hbm 256).flatMap (s.resourceRanges 1)
    ++ (maskList p.cap 16).flatMap (s.resourceRanges 2)
  ranges.foldl (fun s r => loseRange s r.1 r.2) s

/-- The stream of a function ends without its image: a successor is discarded; a cold load whose control part was accepted
leaves PLAN_STATE 5, no plan and undefined contents; any other stream leaves no trace (R323, R591). -/
def dropStream (s : Dev) (k f : Nat) : Dev :=
  match (s.part k).plan.streamOf f with
  | none => s
  | some x =>
    let s := if x.successor then s.updServe k (fun v => { v with staged := none })
      else if x.plan.isSome then losePartition s k else s
    s.updPlan k (fun p =>
      let p := { p with streams := p.streams.filter (fun y => y.fn != f || y.closing.isSome) }
      if x.successor then
        (if x.plan.isSome || p.succState == 1 then { p with succState := 0 } else p)
      else if x.plan.isSome then { p with state := 5, plan := none }
      else p)

/-- A refused image (R322, R323, R329): its code and detail, and PLAN_REFUSALS. -/
def refuseImage (s : Dev) (k : Nat) (c : Cmd) (x : ImageStream) (code detail : Nat) : Dev :=
  let s := s.updOps (fun o => { o with planRefusals := o.planRefusals + 1 })
  let s := s.updPlan k (fun p =>
    let p := { p with streams := p.streams.filter (fun y => y.fn != x.fn || y.closing.isSome) }
    if x.successor then { p with succStatus := code, succState := if p.succState = 2 ∨ p.succState = 3 then p.succState else 4 }
    else { p with loadStatus := code, loadDetail := detail })
  respond s c 0 code detail

/-- An accepted control part (R323, R324, R329): a cold load begins to load, with both banks of every tile at 0. -/
def acceptImage (s : Dev) (k : Nat) (x : ImageStream) (plan : Plan) (patched : List Nat) : Dev :=
  let y := { x with plan := some plan, patched := patched }
  if x.successor then
    setStream (s.updPlan k (fun p => { p with succState := 2, succStatus := 0 })) k y
  else
    let owed := (s.part k).plan.streams.filterMap (fun z => if z.successor then none else z.closing)
    let s := owed.foldl commandPart { s with cp := s.cp.filter (!s.loadWrite k ·) }
    let s := s.updPart k (fun q => { q with
      hbmCp := plan.header.hbmCp, capCp := plan.header.capCp
      plan := { q.plan with
        state := 1, loadStatus := 0, loadDetail := 0, plan := none
        streams := q.plan.streams.filter (fun z => z.plan.isNone || z.successor) } })
    let s := (s.partTiles k).foldl (fun s t =>
      zeroRange (s.updTile t (fun x => { x with endOnly := [false, false] })) (imemAddr t 0 0) 0x20000) s
    setStream s k y

/-- The last byte of a cold load has been written (R324, R325): any other stream of its function stays. -/
def finishLoad (s : Dev) (k : Nat) (x : ImageStream) (plan : Plan) : Dev :=
  let one := (sectionsOf x.received plan.header).any (fun y => y.type == 0x10 && y.bank == 1)
  let s := (s.partTiles k).foldl (fun s t => s.updTile t (fun y =>
    { y.fresh with imemActive := 0, baseBank := 0, sealed0 := true, sealed1 := one })) s
  let s := serveColdLoad (weightsDisturbed (contextSwitch s k false) k false) k
  let s := s.updPart k (fun p => { p with audit := { p.audit with step := p.audit.stepBase } })
  s.updPlan k (fun p => { p with
    state := 2, streams := p.streams.filter (fun y => y.successor || y.plan.isNone), format := 65536 * plan.header.major + plan.header.minor
    stepIx := 0, stintIx := 0
    plan := some { plan with hash := sha384 x.received, patchDigest := patchDigest x.patched plan } })

/-- The last byte of a successor has arrived (R329, R330): firmware keeps its IMEM sections, patched, until they are staged. -/
def finishSuccessor (s : Dev) (k : Nat) (x : ImageStream) (plan : Plan) : Dev :=
  let i := readImage x.received
  let rs := i.patches.zip x.patched
  let code := ((i.secs.zip (List.range i.secs.length)).filter (fun (q : Section × Nat) => q.1.type == 0x10)).map
    (fun (q : Section × Nat) => (q.1.tile, q.1.dest, patchPiece rs q.2 0 (slice x.received q.1.offset q.1.length)))
  let hash := sha384 x.received
  s.updPlan k (fun p => { p with
    streams := p.streams.filter (fun y => y.fn != x.fn || y.closing.isSome), succHash := hash
    successor := some ⟨{ plan with hash := hash, patchDigest := patchDigest x.patched plan }, code, false⟩ })

/-- The last packet of a cold load has come: the load ends, at once where no memory section still waits for its slots (R280,
R324). -/
def closeImage (s : Dev) (k : Nat) (c : Cmd) (x : ImageStream) (plan : Plan) : Dev :=
  if s.cp.any (s.loadWrite k) then
    setParts (s.updPlan k (fun p => { p with streams := p.streams.map (fun y =>
      if y.fn = x.fn ∧ y.closing.isNone then { y with closing := some c.id } else y) })) c 1 0 0
  else respond (finishLoad s k x plan) c 0 0 0

/-- Cold loads whose memory sections have all been written end (R324). -/
def closeLoads (s : Dev) : Dev :=
  (s.parts.map (·.1)).foldl (fun s k =>
    match (s.part k).plan.streams.find? (·.closing.isSome) with
    | none => s
    | some x => match x.plan, x.closing with
      | some plan, some id => if s.cp.any (s.loadWrite k) then s else commandPart (finishLoad s k x plan) id
      | _, _ => s) s

/-- The bytes of a packet have been added to an image whose control part is accepted: write them, and end the load with the
last packet (R323, R324). -/
def continueImage (s : Dev) (k : Nat) (c : Cmd) (x : ImageStream) (plan : Plan) (old : Nat) (last : Bool) : Dev :=
  if plan.header.bytes < x.received.length ∨ (last ∧ x.received.length ≠ plan.header.bytes) then
    respond (dropStream s k x.fn) c 0 2 0
  else
    let s := writeBulk s x old
    if ¬ last then respond s c 0 0 0
    else if x.successor then respond (finishSuccessor s k x plan) c 0 0 0
    else closeImage s k c x plan

/-- A packet's payload joins an open image stream (R322). -/
def addImage (s : Dev) (k : Nat) (c : Cmd) (x0 : ImageStream) (last : Bool) : Dev :=
  let old := x0.received.length
  let x := { x0 with received := x0.received ++ c.payload }
  match x.plan with
  | some plan => continueImage (setStream s k x) k c x plan old last
  | none =>
    match s.checkImage k x.received last with
    | .wait =>
      let s := setStream s k x
      let s := if x.successor ∧ (s.part k).plan.succState ≠ 2 ∧ (s.part k).plan.succState ≠ 3 then
        s.updPlan k (fun p => { p with succState := 1 }) else s
      respond s c 0 0 0
    | .refuse code detail => refuseImage s k c x code detail
    | .accept plan patched =>
      let s := acceptImage s k x plan patched
      continueImage s k c { x with plan := some plan, patched := patched } plan 0 last

/-- PLAN_IMAGE (R322, R591). -/
def planImage (s : Dev) (k : Nat) (c : Cmd) : Dev :=
  let first := bit c.flags 0
  let last := bit c.flags 1
  if first ∧ c.streamOffset ≠ 0 then respond s c 8 0 0
  else if first then addImage (dropStream s k c.fn) k c ⟨c.fn, [], none, [], none⟩ last
  else match (s.part k).plan.streamOf c.fn with
    | none => respond s c 8 0 0
    | some x => if c.streamOffset ≠ x.received.length then respond s c 8 0 0 else addImage s k c x last

/-- PLAN_ABORT (R323). -/
def planAbort (s : Dev) (k : Nat) (c : Cmd) : Dev :=
  if c.len ≠ 0 then respond s c 4 0 0 else respond (dropStream s k c.fn) c 0 0 0

/-- A line that firmware writes into a bank (R327). -/
def firmwareImem (s : Dev) (t bank off : Nat) (d : Bytes) : Dev :=
  if (s.tile t).bankOpen bank then putImem s t bank off d else refuseImem s t bank off 1

/-- SUCCESSOR_STAGE (R330): once the first step with STAGE_OPEN has begun, firmware writes the successor's IMEM sections into
the inactive banks and seals the inactive bank of every enabled tile of the partition. -/
def successorStage (s : Dev) (k : Nat) : Dev :=
  let p := (s.part k).plan
  match p.successor with
  | none => s
  | some x =>
    if p.succState ≠ 2 ∨ ¬ p.stageOpened ∨ ¬ s.planRuns k then s
    else
      let s := x.imem.foldl (fun s (q : Nat × Nat × Bytes) =>
        let bank := 1 - (s.tile q.1).imemActive
        (lineParts (q.2.2.length / 128 + 2) q.2.1 q.2.2).foldl (fun s l => firmwareImem s q.1 bank l.1 l.2) s) s
      let s := (s.partTiles k).foldl (fun s t => s.updTile t (fun y => y.setSealed (1 - y.imemActive) true)) s
      s.updPlan k (fun p => { p with succState := 3, successor := some { x with staged := true } })

end Sys2Proof.Machine
end

