-- ==== Sys2Proof/Machine/HostCmd.lean ====
section
/-!
DEFINITION. Command packets (20): the submission window, the checks of a packet, streams, and the commands of this chapter.
-/
namespace Sys2Proof.Machine

/-- The opcodes of Table HI-6. -/
def knownOpcode (op : Nat) : Bool :=
  [0x0001, 0x0010, 0x0011, 0x0100, 0x0101, 0x0200, 0x0201, 0x0202, 0x0203, 0x0204, 0x0205, 0x0206, 0x0210, 0x0211, 0x0220,
    0x0221, 0x0222, 0x0500, 0x0600].contains op || (decide (0x0300 ≤ op) && decide (op ≤ 0x0306))
    || (decide (0x0400 ≤ op) && decide (op ≤ 0x0406))

/-- Opcodes that only the PF may send, for the device as a whole (R588). -/
def deviceOpcode (op : Nat) : Bool := op == 0x0010 || op == 0x0011 || op == 0x0600
/-- Opcodes that take any PARTITION (R588). -/
def anyOpcode (op : Nat) : Bool := op == 0x0001 || op == 0x0500

/-- Whether a sender may send a command (R588). -/
def Cmd.permitted (c : Cmd) : Bool :=
  if deviceOpcode c.opcode then c.fn == 0 && c.partition == 0xFF
  else if anyOpcode c.opcode then true
  else if c.fn = 0 then decide (c.partition < 16)
  else c.partition == 0xFF || c.partition + 1 == c.fn

/-- The partition a command names: of the PF its PARTITION, of VF k partition k (Table HI-5). -/
def Cmd.target (c : Cmd) : Nat := if c.fn = 0 then c.partition else c.fn - 1

/-- Whether the stage, and the absence of a device-fatal error, let a command act (R590, R640, R655, Table HI-10). -/
def Dev.takes (s : Dev) (op : Nat) : Bool :=
  if s.deviceFatal && op != 0x0001 && op != 0x0600 then false
  else if op = 0x0010 ∨ op = 0x0011 then s.stage == 2
  else if op = 0x0001 ∨ op = 0x0600 then s.fwRunning
  else s.stage == 8

/-- A packet's header as a command (Table HI-5). -/
def parsePacket (s : Dev) (f : Nat) (d : Bytes) : Cmd :=
  let len := leAt d 4 4
  { id := s.accessSeq, fn := f, gen := (s.fn f).gen, opcode := leAt d 0 2, partition := byteAt d 2, flags := byteAt d 3
    len := len, tag := leAt d 8 8, arg0 := leAt d 16 8, arg1 := leAt d 24 8, arg2 := leAt d 32 8
    streamOffset := leAt d 40 8, seq := leAt d 48 4, accepted := s.time.bc, payload := slice d 64 (min len 65536)
    started := false, left := 0, status := 0, detail := 0 }

/-- Whether a header passes the checks of R586 as packet number `n`. -/
def headerOk (d : Bytes) (n : Nat) : Bool :=
  leAt d 48 4 == n % 2 ^ 32 && leAt d 56 8 == crc64 (padTo 56 d) && byteAt d 3 / 4 == 0 && leAt d 52 4 == 0

/-- The device copies the next packet of a function out of its slot, frees the slot, and accepts or rejects it (R585, R586,
R588): a packet that is not rejected waits as a command. -/
def copyPacket (s : Dev) (f : Nat) : Dev :=
  match (s.fn f).window with
  | [] => s
  | d :: rest =>
    let n := (s.fn f).consumed
    let c := parsePacket s f d
    let s := { s with accessSeq := s.accessSeq + 1 }
    let s := s.updFn f (fun x => { x with window := rest, consumed := (n + 1) % 2 ^ 32, owed := x.owed + 1 })
    let sh := (s.fn f).sqShadow
    let s := if sh ≠ 0 && (s.fn f).busMaster then s.post sh (leBytes 8 ((n + 1) % 2 ^ 32)) else s
    if !headerOk d n then
      respond { s with hostTotals := { s.hostTotals with headerRejects := s.hostTotals.headerRejects + 1 } } c 1 0 0
    else
      let s := { s with hostTotals := { s.hostTotals with
        commands := s.hostTotals.commands + 1
        bootAttempts := s.hostTotals.bootAttempts + boolNat (c.opcode == 0x0011) } }
      if !knownOpcode c.opcode then respond s c 2 0 0 else { s with commands := s.commands ++ [c] }

/-- Copy announced packets while the backlog can hold every response owed (R599). -/
def copyAux : Nat → Dev → Nat → Dev
  | 0, s, _ => s
  | n + 1, s, f => if (s.fn f).blocked || s.halted then s else copyAux n (copyPacket s f) f

/-- Copy as many announced packets of a function as can be taken. -/
def copyPackets (s : Dev) (f : Nat) : Dev := copyAux (s.fn f).window.length s f

/-- SQ_DOORBELL (R584, R585): a write of PRODUCED that announces the packets in the slots, oldest first; a slot that holds
none reads as zeros. -/
def sqDoorbell (s : Dev) (f v : Nat) (packets : List Bytes) : Dev :=
  if !s.registersOpen f || s.halted then s else
  let x := s.fn f
  let ahead := (v % 2 ^ 32 + 2 ^ 32 - x.consumed) % 2 ^ 32
  let announced := (x.produced + 2 ^ 32 - x.consumed) % 2 ^ 32
  if x.proto = 0 ∨ s.stage < 2 ∨ 8 < ahead ∨ ahead < announced then s.hiErr f doorbellBad
  else
    let new := (List.range (ahead - announced)).map (fun i => packets.getD i [])
    copyPackets (s.updFn f (fun x => { x with produced := v % 2 ^ 32, window := x.window ++ new })) f

/-- RING_POST (R597, R599): the oldest waiting entry of a ring is posted once it has room; packets that waited for room in
RSP are taken. -/
def ringPost (s : Dev) (f r : Nat) : Dev :=
  if s.halted || s.dump.state == 1 then s else copyPackets (postNext s f r) f

/-- The command that a row of Table HI-6 acts on: the oldest of a function that has not begun, if it has this opcode; of two
accepted in one beat for one partition, that of the PF comes first (R587). -/
def Dev.nextCommand (s : Dev) (f op : Nat) : Option Cmd :=
  match s.commands.find? (fun c => c.fn == f && !c.started) with
  | none => none
  | some c =>
    if c.opcode ≠ op then none
    else if f ≠ 0 ∧ s.commands.any (fun d => d.fn == 0 && !d.started && d.accepted == c.accepted && d.target == c.target)
    then none else some c

/-- A command takes effect: the transport checks of R588 and R590, then the command's own act with the partition it names. -/
def hostCommand (s : Dev) (f op : Nat) (act : Dev → Nat → Cmd → Dev) : Dev :=
  if s.halted then s else
  match s.nextCommand f op with
  | none => s
  | some c =>
    if !c.permitted then respond s c 3 0 0
    else if !s.takes op then respond s c 5 0 0
    else if 65536 < c.len then respond s c 4 0 0
    else
      let c := { c with started := true }
      act { s with commands := s.commands.map (fun x => if x.id = c.id then c else x) } c.target c

/-- NOP (Table HI-6). -/
def nop (s : Dev) (_ : Nat) (c : Cmd) : Dev := if c.len ≠ 0 then respond s c 4 0 0 else respond s c 0 0 0

/-- Whether a packet has FIRST, or LAST. -/
def Cmd.first (c : Cmd) : Bool := bit c.flags 0
def Cmd.last (c : Cmd) : Bool := bit c.flags 1

/-- The open stream of a function, opcode and partition (R591). -/
def Dev.stream (s : Dev) (f op k : Nat) : Option Stream :=
  (s.fn f).streams.find? (fun x => x.opcode == op && x.part == k)

/-- A packet of a stream (R591): the bytes of the stream with it, or none where it is refused with status 8. -/
def streamTake (s : Dev) (k : Nat) (c : Cmd) : Option Bytes :=
  if c.first then (if c.streamOffset = 0 then some c.payload else none)
  else match s.stream c.fn c.opcode k with
    | some x => if c.streamOffset = x.data.length then some (x.data ++ c.payload) else none
    | none => none

/-- Keep an open stream, or close it. -/
def setOpen (s : Dev) (k : Nat) (c : Cmd) (d : Option Bytes) : Dev :=
  s.updFn c.fn (fun x =>
    let rest := x.streams.filter (fun y => !(y.opcode == c.opcode && y.part == k))
    { x with streams := match d with | some b => rest ++ [⟨c.opcode, k, b⟩] | none => rest })

/-- A stream of a partition's object (R591, R593): accepted only while the partition is stopped, or while a successor is being
received; at its close the object takes effect through `close`, which answers. -/
def objectStream (s : Dev) (k : Nat) (c : Cmd) (close : Dev → Bytes → Dev) : Dev :=
  let p := s.part k
  if p.time.mode ≠ .stopped ∧ ¬ p.plan.receiving then respond s c 5 0 0 else
  match streamTake s k c with
  | none => respond s c 8 0 0
  | some d => if c.last then close (setOpen s k c none) d else respond (setOpen s k c (some d)) c 0 0 0

/-- Install an object: at once while the partition is stopped; in a running partition only one that equals the object in force
is accepted, and changes nothing (R593). -/
def install (s : Dev) (k : Nat) (c : Cmd) (same : Bool) (put : Dev → Dev) : Dev :=
  if (s.part k).time.mode = .stopped then respond (put s) c 0 0 0
  else if same then respond s c 0 0 0 else respond s c 5 0 0

/-- Change the job objects of a partition. -/
def Dev.updJob (s : Dev) (k : Nat) (f : JobObjects → JobObjects) : Dev := s.updPart k (fun p => { p with job := f p.job })

/-- JOB_MAP (R593, Table HI-7): a malformed map is refused with COMMAND_STATUS 1. -/
def jobMap (s : Dev) (k : Nat) (c : Cmd) : Dev :=
  objectStream s k c (fun s d =>
    let n := leAt d 0 4
    let ids := (List.range n).map (fun r => leAt d (16 + 4 * r) 4)
    if n = 0 ∨ 16384 < n ∨ d.length ≠ 16 + 4 * n ∨ leAt d 4 12 ≠ 0 ∨ ids.any (0xFFFFF ≤ ·) then respond s c 0 1 0
    else install s k c ((s.part k).job.jobMap == some ids) (·.updJob k (fun j => { j with jobMap := some ids })))

/-- LOAD_PARAMS (Table HI-6): 64-bit values in PARAMS order. -/
def loadParams (s : Dev) (k : Nat) (c : Cmd) : Dev :=
  objectStream s k c (fun s d =>
    let v := (List.range (d.length / 8)).map (fun i => leAt d (8 * i) 8)
    if d.length % 8 ≠ 0 then respond s c 0 1 0
    else install s k c ((s.part k).job.params == some v) (·.updJob k (fun j => { j with params := some v })))

/-- An entry of the link-measurement table (Table HI-7b). -/
def linkMeasure (d : Bytes) (e : Nat) : LinkMeasure :=
  let o := 16 + 24 * e
  ⟨leAt d o 4, byteAt d (o + 4), byteAt d (o + 5), byteAt d (o + 6), leAt d (o + 8) 4, leAt d (o + 16) 4, leAt d (o + 20) 4⟩

/-- LINK_MEASURES (R594). -/
def linkMeasures (s : Dev) (k : Nat) (c : Cmd) : Dev :=
  objectStream s k c (fun s d =>
    let ranks := ((s.part k).job.jobMap.getD []).length
    let n := leAt d 4 4
    let m := (List.range n).map (linkMeasure d)
    let clean := (List.range n).all (fun e => byteAt d (16 + 24 * e + 7) == 0 && leAt d (16 + 24 * e + 12) 4 == 0)
    if ranks = 0 ∨ leAt d 0 4 ≠ ranks ∨ 1048576 < n ∨ d.length ≠ 16 + 24 * n ∨ leAt d 8 8 ≠ 0 ∨ ¬ clean
      ∨ m.any (fun x => decide (ranks ≤ x.rank) || decide (ranks ≤ x.peerRank) || decide (64 ≤ x.link) || decide (64 ≤ x.peerLink)
          || decide (2 < x.dlp)) then respond s c 0 1 0
    else install s k c ((s.part k).job.measures == some m) (·.updJob k (fun j => { j with measures := some m })))

/-- A route table (Table FB-3). -/
def RouteTable.parse (d : Bytes) : RouteTable :=
  { ranks := leAt d 0 4, thisRank := leAt d 4 4, salt := leAt d 8 2, openLinks := leAt d 16 8
    linkRank := (List.range 64).map (fun l => leAt d (24 + 2 * l) 2), next := (List.range (leAt d 0 4)).map (fun r => byteAt d (152 + r)) }

/-- The checks of a route table against the job map and the links (R394). -/
def Dev.routeOk (s : Dev) (k : Nat) (d : Bytes) : Bool :=
  let t := RouteTable.parse d
  let ids := (s.part k).job.jobMap.getD []
  let opened := linksOf t.openLinks
  decide (0 < t.ranks) && t.ranks == ids.length && d.length == 152 + t.ranks && leAt d 10 6 == 0
    && decide (t.thisRank < t.ranks) && ids.getD t.thisRank 0xFFFFF == s.selfDev
    && opened.all (fun l => (s.link l).st == 4 && t.linkRank.getD l 0 != 0
        && (match s.rankOf k (s.link l).peerDev with | some r => r != t.thisRank | none => false))
    && t.next.all (fun n => n == 0xFE || n == 0xFF || (decide (n < 64) && bit t.openLinks n))

/-- ROUTE_TABLE (R394, R593): refused, ROUTE_STATE becomes 2 and no table is loaded. -/
def routeTable (s : Dev) (k : Nat) (c : Cmd) : Dev :=
  objectStream s k c (fun s d =>
    let t := RouteTable.parse d
    if (s.part k).time.mode ≠ .stopped then
      (if (s.part k).net.route = some t ∧ d.length = 152 + t.ranks then respond s c 0 0 0 else respond s c 5 0 0)
    else if s.routeOk k d then
      respond (s.updNet k (fun n => { n with routeState := 1, route := some t, openLinks := t.openLinks })) c 0 0 0
    else respond (s.updNet k (fun n => { n with routeState := 2, route := none, openLinks := 0 })) c 0 1 0)

/-- The checks of a tree record (R409). -/
def Dev.treeOk (s : Dev) (k : Nat) (d : Bytes) : Bool :=
  let parent := byteAt d 0
  let children := leAt d 8 8
  let net := (s.part k).net
  let links := (if parent = 0xFE then [] else [parent]) ++ linksOf children
  match net.route with
  | none => false
  | some t => net.routeState == 1 && leAt d 1 7 == 0
      && (parent == 0xFE || (decide (parent < 64) && bit t.openLinks parent && !bit children parent))
      && (linksOf children).all (bit t.openLinks)
      && links.all (fun l => (s.link l).latValid && (s.link l).dlp != 0x0103)

/-- TREE_RECORD (R409, R593). -/
def treeRecord (s : Dev) (k : Nat) (c : Cmd) : Dev :=
  if c.len ≠ 16 then respond s c 4 0 0 else
  let parent := byteAt c.payload 0
  let children := leAt c.payload 8 8
  let p := s.part k
  if p.time.mode ≠ .stopped then
    (if p.plan.receiving && p.net.treeState == 1 && p.net.parentLink == parent && p.net.childLinks == children then
      respond s c 0 0 0 else respond s c 5 0 0)
  else if s.treeOk k c.payload then
    respond (s.updNet k (fun n => { n with treeState := 1, parentLink := parent, childLinks := children })) c 0 0 0
  else respond (s.updNet k (fun n => { n with treeState := 2, parentLink := 0xFF, childLinks := 0 })) c 0 1 0

/-- A part of a host access that lies in what the partition holds, instruction memories of its groups among it (R592). -/
def Dev.hostHeld (s : Dev) (k : Nat) (p : Nat × Nat) : Bool :=
  if isImem p.1 then s.tileEnabled (imemTile p.1) && s.partOfTile (imemTile p.1) == some k else s.partHeld k p

/-- What turns a host access away before anything else: an address outside reach, then a resource of the partition that is being
cleared (R271, R565, R592). -/
def Dev.hostRefusal (s : Dev) (k a n : Nat) : Option Nat :=
  let parts := partsOf a n
  if !parts.all (s.hostHeld k) then some 6
  else if parts.any (fun p => s.isClearing p.1) then some 5 else none

/-- One part of a MEM_WRITE whose place is an instruction memory: firmware writes it line by line (R327). -/
def hostImemWrite (s : Dev) (a : Nat) (d : Bytes) : Dev :=
  (lineParts (d.length / 128 + 2) (a % 0x10000) d).foldl (fun s l =>
    firmwareImem s (imemTile a) (a / 0x10000 % 2) l.1 l.2) s

/-- Whether some part of an access lies in a bank that takes no write (R327). -/
def Dev.imemShut (s : Dev) (parts : List (Nat × Nat)) : Bool :=
  parts.any (fun p => isImem p.1 && !(s.tile (imemTile p.1)).bankOpen (p.1 / 0x10000 % 2))

/-- A host write into a region of a RECEIVING batch is handled as data of its chunk (R491): whether it is performed. -/
def hostChunk (s : Dev) (k a : Nat) (d : Bytes) : Bool × Dev :=
  match receivingBatch s k a d.length with
  | none => (true, s)
  | some b => match chunkAt s k b a d.length with
    | none => (false, s)
    | some (i, off) =>
      let r := chunkData s k b i off d true
      (r.1 == 0 || r.1 == 5, r.2)

/-- The parts of a MEM_WRITE go to their places (R592): a bank that takes no write gives status 7 (R327). -/
def memWriteParts (s : Dev) (c : Cmd) (parts : List (Nat × Nat)) : Dev :=
  let imem := parts.filter (fun p => isImem p.1)
  let other := parts.filter (fun p => !isImem p.1)
  let shut := s.imemShut imem
  let piece (p : Nat × Nat) : Bytes := (c.payload.drop (p.1 - c.arg0)).take p.2
  let s := imem.foldl (fun s p => hostImemWrite s p.1 (piece p)) s
  if other.isEmpty then respond s c (if shut then 7 else 0) 0 0
  else
    let s := setParts s c other.length 0 0
    other.foldl (fun s p => ctlWrite s p.1 (piece p) (.host c.id) c.id) s

/-- MEM_WRITE (R592): the payload is written as a control-plane access; the response follows its last part. -/
def memWrite (s : Dev) (k : Nat) (c : Cmd) : Dev :=
  let a := c.arg0
  let n := c.len
  let parts := partsOf a n
  if n = 0 then respond s c 4 0 0 else
  match s.hostRefusal k a n with
  | some st => respond (if st = 6 then addressReject s else s) c st 0 0
  | none =>
    if s.protectedWeights k a n true then
      respond (s.updWt (fun t => { t with refusals := t.refusals + 1 })) c 6 0 0
    else if !s.parkFits a n then
      respond (s.updRouter (fun r => { r with parkRejects := r.parkRejects + 1 })) c 5 0 0
    else
      match hostChunk s k a c.payload with
      | (false, s) => respond s c 6 0 0
      | (true, s) => memWriteParts s c parts

/-- Whether a range fits in an enabled bulk window (R592). -/
def Dev.windowFits (s : Dev) (f arg2 n : Nat) : Bool :=
  let size := (s.fn f).bulkSize.getD (arg2 % 2) 0
  size != 0 && decide (arg2 / 256 * 256 + n ≤ size)

/-- MEM_READ (R592): bytes are copied into a bulk window as posted writes. A tile store in a region stop or a nap is not
ready. -/
def memRead (s : Dev) (k : Nat) (c : Cmd) : Dev :=
  let a := c.arg0
  let n := c.arg1
  if c.len ≠ 0 ∨ n < 8 ∨ 16777216 < n ∨ ¬ s.windowFits c.fn c.arg2 n then respond s c 4 0 0 else
  match s.hostRefusal k a n with
  | some st => respond (if st = 6 then addressReject s else s) c st 0 0
  | none =>
    let parts := partsOf a n
    if parts.any (fun p => isStore p.1 && (s.storeHeld (storeTile p.1) || (s.stopBeat (storeTile p.1)).isSome)) then
      respond s c 5 0 0
    else
      let mem := parts.filter (fun p => isHbm p.1 || isCap p.1)
      if mem.isEmpty then memReadDone s c
      else mem.foldl (fun s p => addCp s false p.1 [] p.2 (.host c.id)) (setParts s c mem.length 0 n)

/-- PART_STOP (R595): a running partition stops at its next boundary edge, and the response follows; one that is stopped
already answers at once. -/
def partStop (s : Dev) (k : Nat) (c : Cmd) : Dev :=
  if c.len ≠ 0 then respond s c 4 0 0
  else if (s.part k).time.mode = .stopped then respond s c 0 0 0
  else (setParts s c 1 0 0).updTime k (fun t => { t with stopAsked := t.stopAsked ++ [c.id] })

/-- PART_RESET (R595): accepted only while the partition is stopped. -/
def partReset (s : Dev) (k : Nat) (c : Cmd) : Dev :=
  if c.len ≠ 0 then respond s c 4 0 0
  else if (s.part k).time.mode ≠ .stopped then respond s c 5 0 0
  else (setParts s c 1 0 0).updPart k (fun p => { p with resetAsked := p.resetAsked ++ [c.id] })

/-- Whether every memory queue of a partition is empty, that of its token-selection unit too (R297,
R595). -/
def Dev.queuesEmpty (s : Dev) (k : Nat) : Bool :=
  (s.part k).serving.memq.isEmpty && (s.partTiles k).all (fun t => (s.tile t).mq.entries.isEmpty)

/-- PART_RESET_EXECUTE (R595, R433, R500, R443): the context switch, PLAN_STATE 0, weights and token selection. -/
def partResetExecute (s : Dev) (k : Nat) : Dev :=
  let p := s.part k
  if p.resetAsked = [] ∨ p.time.mode ≠ .stopped ∨ ¬ s.queuesEmpty k ∨ p.plan.streams.any (·.closing.isSome) then s
  else
    let s := contextSwitch s k false
    let s := (s.partTiles k).foldl (fun s t => s.updTile t (fun x =>
      { x.fresh with
        core := { x.fresh.core with state := .idle, faultCause := 0 }
        eng := { x.eng with
          cg := [], vu := [], sfu := [], ix := [], fu := [], mv := [], dg := [], cgToVu := [], vuToSfu := [], sfuToVu := []
          ixOut := [], mvToCg := [], flights := [], ended := false, coreUse := [], wrote := [], undo := [], record := [] } })) s
    let s := weightsDisturbed (dropSuccessor s k) k true
    let s := s.updPart k (fun p => { p with
      plan := { p.plan with plan := none, state := 0, stopFrom := none, stopDue := false, switching := false }
      serving := .reset, resetAsked := [] })
    p.resetAsked.foldl commandPart s

/-- BOW_START (R435): its COMMAND_STATUS. -/
def bowStartCommand (s : Dev) (k : Nat) (c : Cmd) : Dev :=
  if c.len ≠ 0 then respond s c 4 0 0
  else
    let r := bowStart s k
    respond r.2 c 0 r.1 0

/-- BARRIER_ENTER (R419, Table HI-6). An ID that the plan does not provide, or E outside 1 to 1,024, is refused with
COMMAND_STATUS 1. -/
def barrierEnterCommand (s : Dev) (k : Nat) (c : Cmd) : Dev :=
  let id := c.arg0 % 256
  let e := bits c.arg0 16 11
  let ids := match s.planOf k with | some q => q.header.barrierIds | none => 0
  if c.len ≠ 0 then respond s c 4 0 0
  else if ids ≤ id ∨ e = 0 ∨ 1024 < e then respond s c 0 1 0
  else respond (barrierEnter s k id (bits c.arg0 8 8) e none (some c.fn)) c 0 0 0

/-- BARRIER_WATCH (R419). -/
def barrierWatchCommand (s : Dev) (k : Nat) (c : Cmd) : Dev :=
  let id := c.arg0 % 256
  let ids := match s.planOf k with | some q => q.header.barrierIds | none => 0
  if c.len ≠ 0 then respond s c 4 0 0
  else if ids ≤ id then respond s c 0 1 0
  else
    let b := s.barrier k id
    respond (s.setBarrier k id { b with watches := b.watches ++ [(bits c.arg0 8 8, c.fn)] }) c 0 0 0

/-- SCRUB (R548, R549): its COMMAND_STATUS of Table IN-3. REQUESTER is 0xFE for host admin, k for partition k (Table IN-4). -/
def scrubCommand (s : Dev) (k : Nat) (c : Cmd) : Dev :=
  if c.len ≠ 17 ∧ c.len ≠ 24 then respond s c 4 0 0
  else
    let body := c.payload
    let holder := if c.fn = 0 then none else some k
    let st := if leAt body 6 2 ≠ 0 ∨ leAt body 17 7 ≠ 0 then 1 else scrubStatus s holder body
    if st ≠ 0 then respond s c 0 st 0
    else
      let s := startScrub s (if c.fn = 0 then 0xFE else k) c.fn (bit (byteAt body 16) 0) (leAt body 0 6) (leAt body 8 8)
      respond s c 0 0 0

/-- WMIRROR (R491): the source batch must be READY or LIVE with the manifest digest named; the load then runs on its own. The
body names, in this order: source batch, destination batch, FLOWS, number of regions (1 byte each), destination device, first
chunk, chunk count (4 bytes each), the digest (48 bytes), and the destination's regions as in Table WT-2 (16 bytes each). -/
def wMirror (s : Dev) (k : Nat) (c : Cmd) : Dev :=
  let p := c.payload
  let src := byteAt p 0
  let n := byteAt p 3
  if c.len < 64 ∨ c.len ≠ 64 + 16 * n then respond s c 4 0 0 else
  let dest := leAt p 4 4
  let first := leAt p 8 4
  let count := leAt p 12 4
  let flows := byteAt p 2
  let x := (s.weights k).batch src
  let regions := (List.range n).map (fun i => (leAt p (64 + 16 * i) 6, leAt p (64 + 16 * i + 8) 8))
  let entries := (List.range count).map (fun i => manifestChunk x.manifest (first + i))
  if 1 < src ∨ 1 < byteAt p 1 ∨ flows = 0 ∨ 16 < flows ∨ 2 ^ 20 ≤ dest ∨ n = 0 ∨ 32 < n then weightStatus s k c 1
  else if x.state ≠ 2 ∧ x.state ≠ 4 then weightStatus s k c 2
  else if slice p 16 48 ≠ x.digest ∨ count = 0 ∨ x.chunkCount < first + count
    ∨ entries.any (fun e => decide (n ≤ e.region) || decide ((regions.getD e.region (0, 0)).2 < e.off + e.len)) then
    weightStatus s k c 1
  else if !maySend s k dest then weightStatus s k c 9
  else
    let i := s.newId
    let job : MirrorJob := {
      id := i.1, fn := c.fn, batch := src, dest := dest, regions := regions, flows := flows, next := first, todo := count
      flight := [], confirmed := 0, firstFailed := 0xFFFFFFFF }
    let s := weightStatus (i.2.updWeights k (fun w => { w with mirrors := w.mirrors ++ [job] })) k c 0
    mirrorPump s k i.1

end Sys2Proof.Machine
end

