-- ==== Sys2Proof/Machine/Boot.lean ====
section
/-!
DEFINITION. Resets, start-up and pins (19, 20, 22, 23).
-/
namespace Sys2Proof.Machine

/-- Change the start-up state. -/
def Dev.updBoot (s : Dev) (f : Boot → Boot) : Dev := { s with boot := f s.boot }

/-- A device reset (R602, R677): everything but the fuses, the last-gasp area, the always-on domain, host memory and the
model's own numbers is lost. `pwrgd` and `resetN` are the levels of the pins. -/
def deviceReset (s : Dev) (pwrgd resetN : Bool) : Dev :=
  let f := Dev.fresh s.fuses
  { f with
    time := { f.time with refclk := s.time.refclk }
    gasp := { LastGasp.reset with area := s.gasp.area }
    hostMem := s.hostMem, accessSeq := s.accessSeq, free := s.free
    pcie := { f.pcie with perst := s.pcie.perst }
    power := { f.power with thermtrip := s.power.thermtrip, regrades := s.power.regrades }
    boot := { f.boot with
      pwrgd := pwrgd, resetN := resetN, vddAux := s.boot.vddAux, tap := s.boot.tap
      before := if s.enabledGroups = 0 then s.boot.before else some (s.grade, s.enabledGroups) }
    }

/-- DEVICE_RESET (R677): PWRGD or RESET_N is low. -/
def deviceResetPins (s : Dev) (pwrgd resetN : Bool) : Dev := if pwrgd && resetN then s else deviceReset s pwrgd resetN

/-- DEVICE_RESET_KEY (R602): the key written to HI_DEVICE_RESET of the PF; any other value is ignored. -/
def deviceResetKey (s : Dev) (f v : Nat) : Dev :=
  if s.registersOpen f && f == 0 && v == 0xD2A7 then deviceReset s true true else s

/-- BOOT_ROM (R576, R603, R677, R679): at the release of reset, with the slot straps; BC counts from 0. The boot ROM reads the
fuses, fixes the grade and the enabled groups and brings up PCIe; without a grade start-up ends with cause 1. -/
def bootRom (s : Dev) (slot : Nat) : Dev :=
  if s.stage ≠ 0 then s else
  let g := s.fuses.grade
  let m := s.fuses.enabled
  let changed := match s.boot.before with | some b => b != (g, m) | none => false
  { s with
    time := { Timebase.reset with refclk := s.time.refclk }
    grade := g, enabledGroups := m, stage := if g = 0xFF then 9 else 2, failCause := if g = 0xFF then 1 else 0
    pcie := { s.pcie with linkUp := !s.pcie.perst }
    power := { s.power with regrades := s.power.regrades + boolNat changed }
    mgmt := .reset (sparePenalty s.fuses.spare)
    boot := { s.boot with
      since := 0, spare := s.fuses.spare, sledSlot := slot, pwrgd := true, resetN := true, vddAux := true
      tap := match s.boot.tap with | .other _ => .bypass | i => i } }

/-- FW_SEGMENT (R604): the packets of the image's stream; a stream opened again replaces the image. -/
def fwSegment (s : Dev) (k : Nat) (c : Cmd) : Dev :=
  match streamTake s k c with
  | none => respond s c 8 0 0
  | some d =>
    let s := setOpen (s.updBoot (fun b => { b with image := d, closed := c.last })) k c (if c.last then none else some d)
    respond s c 0 0 0

/-- FW_START (R605): the device enters VERIFY; the response follows the verification. -/
def fwStart (s : Dev) (_ : Nat) (c : Cmd) : Dev :=
  if c.len ≠ 0 then respond s c 4 0 0
  else { (setParts s c 1 0 0).updBoot (fun b => { b with starting := some c.id, since := s.time.bc }) with stage := 3 }

/-- The key slot that holds the key of an image, unrevoked (R605). -/
def Fuses.slotOf (f : Fuses) (key : Bytes) : Option Nat :=
  (List.range 4).find? (fun i => f.keySlots.getD i [] == sha384 key && !bit f.revoked i)

/-- The first check of FW_START that fails, or 0 (R605, Table HI-12). -/
def imageCause (f : Fuses) (closed : Bool) (m : Bytes) : Nat :=
  let n := leAt m 8 4
  let key := slice m 16 96
  if ¬ closed ∨ leAt m 0 4 ≠ 0x46565045 ∨ leAt m 4 2 ≠ 1 ∨ leAt m 6 2 ≠ 0 ∨ n ≠ m.length ∨ n < 4096 ∨ 16777216 < n ∨ n % 16 ≠ 0
    ∨ leAt m 112 16 ≠ 0 then 2
  else if (f.slotOf key).isNone then 3
  else if ¬ ecdsaVerify key (sha384 (m.take (n - 96))) (m.drop (n - 96)) then 4
  else if leAt m 12 4 < f.fwMinVersion then 5 else 0

/-- Firmware checks a last-gasp record left from before the reset and publishes it (R650). -/
def publishGasp (s : Dev) : Dev :=
  let a := s.gasp.area
  if leAt a 0 4 = 0x47565045 ∧ a.length = 4096 ∧ leAt a 4088 8 = crc64 (a.take 4088) then
    { s with gasp := { s.gasp with valid := true, bc := leAt a 8 8 } }
  else s

/-- VERIFY_DONE (R605): the first check that fails is recorded and the device returns to WAIT_FW; otherwise it enters FW_INIT,
whose firmware serves the object dictionary and publishes a last-gasp record. -/
def verifyDone (s : Dev) : Dev :=
  if s.stage ≠ 3 then s else
  let cause := imageCause s.fuses s.boot.closed s.boot.image
  let answer (s : Dev) : Dev :=
    match s.boot.starting with
    | none => s
    | some id =>
      let s := { s with commands := s.commands.map (fun (c : Cmd) => if c.id = id then { c with status := cause } else c) }
      commandPart (s.updBoot (fun b => { b with starting := none })) id
  if cause ≠ 0 then
    answer { s.updBoot (fun b => { b with image := [], closed := false, since := s.time.bc }) with stage := 2, failCause := cause }
  else
    let m := s.boot.image
    let slot := (s.fuses.slotOf (slice m 16 96)).getD 0xFF
    let s := { s.updBoot (fun b => { b with keySlot := slot, since := s.time.bc }) with
      stage := 4, fwRunning := true, fwVersion := leAt m 12 4 }
    answer (publishGasp s)

/-- Start-up ends in FAILED (R607), which is notified (R627). -/
def startFails (s : Dev) (cause : Nat) : Dev :=
  notify { s.updBoot (fun b => { b with since := s.time.bc }) with stage := 9, failCause := cause }

/-- FW_INIT_DONE (R603). A fault in it (cause 9, Table HI-12) is a device-fatal error of the stage (R640). -/
def fwInitDone (s : Dev) : Dev :=
  if s.stage = 4 then { s.updBoot (fun b => { b with since := s.time.bc }) with stage := 5 } else s

/-- The capacity of the fitted capacity channels (R276): none where one failed or they differ. -/
def fittedCapacity (cap : List (Option Nat)) : Option Nat :=
  match cap with
  | [] => some 0
  | none :: _ => none
  | some g :: t => if t.all (· == some g) && [16, 32, 64, 128].contains g then some g else none

/-- MEM_TRAIN_DONE (R276, R603, R606, R630): whether every HBM channel has trained, what each fitted capacity channel came to
(none failed), and the identity that each stack reports. The device enters LINK_TRAIN and enables every link whose LINK_ENABLE
nothing has written since the reset (R341). -/
def memTrainDone (s : Dev) (hbm : Bool) (cap : List (Option Nat)) (hbmStacks : List (Nat × Bytes)) : Dev :=
  if s.stage ≠ 5 then s
  else if !hbm then startFails s 6
  else match fittedCapacity cap with
    | none => startFails s 7
    | some g =>
      let s := { s.updBoot (fun b => { b with since := s.time.bc, hbmStacks := hbmStacks }) with stage := 6, capGib := g }
      (List.range 64).foldl (fun s l => if (s.link l).written then s else (linkEnableWrite s l true true).2) s

/-- LINK_TRAIN_DONE (R606): every enabled link is UP or DOWN, or LINK_WAIT (50 ms, 12,500,000 beats) has passed. -/
def linkTrainDone (s : Dev) : Dev :=
  let settled := (List.range 64).all (fun l => !(s.link l).enable || (s.link l).st == 4 || (s.link l).st == 5)
  if s.stage = 6 ∧ (settled ∨ s.boot.since + 12500000 ≤ s.time.bc) then
    { s.updBoot (fun b => { b with since := s.time.bc }) with
      stage := 7, integrity := { s.integrity with selftestState := 1 } }
  else s

/-- Whether a checker row of Table IN-5 belongs to a tile. -/
def tileChecker (row : Nat) : Bool := row == 1 || row == 2 || row == 3 || row == 7

/-- A failed checker is logged, and a tile's is a fusing candidate (R554, R557). -/
def checkerFailed (s : Dev) (x : Nat × Nat) : Dev :=
  let tile := if tileChecker x.1 then some x.2 else none
  let s := match tile with | some t => fusingCandidate s t | none => s
  raise s 0 17 554 none tile (integrityDetail 8 8 0 none tile x.1 0)

/-- SELFTEST_DONE (R553, R554, R607): the failed checkers, as row of Table IN-5 and tile, channel or array number. -/
def selftestDone (s : Dev) (fails : List (Nat × Nat)) : Dev :=
  if s.stage ≠ 7 then s else
  match fails with
  | [] =>
    let s := { s.updBoot (fun b => { b with since := s.time.bc }) with
      stage := 8, integrity := { s.integrity with selftestState := 2 }
      hostTotals := { s.hostTotals with readyBc := s.time.bc } }
    notify (pushEvent s 0 0x10 (leBytes 4 s.fwVersion ++ leBytes 1 s.grade ++ zeros 11))
  | x :: _ =>
    let s := s.updIn (fun i => { i with
      selftestState := 3, selftestFails := fails.length, firstFailChecker := x.1, firstFailUnit := x.2 })
    startFails (fails.foldl checkerFailed s) 8

/-- THERMTRIP_RELEASE (R681): PWRGD is low and every junction sensor reads below 95 °C; `tj` is the hottest. -/
def thermtripRelease (s : Dev) (tj : Int) : Dev :=
  if !s.boot.pwrgd && decide (tj < 95) then s.updPower (fun p => { p with thermtrip := false }) else s

/-- VDD_AUX_LOSS (R673, R677): the always-on domain is unpowered; the last-gasp record in ND0 SRAM and THERMTRIP_N go. -/
def vddAuxLoss (s : Dev) : Dev :=
  let s := { s.updPower (fun p => { p with thermtrip := false }) with gasp := .reset }
  s.updBoot (fun b => { b with vddAux := false })

/-- IDCODE (R682). -/
def idcode : Nat := 0x2D7A1C3B

/-- TAP_INSTRUCTION (R682): other instructions than BYPASS and IDCODE act only while RESET_N is low, and are BYPASS at any
other time. -/
def tapInstruction (s : Dev) (i : TapInstr) : Dev :=
  let s := s.updBoot (fun b => { b with tap := match i with | .other n => if b.resetN then .bypass else .other n | j => j })
  if i = .idcode then { s with readData := leBytes 4 idcode } else s

/-- Every link goes down with cause 5: the device has halted (R651). -/
def haltLinks (s : Dev) : Dev :=
  (List.range 64).foldl (fun s l =>
    let x := s.link l
    if x.st = 4 then linkDown s l 5
    else if x.st = 0 ∨ x.st = 5 then s
    else s.updLink l (fun x => { x with st := 5, downCause := 5, lastDownBc := s.time.bc, measuring := false })) s

/-- FATAL_LINK_DISABLE (R640): after a device-fatal error firmware writes 0 to LINK_ENABLE of a link. -/
def fatalLinkDisable (s : Dev) (l : Nat) : Dev :=
  if s.deviceFatal && s.fwRunning && !s.halted then (linkEnableWrite s l false true).2 else s

end Sys2Proof.Machine
end

