-- ==== Sys2Proof/Machine/Steps.lean ====
section
/-!
DEFINITION. Steps, stints and region stops of a running plan (02, 03, 11): boundaries, slips, decision points, bank swaps,
successor switches, naps and wakes, run records (17).
-/
namespace Sys2Proof.Machine

/-- The physical bank that a tile does not run from (R326). -/
def Tile.inactiveBank (x : Tile) : Nat := 1 - x.imemActive

/-- The banks of a tile swap: the bank that becomes inactive is unsealed, the active one is sealed, and the core goes on at
instruction 0 (R262, R327, R328). -/
def Tile.swapBanks (x : Tile) : Tile :=
  let old := x.imemActive
  let x := { (x.setSealed old false).setSealed (1 - old) true with imemActive := 1 - old }
  { x with core := { x.core with pc := 0, swapOwed := false } }

/-- Whether a tile naps or wakes, and so is not in its partition's done tree (R264, R566). -/
def Tile.away (x : Tile) : Bool := x.clock.gen == .napped || x.clock.gen == .waking

/-- The group mask of the swap at the end of the stint in progress; 0 where it swaps nothing (R313, R328). -/
def PlanState.swapMask (p : PlanState) : Nat :=
  if p.stint.swap then (match p.plan with | some q => q.swapSets.getD p.stint.swapSet 0 | none => 0) else 0

/-- Tiles of a partition that are in its done tree. -/
def Dev.doneTiles (s : Dev) (k : Nat) : List Nat := (s.partTiles k).filter (fun t => !(s.tile t).away)

/-- Whether a tile counts as done but for the seal of its inactive bank (R51, R328): a write wait for a line that is still to
enter the mesh holds it back (R90). -/
def Dev.atEnd (s : Dev) (t : Nat) : Bool := (s.tile t).core.state == .atEnd && s.linesSent t

/-- Whether the seal that R328 asks of a tile is in place. -/
def Dev.sealReady (s : Dev) (k t : Nat) : Bool :=
  !bit (s.part k).plan.swapMask (tileGroup t) || (s.tile t).sealed (s.tile t).inactiveBank

/-- A sample of the done tree (R51). -/
def Dev.allDone (s : Dev) (k : Nat) : Bool := (s.doneTiles k).all (fun t => s.atEnd t && s.sealReady k t)

/-- Whether only missing seals hold the done tree back (R328, SEAL_WAIT_BEATS). -/
def Dev.sealWaits (s : Dev) (k : Nat) : Bool := (s.doneTiles k).all s.atEnd && !s.allDone k

/-- Whether pacing applies (R573). -/
def Dev.paced (s : Dev) : Bool := decide (2 ≤ s.power.thermalState) || s.power.powerPacing

/-- Count a still edge of a running partition (R55, R60, R73). -/
def stillEdge (s : Dev) (k : Nat) : Dev :=
  s.updTime k (fun t => { t with
    offset := t.offset + 1, still := t.still + 1, longestStill := max t.longestStill (t.still + 1) })

/-- A core begins a stint: the period of cycle 0 is at hand (R52, R106). -/
def Core.beginStint (c : Core) : Core :=
  { c with
    state := .running, cycle := 0, held := 0, spare := true, rest := false, release := 0, lastDue := 0, endDue := none }

/-- A tile with capacity period `tp` begins a stint at the present edge (R52, R76, R108): engines free, planned accesses counted
anew. -/
def Tile.beginStint (tp : Nat) (x : Tile) : Tile :=
  { x with
    clock := x.clock.boundary tp, core := x.core.beginStint
    eng := { x.eng with
      freeAt := List.replicate 15 0, flights := [], ended := false, coreUse := [], wrote := [], undo := [] } }

/-- The digests see the words of narrow stores whose second cycle did not come before the stint end (R117, R119). -/
def closeWrites (s : Dev) (t : Nat) : Dev :=
  ((s.tile t).eng.wrote.filter (fun y => y.2.2)).foldl (fun s y => digestSee s t (8 * y.2.1) 8) s

/-- Tile `t` begins a stint (R52). -/
def tileStint (s : Dev) (t : Nat) : Dev :=
  let s := closeWrites s t
  countFull (s.updTile t (Tile.beginStint (s.periodOf t))) t 1

/-- A tile that ended its stint with stint.nap naps at the boundary edge (R264, R266). -/
def Tile.beginNap (x : Tile) : Tile :=
  { x with
    core := { x.core with
      state := .napped, endDue := none, wakeCauses := 0, wakeDone := none, cycle := 0, held := 0, release := 0, lastDue := 0
      spare := false, rest := false }
    clock := { x.clock with gen := .napped }, forest := .reset }

/-- Every tile of a partition that is not away begins the stint (R52). -/
def beginStint (s : Dev) (k : Nat) : Dev :=
  let s := (s.doneTiles k).foldl (fun s t =>
    match (s.tile t).core.state with
    | .atEnd | .idle => tileStint s t
    | _ => s) s
  s.updTime k (fun t => { t with done0 := false, done1 := false, done2 := false, edgeDue := false, slipping := false })

/-- Stint records of the body in force: the first index (R315). -/
def PlanState.bodyFirst (p : PlanState) : Nat := if p.boosted then p.step.boostFirst else p.step.first

/-- The operating point that a step runs at (R66, R68). -/
def StepRec.point (r : StepRec) (boosted : Bool) : Nat := if r.op = 3 then (if boosted then 2 else 1) else r.op

/-- The step begins with its first stint at the present edge (R66, R317, R330, R523). -/
def beginStep (s : Dev) (k : Nat) : Dev :=
  let t := (s.part k).time
  let s := s.updPlan k (fun p => { p with
    stopFrom := none, switching := false, stepBegan := t.pbc, firstBc := s.time.bc, firstPbc := t.pbc
    stintIx := p.bodyFirst, stintStart := t.pbc
    arrivals := p.arrivals.filter (fun a => a.left != 0 || (decide (t.pbc ≤ a.due) && !a.checked))
      ++ (match p.plan with | some q => newArrivals q p.stepIx t.pbc | none => [])
    stageOpened := p.stageOpened || p.step.stageOpen })
  beginStint s k

/-- Queue the run record of the step that ends at the present edge (R522 to R524). -/
def queueRecord (s : Dev) (k : Nat) : Dev :=
  let p := s.part k
  match p.plan.plan with
  | none => s
  | some q =>
    let live := (List.range 2).find? (fun b => (p.weights.batch b).state == 4)
    let batch := live.map p.weights.batch
    let r : DueRecord := {
      bcEnd := s.time.bc, pbcEnd := p.time.pbc, bcFirst := p.plan.firstBc, pbcFirst := p.plan.firstPbc, step := p.audit.step
      stepIndex := p.plan.stepIx, op := p.time.opCurrent, rank := q.header.rank, reproducible := q.header.reproducible
      planHash := q.hash, patchDigest := q.patchDigest
      manifest := (match batch with | some b => b.digest | none => zeros 48)
      version := (match batch with | some b => b.version | none => 0), shards := q.header.shards, seeds := p.audit.seeds
      unsync := s.time.sync != 2 }
    serveStepEnd (s.updPart k (fun p => { p with audit := { p.audit with due := p.audit.due ++ [r] } })) k

/-- The step counter takes the value of the step that follows (R520). -/
def countStep (s : Dev) (k : Nat) : Dev :=
  s.updPart k (fun p => { p with audit := { p.audit with step := (p.audit.step + 1) % 2 ^ 64 } })

/-- The bank swap that the ended stint asks for (R266, R328). -/
def swapAtBoundary (s : Dev) (k mask : Nat) : Dev :=
  (s.partTiles k).foldl (fun s t =>
    if bit mask (tileGroup t) then
      s.updTile t (fun x => if x.away then { x with core := { x.core with swapOwed := true } } else x.swapBanks)
    else s) s

/-- Tiles that asked for a nap begin it (R264); each is counted (R268). -/
def beginNaps (s : Dev) (k : Nat) : Dev :=
  (s.doneTiles k).foldl (fun s t =>
    if (s.tile t).core.napAsk.isSome ∧ (s.tile t).core.state = .atEnd then
      ((closeWrites s t).updTile t Tile.beginNap).updOps (fun o => { o with naps := o.naps + 1 })
    else s) s

/-- PBC becomes S + L: the stint ends, and the next stint, the next region stop, or the end of the plan follows (R49, R52,
R262, R314, R595). -/
def advanceStint (s : Dev) (k : Nat) : Dev :=
  let mask := (s.part k).plan.swapMask
  let s := s.updTime k (fun t => { t with slipping := false, edgeDue := false })
  let s := beginNaps (swapAtBoundary (advancePbc s k) k mask) k
  let p := (s.part k).plan
  match p.plan with
  | none => s
  | some q =>
    let last := p.bodyFirst + p.step.stints ≤ p.stintIx + 1
    let s := if last then queueRecord s k else s
    if (s.part k).time.stopAsked ≠ [] then stopPart s k false
    else if !last then
      beginStint (s.updPlan k (fun p => { p with stintIx := p.stintIx + 1, stintStart := (s.part k).time.pbc })) k
    else match q.nextStep p.stepIx with
      | none => stopPart (s.updPlan k (fun p => { p with state := 4 })) k true
      | some n =>
        let s := s.updPlan k (fun p => { p with came := some p.stepIx, stepIx := n, boosted := false })
        if (q.steps.getD n ⟨1, true, false, false, 1, 0, 0, 0⟩).stop then
          s.updPlan k (fun p => { p with stopDue := true })
        else beginStep (countStep s k) k

/-- The partition slips at the present edge (R55, R56). -/
def beginSlip (s : Dev) (k : Nat) : Dev :=
  let s := if s.sealWaits k then s.updOps (fun o => { o with sealWaitBeats := o.sealWaitBeats + 1 }) else s
  let s := stillEdge s k
  let s := s.updTime k (fun t => { t with
    slipping := true, edgeDue := false, slipCount := t.slipCount + 1, slipBeats := t.slipBeats + 1 })
  if s.multiDevice k then assertHold s k 2 else s

/-- Whether a boundary edge of a partition is at hand. -/
def Dev.atBoundary (s : Dev) (k : Nat) : Bool :=
  let p := s.part k
  s.planRuns k && p.time.mode == .running && p.time.edgeDue && p.plan.stopFrom.isNone && !p.plan.stopDue

/-- STINT_BOUNDARY (R49 to R56, R573). -/
def stintBoundary (s : Dev) (k : Nat) : Dev :=
  if !s.atBoundary k || (s.part k).time.slipping then s
  else if s.paced then
    let s := beginSlip s k
    { s.updTime k (fun t => { t with pacing := 15 }) with power := { s.power with paceBeats := s.power.paceBeats + 1 } }
  else if (s.part k).time.done2 then advanceStint s k
  else beginSlip s k

/-- SLIP_END (R55). -/
def slipEnd (s : Dev) (k : Nat) : Dev :=
  if s.atBoundary k && (s.part k).time.slipping then advanceStint s k else s

/-- Decision points at the present PBC: kind and whether it is 1 boost or 2 switch, looking ahead over the region stops that
follow a step that ends at `stop` (R68, R331). -/
def decisionsAhead : Nat → Plan → Nat → Nat → Nat → List Nat
  | 0, _, _, _, _ => []
  | f + 1, q, i, stop, pbc =>
    match q.nextStep i with
    | none => []
    | some n =>
      let d : StepRec := ⟨1, true, false, false, 1, 0, 0, 0⟩
      let r := q.steps.getD n d
      let here := q.steps.getD i d
      let at_ (x : StepRec) : Bool := x.decision ≤ stop && stop - x.decision == pbc
      let mine := (if r.stop && r.op == 3 && at_ r then [1] else []) ++ (if r.stop && here.switch && at_ here then [2] else [])
      mine ++ decisionsAhead f q n (stop + (if r.stop then 64 else 0) + q.stepBeats n) pbc

/-- Where the step in progress, or the step that follows the region stop in progress, ends. -/
def PlanState.stepEnd (p : PlanState) (q : Plan) (pbc : Nat) : Nat :=
  let began := match p.stopFrom with
    | some f => f + 64
    | none => if p.stopDue then pbc + 64 else p.stepBegan
  began + q.stepBeats p.stepIx

/-- The largest DECISION of a plan. -/
def Plan.maxDecision (q : Plan) : Nat := q.steps.foldl (fun n r => max n r.decision) 0

/-- DECISION_POINT (R68, R331, R411): the grant bit or the staged bit is sampled at the decision PBC. -/
def decisionPoint (s : Dev) (k : Nat) : Dev :=
  let p := s.part k
  if !s.planRuns k then s else
  match p.plan.plan with
  | none => s
  | some q =>
    let pbc := p.time.pbc
    if pbc < p.plan.planBegan then s else
    (decisionsAhead (q.maxDecision / 16 + 2) q p.plan.stepIx (p.plan.stepEnd q pbc) pbc).foldl (fun s kind =>
      let v := (s.part k).net.vote kind pbc
      if v.own.isSome then s
      else
        let own := if kind = 1 then p.power.grantBit else decide (p.plan.succState = 3)
        trySendVote (s.updNet k (·.setVote { v with own := some own })) k kind pbc) s

/-- The decision for a region stop that begins at `stop`: some result, or none where none has been received (R68, R331). -/
def decided (s : Dev) (k kind stop decision : Nat) : Option Bool :=
  let p := s.part k
  if stop < decision + p.plan.planBegan then some false else (p.net.vote kind (stop - decision)).result

/-- Whether the region stop at `pbc` before step `r`, after step `here`, is the one that a vote decides (R68, R331). -/
def usedVote (r : StepRec) (here : Option StepRec) (pbc : Nat) (v : Vote) : Bool :=
  (v.kind == 1 && r.op == 3 && v.pbc + r.decision == pbc)
    || (v.kind == 2 && here.any (fun h => h.switch && v.pbc + h.decision == pbc))

/-- REGION_STOP (R67, R68, R70, R331, R497, R520): the stop that is due begins. -/
def regionStop (s : Dev) (k : Nat) : Dev :=
  let p := s.part k
  if !s.planRuns k || p.time.mode != .running || !p.plan.stopDue || p.time.holdPoint == some p.time.pbc then s else
  match p.plan.plan with
  | none => s
  | some q =>
    let d : StepRec := ⟨1, true, false, false, 1, 0, 0, 0⟩
    let r := q.steps.getD p.plan.stepIx d
    let here := p.plan.came.map (fun i => q.steps.getD i d)
    let pbc := p.time.pbc
    let boost := if r.op = 3 then decided s k 1 pbc r.decision else some false
    let switch := match here with
      | some h => if h.switch then decided s k 2 pbc h.decision else some false
      | none => some false
    let s := if boost.isNone then raise s 2 1 68 (some k) none (zeros 16) else s
    let s := if switch.isNone then raise s 2 10 331 (some k) none (zeros 16) else s
    let taken := switch.getD false && p.plan.succState == 3
    let next := if taken then (match p.plan.successor with | some x => x.plan.steps.getD 0 d | none => r) else r
    let boosted := !taken && boost.getD false
    let s := s.updPart k (fun p => { p with
      plan := { p.plan with stopFrom := some pbc, stopDue := false, switching := taken, boosted := boosted }
      time := { p.time with opBefore := p.time.opCurrent, opCurrent := next.point boosted }
      net := { p.net with votes := p.net.votes.filter (fun v => !usedVote r here pbc v && decide (pbc < v.pbc + q.maxDecision)) } })
    let s := s.updTime k (fun t => { t with holdPoint := t.holdPoint.map (movedPoint (s.part k).plan) })
    let s := if p.plan.came.isSome then countStep s k else s
    let s := (s.partTiles k).foldl (fun s t => s.updTile t (·.updClock (fun c => { c with selfCheckTrips := 0 }))) s
    let w := s.weights k
    if p.plan.came.isSome ∧ w.armPbc ≤ pbc ∧ w.batches.any (·.state == 3) then
      weightSwitch (s.updWeights k (fun w => { w with switching := true })) k
    else s

/-- REGION_STOP_LOCK_CHECK (R94): a tile whose generator has not locked by beat 40, or with more than 8 trips in beats 40
to 55. -/
def regionStopLockCheck (s : Dev) (t : Nat) (locked : Bool) : Dev :=
  match s.stopBeat t with
  | none => s
  | some b =>
    if (s.tileEnabled t) && decide (40 ≤ b) && (!locked || decide (8 < (s.tile t).clock.selfCheckTrips))
      && (s.tile t).clock.gen == .on then clockFault s t 94 4 else s

/-- Land one 8-byte word in a tile store (R93, R315). -/
def landWord (s : Dev) (t off v : Nat) : Dev := addLandings s t [⟨.link, off, leBytes 8 v, []⟩]

/-- DECISION_WORD (R93, R315, R484): beat 56 of a region stop. -/
def decisionWord (s : Dev) (k : Nat) : Dev :=
  let p := s.part k
  match p.plan.plan, p.plan.stopFrom with
  | some q, some f =>
    if s.planRuns k ∧ p.time.pbc = f + 56 then
      let w := p.time.opCurrent + 4 * boolNat p.plan.switching
      let tiles := s.partTiles k
      let s := tiles.foldl (fun s t => unpark s t) s
      let s := tiles.foldl (fun s t => landWord s t q.header.opword w) s
      match (s.weights k).config with
      | none => s
      | some c => (tiles.filter (fun t => bit c.wptrGroups (tileGroup t))).foldl
          (fun s t => landWord s t c.wptrOffset (pointerWord (s.weights k))) s
    else s
  | _, _ => s

/-- The successor takes over at the edge that ends the region stop (R332, R433, Table WT-6). -/
def takeSuccessor (s : Dev) (k : Nat) : Dev :=
  match (s.part k).plan.successor with
  | none => s
  | some x =>
    let p := s.part k
    let s := weightsDisturbed s k false
    let s := contextSwitch s k (!p.net.parity)
    let s := (s.partTiles k).foldl (fun s t => s.updTile t (fun x => let y := (x.swapBanks).fresh; { y with baseBank := y.imemActive })) s
    serveSwitch (s.updPlan k (fun p => { p with
      plan := some x.plan, successor := none, succState := 0, succHash := [], switches := p.switches + 1, stepIx := 0
      came := none, boosted := false, planBegan := (s.part k).time.pbc, stageOpened := false })) k

/-- REGION_STOP_END (R67, R92, R332): the edge that ends the stop; the step begins. -/
def regionStopEnd (s : Dev) (k : Nat) : Dev :=
  let p := s.part k
  match p.plan.stopFrom with
  | none => s
  | some f =>
    if !s.planRuns k || p.time.mode != .running || !p.time.edgeDue || p.time.pbc + 1 != f + 64 then s
    else
      let s := advancePbc s k
      let s := s.updWeights k (fun w => { w with switching := false })
      beginStep (if p.plan.switching then takeSuccessor s k else s) k

/-- Whether the alarm of a nap is enabled and its lead edge has come: alarm PBC − 130 (R566). -/
def alarmReached (c : Core) (pbc : Nat) : Bool :=
  match c.napAsk with
  | some (alarm, mask) => bit mask 17 && decide ((pbc + 130 + 2 ^ 48 - alarm) % 2 ^ 48 < 2 ^ 47)
  | none => false

/-- TILE_WAKE (R264, R566): an enabled event, or the alarm's lead edge, starts the wake sequence; the alarm is noted also
while another event's wake runs. -/
def tileWake (s : Dev) (t : Nat) : Dev :=
  let x := s.tile t
  match s.partOfTile t, x.core.napAsk with
  | some k, some (_, mask) =>
    if !x.away then s
    else
      let causes := if alarmReached x.core (s.part k).time.pbc && x.core.wakeOpen s.time.bc then
          setBit x.core.wakeCauses 17 true else x.core.wakeCauses
      let s := s.updCore t (fun c => { c with wakeCauses := causes })
      if x.clock.gen = .napped ∧ (causes &&& mask) ≠ 0 then
        let s := s.updPart k (fun p => { p with power := { p.power with wakes := p.power.wakes + 1 } })
        s.updTile t (fun x => { x with
          core := { x.core with wakeDone := some (s.time.bc + 128) }
          clock := { x.clock with gen := .waking, selfCheckTrips := 0, locked := true } })
      else s
  | _, _ => s

/-- WAKE_SELF_CHECK (R567): a wake not locked by beat 100, or with more than 8 trips in beats 100 to 115; the tile does not
rejoin. -/
def wakeSelfCheck (s : Dev) (t : Nat) (locked : Bool) : Dev :=
  match s.wakeBeat t with
  | none => s
  | some b =>
    if decide (100 ≤ b) && (!locked || decide (8 < (s.tile t).clock.selfCheckTrips)) then
      clockFault (s.updTile t (·.updClock (fun c => { c with locked := false }))) t 567 3
    else s

/-- The wake cause in s11 (R265): the alarm, then a notice, then the lowest signal. -/
def wakeWord (causes mask : Nat) : Nat :=
  let c := causes &&& mask
  if bit c 17 then 1 else if bit c 16 then 2 else
  match (List.range 16).find? (bit c) with | some j => 3 + 16 * j | none => 0

/-- TILE_REJOIN (R265, R266, R268, R566): at a boundary edge, 130 beats or more after its wake began, a tile begins the stint with
the rest of its partition. -/
def tileRejoin (s : Dev) (t : Nat) : Dev :=
  match s.partOfTile t, (s.tile t).core.wakeDone, (s.tile t).core.napAsk with
  | some k, some done, some (alarm, mask) =>
    let p := s.part k
    if (s.tile t).clock.gen = .waking ∧ (s.tile t).clock.locked ∧ done + 2 ≤ s.time.bc ∧ s.running k ∧ p.time.still = 0
        ∧ p.plan.stintStart = p.time.pbc ∧ ¬ p.time.edgeDue then
      let late := boolNat ((wakeWord (s.tile t).core.wakeCauses mask == 1) && decide (alarm ≠ p.time.pbc % 2 ^ 48))
      let s := s.updOps (fun o => { o with lateRejoins := o.lateRejoins + late })
      let s := s.updTile t (fun x =>
        let word := BitVec.ofNat 32 (wakeWord x.core.wakeCauses mask)
        let x := if x.core.swapOwed then x.swapBanks else x
        { x with
          clock := { x.clock with gen := .on }, forest := .reset
          core := { (x.core.setS 11 word) with napAsk := none, wakeCauses := 0, wakeDone := none } })
      unpark (tileStint s t) t
    else s
  | _, _, _ => s

/-- The digest table of a run record: its entries, or none where it does not lie in the partition (R522, R523). -/
def recordTable (s : Dev) (k : Nat) (r : DueRecord) : Option (List Bytes) :=
  let a := (s.part k).audit
  let off := a.recordOffset + r.step % 2 * 32 * a.recordLayers
  if a.recordTile = 0xFFFF then some []
  else if s.tileEnabled a.recordTile && s.partOfTile a.recordTile == some k
      && decide (a.recordOffset + 64 * a.recordLayers ≤ 0x200000) then
    some ((List.range a.recordLayers).map (fun i => s.bytesAt (storeAddr a.recordTile (off + 32 * i)) 32))
  else none

/-- A run record (Tables DA-5 and DA-6). -/
def runRecordBody (s : Dev) (k : Nat) (r : DueRecord) : Bytes :=
  let table := recordTable s k r
  let l := table.getD []
  let count (e : Bytes) : Nat := leAt e 24 6
  let incomplete := l.any (fun e => count e != leAt e 8 6)
  let rewrite := l.any (fun e => bit (byteAt e 30) 5)
  let flags := boolNat r.unsync + 2 * boolNat r.reproducible + 4 * boolNat incomplete + 8 * boolNat rewrite
    + 16 * boolNat table.isNone
  leBytes 2 1 ++ leBytes 1 k ++ leBytes 1 flags ++ leBytes 2 l.length ++ leBytes 1 r.op ++ zeros 1 ++ leBytes 8 r.step
    ++ leBytes 8 r.bcFirst ++ leBytes 8 r.pbcFirst ++ leBytes 8 r.bcEnd ++ leBytes 8 r.pbcEnd ++ leBytes 4 r.stepIndex
    ++ leBytes 4 r.rank ++ leBytes 4 s.selfDev ++ leBytes 2 s.enabledTiles ++ zeros 2 ++ padTo 48 r.planHash
    ++ padTo 48 r.patchDigest ++ padTo 48 r.manifest ++ leBytes 8 r.version ++ leBytes 4 r.shards ++ zeros 36
    ++ r.seeds.flatMap (leBytes 8) ++ l.flatten

/-- RUN_RECORD (R523): the oldest record due of a partition is posted. -/
def runRecord (s : Dev) (k : Nat) : Dev :=
  match (s.part k).audit.due with
  | [] => s
  | r :: rest =>
    let table := recordTable s k r
    let body := runRecordBody s k r
    let s := s.updPart k (fun p => { p with audit := { p.audit with
      due := rest, recordsPosted := p.audit.recordsPosted + 1, lastRecordStep := r.step } })
    let s := s.updOps (fun o => { o with
      runRecords := o.runRecords + 1, tableFaults := o.tableFaults + boolNat table.isNone
      incompleteRecords := o.incompleteRecords + boolNat (bit (byteAt body 3) 2) })
    pushEntry s (k + 1) 3 0x31 body

end Sys2Proof.Machine
end

