-- ==== Sys2Proof/Machine/Time.lean ====
section
/-!
DEFINITION. The timebase (02) and the beat edge: what happens at every beat whatever is commanded.
-/
namespace Sys2Proof.Machine

/-- Change the timebase. -/
def Dev.updBase (s : Dev) (f : Timebase → Timebase) : Dev := { s with time := f s.time }

/-- NEXT_EPOCH_WRITE (R40, R43): whether the write is accepted, and the state. -/
def nextEpochWrite (s : Dev) (v : Nat) : Bool × Dev :=
  if 0x0FFFFFFFFFFF < v then (false, s)
  else match s.time.sync with
    | 0 => (true, s.updBase (fun t => { t with nextEpoch := v, sync := 1 }))
    | 1 => (true, s.updBase (fun t => { t with nextEpoch := v }))
    | 2 => (true, s.updBase (fun t => { t with nextEpoch := v, expected := some v }))
    | _ => (false, s)

/-- RESYNC (R44): accepted only with every partition stopped. -/
def resync (s : Dev) : Bool × Dev :=
  if (List.range 16).all (fun k => (s.part k).time.mode == .stopped) then
    (true, s.updBase (fun t => { t with sync := 0, mismatches := 0, missed := 0, expected := none }))
  else (false, s)

/-- What restarts at an epoch edge: the trip counts of regions and the corrected-word counts of tiles and channels (R83,
R557). -/
def epochReset (s : Dev) : Dev :=
  { s with
    tiles := Sparse.mapVals .reset s.tiles (·.updClock (fun c => { c with epochTrips := 0, tripped := false }))
    channels := Sparse.mapVals .reset s.channels (fun c => { c with epochCorrected := 0, rateLogged := false })
    integrity := { s.integrity with tileCorrected := [], tileLogged := [] } }

/-- EPOCH_EDGE (R37, R40 to R43): SYNC_N is first sampled low `edges` REFCLK edges after the present beat edge. -/
def epochEdge (s : Dev) (edges : Nat) : Dev :=
  if !s.time.refclk then s else
  let wrapped : Bool := edges == 0 && s.time.bc % 2 ^ 20 == 0
  let good : Bool := wrapped && (match s.time.expected with | some e => e == s.time.bc / 2 ^ 20 | none => true)
  match s.time.sync with
  | 1 =>
    let s := epochReset (s.updBase (fun t => { t with
      bc := t.nextEpoch * 2 ^ 20, sync := 2, expected := none, pulse := true, wrapOpen := false }))
    remeasureAll s
  | 2 =>
    let s := s.updBase (fun t => { t with pulse := wrapped, wrapOpen := if wrapped then false else t.wrapOpen })
    if good then s.updBase (fun t => { t with expected := none })
    else
      let s := s.updBase (fun t => { t with sync := 3, expected := none, mismatches := t.mismatches + 1 })
      bowRetest (raise s 0 1 41 none none (zeros 16))
  | 3 =>
    s.updBase (fun t => { t with
      pulse := wrapped, wrapOpen := if wrapped then false else t.wrapOpen, mismatches := t.mismatches + boolNat (!good) })
  | _ => s

/-- EPOCH_WRAP (R42): BC[19:0] has wrapped to 0 and no pulse has come on that edge. -/
def epochWrap (s : Dev) : Dev :=
  if s.time.wrapOpen && !s.time.pulse && (s.time.sync == 2 || s.time.sync == 3) then
    raise (s.updBase (fun t => { t with missed := t.missed + 1, wrapOpen := false })) 0 1 42 none none (zeros 16)
  else s

/-- REFCLK_LOSS (R45): device-fatal; beat edges cease, and the stops take effect at the detection. -/
def refclkLoss (s : Dev) : Dev :=
  if !s.time.refclk then s else
  let s := raise (s.updBase (fun t => { t with refclk := false })) 3 1 45 none none (zeros 16)
  let s := (List.range 16).foldl (fun s k => if (s.part k).time.stopPending then stopPart s k false else s) s
  { s with faultN := s.faultN || s.deviceFatal }

/-- REFCLK_RETURN (R45): BC counts on. -/
def refclkReturn (s : Dev) : Dev := s.updBase (fun t => { t with refclk := true })

/-- One beat of a partition's plan time (R47, R51, R55, R60, R67, R573). DESIGN CHOICE (assumption 81): OFFSET (R73) of a
stopped partition is kept as it is: 0 before the first job, afterwards the last job's last value. -/
def tickPart (s : Dev) (k : Nat) : Dev :=
  let p := s.part k
  if p.time.mode = .stopped then s
  else if p.time.stopPending then stopPart s k false
  else
    let sample := s.allDone k
    let s := s.updTime k (fun t => { t with
      done2 := t.done1, done1 := t.done0, done0 := sample, ranBefore := t.slotAge == 0, slotAge := min 3 (t.slotAge + 1) })
    let t := (s.part k).time
    let slipBeat (s : Dev) : Dev := stillEdge (s.updTime k (fun t => { t with slipBeats := t.slipBeats + 1 })) k
    match t.mode with
    | .frozen =>
      if t.slipping then slipBeat s
      else stillEdge (s.updTime k (fun t => { t with holdBeats := t.holdBeats + 1 })) k
    | _ =>
      if p.plan.state ≠ 3 then s
      else if t.edgeDue || p.plan.stopDue then stillEdge s k
      else match p.plan.stopFrom with
        | some f =>
          if t.pbc + 1 = f + 64 then s.updTime k (fun t => { t with edgeDue := true })
          else
            let s := advancePbc s k
            if t.pbc + 1 = f + 40 then
              (s.partTiles k).foldl (fun s i => s.updTile i (·.updClock (fun c => { c with
                deficit := 0, lengthened := 0, sinceStretch := 16, selfCheckTrips := 0 }))) s
            else s
        | none =>
          if t.slipping then
            if t.pacing ≠ 0 then
              let s := s.updTime k (fun t => { t with pacing := t.pacing - 1 })
              slipBeat { s with power := { s.power with paceBeats := s.power.paceBeats + 1 } }
            else if t.done2 then s.updTime k (fun t => { t with edgeDue := true })
            else
              slipBeat (if s.sealWaits k then s.updOps (fun o => { o with sealWaitBeats := o.sealWaitBeats + 1 }) else s)
          else if t.holdPoint = some t.pbc then stillEdge s k
          else if t.pbc + 1 = p.plan.stintStart + p.plan.stint.length then s.updTime k (fun t => { t with edgeDue := true })
          else advancePbc s k

/-- Whether a stint of a tile's partition begins at the coming edge, so that the last Tp before it has no new edge (R77). -/
def Dev.stintAhead (s : Dev) (t : Nat) : Bool :=
  match s.partOfTile t with
  | none => false
  | some k =>
    let p := s.part k
    s.running k && (match p.plan.stopFrom with
      | some f => p.time.pbc + 1 == f + 64
      | none => p.time.done1 && !s.paced && p.time.pacing == 0
          && (p.time.slipping || p.time.pbc + 1 == p.plan.stintStart + p.plan.stint.length))

/-- The idle-mode periods that are left in the beat pass (R77). -/
def endIdle (s : Dev) (t : Nat) : Dev :=
  let c := (s.tile t).clock
  let tp := s.periodOf t
  passIdle s t (if s.stintAhead t then (beatTime - c.next).toNat / tp else c.idleLeft tp)

/-- What the tiles do in the rest of the beat. One waits for another over the mesh: four rounds (R89, R90; assumption 86). -/
def settleTiles (s : Dev) : Dev :=
  let ts := s.tiles.map (·.1)
  let s := (List.range 4).foldl (fun s _ => ts.foldl (fun s t =>
    if s.cycling t then settleTile s t else if s.atEnd t then s else if s.clocked t then flushLines s t else s) s) s
  ts.foldl (fun s t => if s.clocked t && !s.cycling t then endIdle s t else s) s

/-- A tile's clock at a beat edge: D (R80), the re-trim (R81), and times from the new edge. A generator that emits no periods has
none. -/
def Clock.edge (c : Clock) (clocked monitored planned : Bool) (tail : Nat) : Clock :=
  let c := if clocked then c.endBeat planned tail else { c with began := 0, next := 0, cycleAt := 0, landed := [] }
  if monitored then { c with retrim := false } else c

/-- Every tile passes a beat edge, and every crossing (R76, R80, R81, R283). -/
def edgeTiles (s : Dev) : Dev :=
  { s with
    tiles := Sparse.mapKeys .reset s.tiles (fun i x =>
      (x.updClock (·.edge (s.clocked i) (s.monitored i) (s.planned i) (Config.idleTail (s.opOfTile i)))).portBeat)
    crossings := Sparse.mapVals .empty s.crossings Crossing.endBeat }

/-- Whether a mirror load waits for an outstanding-request entry (R370, R491). -/
def Dev.mirrorWaits (s : Dev) : Bool :=
  decide (2048 ≤ (s.router.ort.filter (·.die == 0)).length) && s.parts.any (fun p => p.2.weights.mirrors.any (fun m =>
    m.flight.any (fun f => decide (f.2.1 < (manifestChunk (p.2.weights.batch m.batch).manifest f.1).len))))

/-- Whether a due posting or a mirror load waits for an outstanding-request entry (R370). -/
def Dev.ortWaits (s : Dev) : Bool :=
  s.mirrorWaits ||
  s.router.posted.any (fun x => decide (x.due ≤ s.time.bc) && (match x.item with
    | .packet p _ _ => (p.kind == 2 || p.kind == 3 || p.kind == 5)
        && decide (2048 ≤ (s.router.ort.filter (·.die == tileNd x.tile)).length)
    | _ => false))

/-- The grant bits that fall at this edge without notice (R568). -/
def fallGrants (s : Dev) : Dev :=
  { s with parts := Sparse.mapVals .reset s.parts (fun p =>
      if p.power.fallNext then { p with power := { p.power with fallNext := false, grantBit := false } } else p) }

/-- A beat edge (R36, R39): BC counts, and with it everything that the spec ties to beats alone. In reset no beat passes. -/
def tick (s : Dev) : Dev :=
  if s.stage = 0 then s else
  let s := if s.halted then haltLinks s else s
  if !s.time.refclk then s else
  let s := edgeTiles (settleTiles s)
  let held := s.cpHeld
  let waits := s.ortWaits
  let s := s.updBase (fun t => { t with bc := t.bc + 1, pulse := false, wrapOpen := (t.bc + 1) % 2 ^ 20 == 0 })
  let s := if s.time.bc % 2 ^ 20 = 0 then epochReset s else s
  let s := { s with faultN := s.faultN || s.deviceFatal }
  let s := if held then s.updMemTotals (fun m => { m with cpHeldBeats := m.cpHeldBeats + 1 }) else s
  let s := s.updRouter (fun r => { r with
    ortFullWaits := r.ortFullWaits + boolNat waits, fwInbox := if s.fwRunning then [] else r.fwInbox })
  let s := fallGrants (crossBridge s)
  let s := pumpMirrors (closeLost (closeLoads s))
  let s := (s.parts.map (·.1)).foldl tickPart s
  let s := if s.fwRunning then (List.range 17).foldl takeHostNotice s else s
  if s.fusing.isEmpty then s else (s.parts.map (·.1)).foldl dropPending s

end Sys2Proof.Machine
end

