-- ==== Sys2Proof/Machine/DictWrite.lean ====
section
/-!
DEFINITION. Writes of the object dictionary (R610 to R615): the order of the refusals, the effect of every writable entry, and
what each COUNTERS_CLEAR clears. A cleared entry takes the value of its Default column.
-/
namespace Sys2Proof.Machine

/-- Change the selections of a principal (R611). -/
def Dev.updSelected (s : Dev) (who : Principal) (f : Selections → Selections) : Dev :=
  { s with select := Sparse.update .reset s.select (Principal.index who) f }

/-- Whether every partition of the device is stopped. -/
def Dev.allStopped (s : Dev) : Bool := (List.range 16).all (fun k => (s.part k).time.mode == .stopped)

/-- DEVICE_ID_WRITE (R25, R631): while every partition is stopped. It clears ID_CONFLICT, and every UP link is checked afresh. -/
def deviceIdWrite (s : Dev) (v : Nat) : Bool × Dev :=
  if 0xFFFFF < v ∨ ¬ s.allStopped then (false, s)
  else
    let s := s.updMgmt (fun m => { m with idConflict := false })
    (true, bowRetest ((List.range 64).foldl linkRecheck { s with deviceId := v }))

/-- LG_CLEAR (R650). -/
def lgClear (s : Dev) : Dev := { s with gasp := .reset }

/-- A write of PLANNED_LINKS (R407): refused where it names a link of another partition. -/
def plannedLinksWrite (s : Dev) (k m : Nat) : Bool × Dev :=
  if (List.range 64).any (fun l => bit m l && (List.range 16).any (fun j => j != k && bit (s.part j).net.plannedLinks l)) then
    (false, s)
  else (true, s.updNet k (fun n => { n with plannedLinks := m }))

/-- COUNTERS_CLEAR of partition time (R73): .07 to .0E. DESIGN CHOICE (assumption 81): a stillness in progress goes on
counting, so its edges before the clear count in the LONGEST_STILL it ends with. -/
def clearTime (t : PartTime) : PartTime :=
  { t with
    slipCount := 0, slipBeats := 0, holdCount := 0, holdBeats := 0, lastHoldCause := 0, lastHoldBc := 0, lastHoldOrigin := 0xFFFFF
    longestStill := 0 }

/-- COUNTERS_CLEAR of a region (R95): .03 to .09 and .0B. -/
def clearRegion (c : Clock) : Clock :=
  { c with stretches := 0, gaps := 0, readWaits := 0, readWaitPs := 0, writeWaits := 0, jitterTrips := 0, dutyTrips := 0, maxDeficit := 0 }

/-- COUNTERS_CLEAR of a tile (R131): .02 to .08. -/
def clearTile (e : Engines) : Engines :=
  { e with
    queueFullStalls := 0, latePeriods := 0, bankConflicts := 0, conflictPeriods := 0, lastFault := 0, lastFaultCycle := 0
    lastFaultUnit := 0 }

/-- COUNTERS_CLEAR of the totals that `OpTotals` holds, by base index (R155, R179, R227, R242, R268, R336, R527). -/
def clearOps (base : Nat) (o : OpTotals) : OpTotals :=
  match base with
  | 0x6031 => { o with ccFaults := 0, waitPeriods := 0, naps := 0, lateRejoins := 0 }
  | 0x6040 => { o with saturations := 0, nanResults := 0, nanBlocks := 0, intNanZeros := 0, formatFaults := 0 }
  | 0x6041 => { o with windowExceptions := 0, accOverflows := 0, exactDots := 0, fastDots := 0 }
  | 0x6042 => { o with descriptorFaults := 0, feedFaults := 0, indexRange := 0, digestRewrites := 0 }
  | 0x6043 => { o with
      forestWalks := 0, depthOverruns := 0, nodeRange := 0, featureRange := 0, layoutEvents := 0, samples := 0 }
  | 0x6060 => { o with imemRefusals := 0, planRefusals := 0, sealWaitBeats := 0, lastRefusedTile := 0xFFFF }
  | _ => { o with runRecords := 0, tableFaults := 0, incompleteRecords := 0, reproFastFaults := 0 }

/-- COUNTERS_CLEAR of the totals that the router holds: Table LK-14, or Table FB-10 (R376, R407). -/
def clearRouter (base : Nat) (r : Router) : Router :=
  if base = 0x6070 then { r with linkDowns := 0, replays := 0, uncorrectable := 0, respTimeouts := 0, ortFullWaits := 0 }
  else { r with
    fenceDrops := 0, badKind := 0, unroutable := 0, rankDrops := 0, staleDrops := 0, parkRejects := 0, mgmtDrops := 0
    plannedDrops := 0, plannedOverflows := 0, remoteFails := 0 }

/-- COUNTERS_CLEAR of a link: Table LK-13, or Table FB-9 (R376, R407). -/
def clearLink (base : Nat) (c : LinkCounters) : LinkCounters :=
  if base = 0x4300 then { c with plannedFlits := 0, beFlits := 0, fenceDrops := 0, queuePeak := 0 }
  else { LinkCounters.reset with
    plannedFlits := c.plannedFlits, beFlits := c.beFlits, fenceDrops := c.fenceDrops, queuePeak := c.queuePeak }

/-- COUNTERS_CLEAR of the error log (R662): .04 and .06 to .0B. -/
def clearLog (l : ErrLog) : ErrLog :=
  { l with
    overflows := 0, nestedErrors := 0, escalations := 0, correctedLogged := 0, contained := 0, jobFatal := 0, deviceFatal := 0 }

/-- COUNTERS_CLEAR of integrity (R559): .01 to .0E. -/
def clearIntegrity (i : Integrity) : Integrity :=
  { i with
    tsCorrected := 0, tsUncorrectable := 0, imemCorrected := 0, memCorrectedWords := 0, memCorrectedPages := 0
    memUncorrectablePages := 0, poisonWrites := 0, residueFaults := 0, arrayCorrected := 0, writebacksDiscarded := 0, rmwWrites := 0
    scrubs := 0, selftestState := 0, selftestFails := 0 }

/-- COUNTERS_CLEAR of the protocol counters (R636): .01 to .06. -/
def clearProtocol (m : Mgmt) : Mgmt :=
  { m with requests := 0, refusals := 0, duplicates := 0, malformed := 0, discards := 0, idConflicts := 0 }

/-- COUNTERS_CLEAR at a base index and instance, for a principal's selected tile. -/
def countersClear (s : Dev) (who : Principal) (base inst : Nat) : Dev :=
  let t := (s.selected who).region
  match base with
  | 0x3010 => s.updTime inst clearTime
  | 0x9020 => s.updTile t (·.updClock clearRegion)
  | 0x9030 => s.updTile t (·.updEng clearTile)
  | 0x9031 =>
    -- DESIGN CHOICE (assumption 87): INBOX_DEPTH clears by emptying the inbox (R268), but never under a running plan (R30)
    let busy : Bool := match s.partOfTile t with | some k => (s.part k).time.mode != .stopped | none => false
    s.updCore t (fun c => { c with waitPeriods := 0, lastWaitKind := 0, inbox := if busy then c.inbox else [] })
  | 0x9050 => s.updTile t (·.updMq (fun q => { q with fullWaits := 0, boundOverruns := 0, landingFullPeriods := 0, lastFaultAddr := 0 }))
  | 0x9060 => s.updTile t (fun x => { x with imemRefusals := 0, lastRefusedOffset := 0, lastRefusalSource := 0 })
  | 0x6002 => s.updMgmt clearProtocol
  | 0x6010 => { s with log := clearLog s.log }
  | 0x6050 => { s with memTotals := .reset }
  | 0x6070 => s.updRouter (clearRouter base)
  | 0x6080 => s.updRouter (clearRouter base)
  | 0x6090 => s.updSync (fun y => { SyncTotals.reset with bowWindow := y.bowWindow, noticeRetry := y.noticeRetry })
  | 0x60A0 => { s with serveTotals := .reset }
  | 0x60B0 => { s with weightTotals := { WeightTotals.reset with warmLead := s.weightTotals.warmLead } }
  | 0x60D0 => s.updIn clearIntegrity
  | 0x60E0 => s.updPower (fun p => { p with paceBeats := 0, thermalStops := 0, fuseCandidates := 0, regrades := 0 })
  | 0x6100 => { s with hostTotals := { s.hostTotals with ringDrops := 0, headerRejects := 0, commands := 0 } }
  | 0x4200 => s.updLink inst (fun x => { x with cnt := clearLink base x.cnt })
  | 0x4300 => s.updLink inst (fun x => { x with cnt := clearLink base x.cnt })
  | 0x5100 => s.updChannel inst (fun c => { c with correctedWords := 0, correctedPages := 0, uncorrectablePages := 0, lastBadAddr := 0 })
  | b => s.updOps (clearOps b)

/-- The sub-index of COUNTERS_CLEAR at a base index; 0 where the block has none. -/
def clearSub (base : Nat) : Nat :=
  match base with
  | 0x3010 => 15 | 0x9020 => 12 | 0x9030 => 9 | 0x9031 => 7 | 0x9050 => 15 | 0x9060 => 5 | 0x6002 => 7 | 0x6010 => 12
  | 0x6031 => 5 | 0x6040 => 6 | 0x6041 => 5 | 0x6042 => 5 | 0x6043 => 7 | 0x6050 => 8 | 0x6060 => 5 | 0x6070 => 6 | 0x6080 => 10
  | 0x6090 => 13 | 0x60A0 => 13 | 0x60B0 => 6 | 0x60C0 => 5 | 0x60D0 => 15 | 0x60E0 => 5 | 0x6100 => 4 | 0x4200 => 17
  | 0x4300 => 8 | 0x5100 => 7
  | _ => 0

/-- The write of an entry of the management and device blocks 0x1000 to 0x2FFF. -/
def writeDevice (s : Dev) (base sub v : Nat) : Bool × Dev :=
  match base, sub with
  | 0x1030, _ => fuseRequest s v
  | 0x2000, 1 => deviceIdWrite s v
  | 0x2000, _ => (true, s.updMgmt (fun m => { m with failureDomain := v }))
  | 0x2010, 2 => nextEpochWrite s v
  | 0x2010, _ => resync s
  | 0x2020, 1 => (true, { s with clockCfg := { s.clockCfg with jitterLimit := v } })
  | 0x2020, 2 => (true, { s with clockCfg := { s.clockCfg with dutyMin := v } })
  | 0x2020, 3 => (true, { s with clockCfg := { s.clockCfg with dutyMax := v } })
  | 0x2020, _ => (true, { s with clockCfg := { s.clockCfg with tripThreshold := v } })
  | 0x2030, _ => (true, s.updRouter (fun r => { r with tagCooldown := v }))
  | 0x2040, 1 => (true, s.updSync (fun y => { y with bowWindow := v }))
  | 0x2040, _ => (true, s.updSync (fun y => { y with noticeRetry := v }))
  | 0x2060, _ => (true, { s with weightTotals := { s.weightTotals with warmLead := v } })
  | 0x2070, _ => (true, s.updIn (fun i => { i with logThreshold := v }))
  | 0x2080, 1 => (true, s.updMgmt (fun m => { m with watch := v }))
  | 0x2080, 2 => (true, s.updMgmt (fun m => { m with expel := v }))
  | 0x2080, 3 => (true, s.updMgmt (fun m => { m with hysteresis := v }))
  | 0x2080, 4 => (true, s.updMgmt (fun m => { m with minIncidents := v }))
  | 0x2080, _ => (true, s.updMgmt (fun m => { m with window := v }))
  | 0x2090, 1 => (true, s.updMgmt (fun m => { m with enable := v == 1 }))
  | 0x2090, _ => (true, s.updMgmt (fun m => { m with notifyTarget := leBytes 16 v }))
  | _, _ => (false, s)

/-- The write of an entry of partition `k`. -/
def writePart (s : Dev) (who : Principal) (base k sub v : Nat) : Bool × Dev :=
  let audit (f : Audit → Audit) : Bool × Dev := (true, s.updPart k (fun p => { p with audit := f p.audit }))
  match base, sub with
  | 0x3010, _ => (true, countersClear s who base k)
  | 0x3020, 1 => hbmChannelsWrite s k v
  | 0x3020, 2 => capChannelsWrite s k v
  | 0x3020, 3 => (true, s.updPart k (fun p => { p with hbmCp := v }))
  | 0x3020, _ => (true, s.updPart k (fun p => { p with capCp := v }))
  | 0x3040, 1 => fenceTagWrite s k v
  | 0x3040, _ => plannedLinksWrite s k v
  | 0x3050, _ => (true, s.updSelected who (fun x => { x with barrier := v }))
  | 0x3080, i => pubKeyWrite s k (i - 1) (leBytes 96 v)
  | 0x3090, 1 => audit (fun a => { a with stepBase := v })
  | 0x3090, 3 => audit (fun a => { a with recordTile := v })
  | 0x3090, 4 => audit (fun a => { a with recordOffset := v })
  | 0x3090, _ => audit (fun a => { a with recordLayers := v })
  | 0x30A0, i => audit (fun a => { a with seeds := a.seeds.set (i - 1) v })
  | 0x30B0, 1 => partGroupsWrite s k v
  | 0x30B0, 2 => (true, boostEnableWrite s k (v == 1))
  | 0x30B0, _ => (true, s.updGrant k (fun g => { g with boostPriority := v }))
  | _, _ => (false, s)

/-- The write of an entry of the link blocks. -/
def writeLink (s : Dev) (who : Principal) (base l sub v : Nat) : Bool × Dev :=
  match base, sub with
  | 0x4000, 2 => (true, s.updRouter (fun r => { r with dlpAllow := v }))
  | 0x4000, _ => (true, s.updRouter (fun r => { r with respTimeout := v }))
  | 0x4100, 1 => linkEnableWrite s l (v == 1) false
  | 0x4100, 11 => (true, s.updLink l (fun x => { x with replayTimeout := v }))
  | 0x4100, 12 => (true, s.updLink l (fun x => { x with replayLimit := v }))
  | 0x4100, _ => remeasure s l
  | b, _ => (true, countersClear s who b l)

/-- The write of a health, power or diagnostic entry, which is no COUNTERS_CLEAR. -/
def writeOther (s : Dev) (who : Principal) (base sub v : Nat) : Bool × Dev :=
  match base, sub with
  | 0x6001, _ => healthRestore s (leBytes 18 v)
  | 0x6013, _ => (true, lgClear s)
  | 0x7000, 1 => (true, s.updPower (fun p => { p with powerLimit := v }))
  | 0x7000, _ => (true, s.updPower (fun p => { p with grantMargin := v }))
  | 0x7010, 4 => (true, s.updPower (fun p => { p with boostTjMax := v }))
  | 0x7010, _ => (true, s.updPower (fun p => { p with paceTj := v }))
  | 0x9020, _ => (true, s.updSelected who (fun x => { x with region := v }))
  | 0x9080, 1 => (true, s.updSelected who (fun x => { x with cbgSeed := v }))
  | 0x9080, 2 => (true, s.updSelected who (fun x => { x with cbgStep := v }))
  | 0x9080, 3 => (true, s.updSelected who (fun x => { x with cbgTensor := v }))
  | 0x9080, _ => (true, s.updSelected who (fun x => { x with cbgCounter := v }))
  | 0x9090, 1 => (true, s.updIn (fun i => { i with injectTarget := v }))
  | 0x9090, 2 => (true, s.updIn (fun i => { i with injectAddr := v }))
  | 0x9090, 3 => (true, s.updIn (fun i => { i with injectMask := v }))
  | 0x9090, 4 => (true, s.updIn (fun i => { i with injectTile := v }))
  | 0x9090, _ => injectArm s
  | _, _ => (false, s)

/-- The effect of a write that no check before it refuses; false where a rule of the entry's chapter refuses it. -/
def applyEntry (s : Dev) (who : Principal) (base inst sub v : Nat) : Bool × Dev :=
  if sub = clearSub base ∧ sub ≠ 0 then (true, countersClear s who base inst)
  else if base < 0x3000 then writeDevice s base sub v
  else if base < 0x4000 then writePart s who base inst sub v
  else if base < 0x5000 then writeLink s who base inst sub v
  else writeOther s who base sub v

/-- Ranges that no pair of bounds states: the sum of R634, a link-local address, a P-384 point (R487), multiples, the penalties'
caps (R635), and REPLAY_TIMEOUT above the link's round trip (R358). -/
def Dev.rangeOk (s : Dev) (base inst sub v : Nat) : Bool :=
  match base, sub with
  | 0x2080, 1 => decide (s.mgmt.expel + s.mgmt.hysteresis < v)
  | 0x2080, 2 => decide (v + s.mgmt.hysteresis < s.mgmt.watch)
  | 0x2080, 3 => decide (s.mgmt.expel + v < s.mgmt.watch)
  | 0x2090, 6 => v == 0 || (leBytes 16 v).take 8 == [0xFE, 0x80, 0, 0, 0, 0, 0, 0]
  | 0x3080, _ => v == 0 || keyOnCurve (leBytes 96 v)
  | 0x3090, 3 => decide (v < 672) || v == 0xFFFF
  | 0x3090, 4 => v % 128 == 0
  | 0x4100, 11 => decide (ceilDiv (s.link inst).roundTrip 16 + 1 ≤ v)
  | 0x6001, 10 => restoreInRange (leBytes 18 v)
  | 0x9090, 2 => v % 8 == 0
  | _, _ => true

/-- Whether an RWS entry may be written now (R614): in a partition's subtree while the partition is stopped; a link's entries
while no running plan names the link (R376); others while every partition is stopped. -/
def Dev.rwsOpen (s : Dev) (base inst : Nat) : Bool :=
  if 0x3000 ≤ base ∧ base < 0x4000 then (s.part inst).time.mode == .stopped
  else if base = 0x4100 then !s.linkBusy inst
  else s.allStopped

/-- A WRITE of one entry (R610 to R615, R619): its status (Table MG-7), its row, and the state. -/
def writeItem (s : Dev) (who : Principal) (ix sub ty : Nat) (d : Bytes) : Nat × Option DictRow × Dev :=
  match dictRow ix sub with
  | none => (1, none, s)
  | some r =>
    let b := dictBase ix
    let v := leNat d
    if r.mode = 0 ∨ r.mode = 4 then (3, some r, s)
    else if !s.entryRight who r.writers b.1 b.2 sub then (4, some r, s)
    else if ty ≠ r.ty ∨ d.length ≠ r.size then (6, some r, s)
    else if v < r.lo ∨ r.hi < v ∨ ¬ s.rangeOk b.1 b.2 sub v then (7, some r, s)
    else if r.mode = 3 ∧ ¬ s.rwsOpen b.1 b.2 then (5, some r, s)
    else
      let x := applyEntry s who b.1 b.2 sub v
      (if x.1 then 0 else 8, some r, x.2)

end Sys2Proof.Machine
end

