-- ==== Sys2Proof/Machine/Oap.lean ====
section
/-!
DEFINITION. Serving the Object Access Protocol (R617 to R628), and the entry accesses that have a row of their own.
-/
namespace Sys2Proof.Machine

/-- Whether firmware serves the dictionary: from FW_INIT on, until a halt (R628, R651). -/
def Dev.served (s : Dev) : Bool := s.fwRunning && !s.halted

/-- A write of an entry by a principal, outside any frame: refused or applied as in a WRITE. -/
def entryWrite (s : Dev) (who : Principal) (ix sub v : Nat) : Dev :=
  if !s.served then s else
  match dictRow ix sub with
  | none => s
  | some r => (writeItem s who ix sub r.ty (leBytes r.size v)).2.2

/-- COUNTERS_CLEAR: a write of 1 to the COUNTERS_CLEAR entry at an index. -/
def countersClearWrite (s : Dev) (who : Principal) (ix : Nat) : Dev :=
  if clearSub (dictBase ix).1 = 0 then s else entryWrite s who ix (clearSub (dictBase ix).1) 1

/-- CBG_OUTPUT_READ (R527): the output for the reader's own inputs. -/
def cbgOutputRead (s : Dev) (who : Principal) : Dev :=
  if !s.served then s else { s with readData := (readItem s who 0x9080 5 0).2.2 }

/-- The principal of a path (Table MG-1). -/
def pathPrincipal : OapPath → Principal
  | .mailbox f => if h : f.val = 0 then .hostAdmin else .host ⟨f.val - 1, by omega⟩
  | .port .. => .board

/-- The frame limit of a path (R617). -/
def pathLimit : OapPath → Nat
  | .mailbox _ => 4096
  | .port .. => 1452

/-- The frame that a path delivers; none where firmware has none to serve: the mailbox holds no frame of kind 1, or the port
is closed (R601, R612). -/
def pathFrame (s : Dev) : OapPath → Option Bytes
  | .mailbox f => match (s.fn f).mbxFrame with | some (1, d) => some d | _ => none
  | .port _ _ d => if s.mgmt.enable then some d else none

/-- An item of a request (Table MG-6): index, sub-index, type, value. -/
structure OapItem where
  ix : Nat
  sub : Nat
  ty : Nat
  value : Bytes
deriving DecidableEq, Repr

/-- `n` items from a byte string; none where one runs past its end. -/
def parseItems : Nat → Bytes → Option (List OapItem)
  | 0, _ => some []
  | n + 1, d =>
    let len := leAt d 4 2
    let step := 8 + 8 * ceilDiv len 8
    if d.length < step then none
    else match parseItems n (d.drop step) with
      | some l => some (⟨leAt d 0 2, byteAt d 2, byteAt d 3, slice d 8 len⟩ :: l)
      | none => none

/-- OPCODE of a frame. -/
def frameOpcode (d : Bytes) : Nat := byteAt d 3

/-- The items of a frame; none where it is malformed (R618). -/
def frameItems (d : Bytes) : Option (List OapItem) :=
  if leAt d 0 2 ≠ 0x414F ∨ leAt d 10 2 ≠ d.length ∨ d.length < 24 ∨ 64 < leAt d 8 2 ∨ byteAt d 13 ≠ 0 ∨ frameOpcode d < 1
    ∨ 3 < frameOpcode d then none
  else parseItems (leAt d 8 2) (d.drop 24)

/-- The item of a response: type and access mode are the entry's; 0xFF for NO_ENTRY (Table MG-6). -/
def answerItem (q : OapItem) (status : Nat) (r : Option DictRow) (value : Bytes) : Bytes :=
  match r with
  | some r => oapItem q.ix q.sub r.ty status r.mode value
  | none => oapItem q.ix q.sub 0 status 0xFF value

/-- The items of a READ, in order, each on its own; `room` bytes of the frame are left, of which every later item keeps its
header (R619). With them, the number of items refused. -/
def serveRead (s : Dev) (who : Principal) : List OapItem → Nat → List Bytes × Nat
  | [], _ => ([], 0)
  | q :: t, room =>
    let x := readItem s who q.ix q.sub q.ty
    let size := 8 + 8 * ceilDiv x.2.2.length 8
    let fits := decide (size + 8 * t.length ≤ room)
    let item := if fits then answerItem q x.1 x.2.1 x.2.2 else answerItem q 10 x.2.1 []
    let r := serveRead s who t (room - item.length)
    (item :: r.1, r.2 + boolNat (!fits || x.1 != 0))

/-- The items of a WRITE, in order, until one fails (R619). -/
def serveWrite (s : Dev) (who : Principal) : List OapItem → Bool → List Bytes × Nat × Dev
  | [], _ => ([], 0, s)
  | q :: t, failed =>
    if failed then
      let r := serveWrite s who t true
      (answerItem q 9 (dictRow q.ix q.sub) [] :: r.1, r.2.1 + 1, r.2.2)
    else
      let x := writeItem s who q.ix q.sub q.ty q.value
      let r := serveWrite x.2.2 who t (x.1 != 0)
      (answerItem q x.1 x.2.1 [] :: r.1, r.2.1 + boolNat (x.1 != 0), r.2.2)

/-- The entries of a DISCOVER's response (R625). -/
def discoverItems : List OapItem :=
  [⟨0x2000, 1, 0, []⟩, ⟨0x1000, 4, 0, []⟩, ⟨0x1000, 3, 0, []⟩, ⟨0x1030, 4, 0, []⟩, ⟨0x1040, 3, 0, []⟩, ⟨0x2000, 2, 0, []⟩,
   ⟨0x6000, 1, 0, []⟩, ⟨0x6000, 2, 0, []⟩]

/-- A response leaves on its path (R624, R626, R628): an MBX_OUT entry, or a frame to the source address that is kept for
repeats, of which the last 8 of each source stay. -/
def oapReply (s : Dev) (path : OapPath) (request : Nat) (frame : Bytes) : Dev :=
  match path with
  | .mailbox f => pushEvent (s.updFn f (fun x => { x with mbxFrame := none })) f 0x12 frame
  | .port source _ _ =>
    s.updMgmt (fun m =>
      let own := m.kept.filter (fun k => k.source == source)
      let others := m.kept.filter (fun k => k.source != source)
      { m with kept := others ++ (own ++ [(⟨source, request, s.time.bc, frame⟩ : Kept)]).drop (own.length - 7)
               sent := some (source.take 16 ++ oapPort, frame) })

/-- Answer a frame that is served or refused as a whole. -/
def oapAnswer (s : Dev) (path : OapPath) (d : Bytes) (items : List Bytes) (status vmin vmax : Nat) : Dev :=
  oapReply s path (leAt d 4 4) (oapFrame (0x80 + frameOpcode d % 128) (leAt d 4 4) items status vmin vmax s.time.bc)

/-- Serve the items of a request by its opcode (R619, R625), and count it. -/
def oapServe (s : Dev) (path : OapPath) (d : Bytes) (items : List OapItem) : Dev :=
  let who := pathPrincipal path
  let count (s : Dev) (refused : Nat) : Dev :=
    s.updMgmt (fun m => { m with requests := m.requests + 1, refusals := m.refusals + refused })
  match frameOpcode d with
  | 2 =>
    let r := serveWrite s who items false
    oapAnswer (count r.2.2 r.2.1) path d r.1 0 0 0
  | 3 =>
    let r := serveRead s who discoverItems (pathLimit path - 24)
    oapAnswer (count s r.2) path d r.1 0 0 0
  | _ =>
    let r := serveRead s who items (pathLimit path - 24)
    oapAnswer (count s r.2) path d r.1 0 0 0

/-- A kept response to the same request of the same source (R626). -/
def Dev.keptFor (s : Dev) : OapPath → Bytes → Option Kept
  | .mailbox _, _ => none
  | .port source _ _, d =>
    s.mgmt.kept.find? (fun k => k.source == source && k.request == leAt d 4 4 && decide (s.time.bc < k.sent + 2 ^ 28))

/-- A frame on the port whose MAGIC or LENGTH is wrong (R618). -/
def pathDiscards (path : OapPath) (d : Bytes) : Bool :=
  match path with
  | .mailbox _ => false
  | .port .. => leAt d 0 2 != 0x414F || leAt d 10 2 != d.length || decide (d.length < 24)

/-- Firmware takes a frame (R617 to R622, R625, R626): `mine` tells whether its opcode is the one the command stands for. -/
def oapTake (s : Dev) (path : OapPath) (mine : Nat → Bool) : Dev :=
  if !s.served then s else
  match pathFrame s path with
  | none => s
  | some d =>
    let malformed (s : Dev) : Dev := s.updMgmt (fun m => { m with malformed := m.malformed + 1 })
    if !mine (frameOpcode d) then s
    else if pathDiscards path d then malformed s
    else if (match path with | .port _ true _ => frameOpcode d != 3 | _ => false) then s
    else match s.keptFor path d, path with
      | some k, .port source _ _ =>
        s.updMgmt (fun m => { m with duplicates := m.duplicates + 1, sent := some (source.take 16 ++ oapPort, k.frame) })
      | _, _ =>
        if byteAt d 2 / 16 ≠ 1 then oapAnswer s path d [] 2 0x10 0x10
        else match frameItems d with
          | none => oapAnswer (malformed s) path d [] 1 0 0
          | some items => oapServe s path d items

/-- Whether a source address is link-local: no other is supported (Table SC-5; assumption 89). -/
def linkLocalSource (source : Bytes) : Bool := byteAt source 0 == 0xFE && byteAt source 1 / 64 == 2

/-- A frame reaches firmware (R620, R621, R628): the mailbox holds its frame until it is served; the port's frame is served at
once where no other waits, or takes one of the port's 32 places, or is discarded and counted. -/
def oapArrive (s : Dev) (path : OapPath) (mine : Nat → Bool) : Dev :=
  match path with
  | .mailbox _ => oapTake s path mine
  | .port source multicast d =>
    if !linkLocalSource source then s
    else if s.served && s.mgmt.waiting.isEmpty then oapTake s path mine
    else if s.stage = 0 ∨ !s.mgmt.enable ∨ !mine (frameOpcode d) then s
    else s.updMgmt (fun m =>
      if m.waiting.length < 32 then { m with waiting := m.waiting ++ [(source, multicast, d)] }
      else { m with discards := m.discards + 1 })

/-- Firmware serves the oldest frame that the management port holds (R620, R628). -/
def oapServeNext (s : Dev) : Dev :=
  match s.mgmt.waiting with
  | [] => s
  | (source, multicast, d) :: rest =>
    if s.served ∧ s.stage ≠ 0 then oapTake (s.updMgmt (fun m => { m with waiting := rest })) (.port source multicast d) (fun _ => true) else s

/-- OAP_READ (R619): a READ, and a frame whose opcode is no request's. -/
def oapRead (s : Dev) (path : OapPath) : Dev := oapArrive s path (fun o => o != 2 && o != 3)
/-- OAP_WRITE (R619). -/
def oapWrite (s : Dev) (path : OapPath) : Dev := oapArrive s path (· == 2)
/-- OAP_DISCOVER (R625). -/
def oapDiscover (s : Dev) (path : OapPath) : Dev := oapArrive s path (· == 3)

/-- OAP_RESPONSE_EXPIRY (R626): responses 2^28 beats old are discarded. -/
def oapResponseExpiry (s : Dev) : Dev :=
  s.updMgmt (fun m => { m with kept := m.kept.filter (fun k => decide (s.time.bc < k.sent + 2 ^ 28)) })

/-- REGISTER_WRITE (R583, R601, R614). -/
def registerWrite (s : Dev) (w : WriteTarget) : Dev :=
  match w with
  | .register f off v => plainRegisterWrite s f off v
  | .mailbox f off d => mailboxWrite s f off d
  | .entry who ix sub ty d => if s.served then (writeItem s who ix sub ty d).2.2 else s

end Sys2Proof.Machine
end

