-- ==== Sys2Proof/Machine/Report.lean ====
section
/-!
DEFINITION. Handling the error log, the dump and its delivery (22).
-/
namespace Sys2Proof.Machine

/-- The functions whose EVT ring receives an entry (Table ER-1, R647): the PF; for a contained or job-fatal entry the VF of its
partition; for a device-fatal entry every VF whose partition holds a plan. Once a dump has been written, or after a
device-fatal error for lower classes, the PF alone. -/
def Dev.reportTo (s : Dev) (e : LogEntry) : List Nat :=
  if s.dump.state = 2 ∨ (s.deviceFatal ∧ e.cls ≠ 3) then [0]
  else match e.cls with
    | 0 => [0]
    | 3 => 0 :: ((List.range 16).filter (fun k => (s.planOf k).isSome)).map (· + 1)
    | _ => match e.part with | some k => [0, k + 1] | none => [0]

/-- The dump begins (R640, R644, R653). -/
def beginDump (s : Dev) : Dev := { s with dump := { s.dump with state := 1 } }

/-- ERROR_HANDLING (R644, R647, R649): firmware posts the entry in handling to the rings of Table ER-1, feeds the health score and
retires it; a device-fatal one stays until its dump is written. An error that R648 made device-fatal has no entry in the log:
its dump alone begins. -/
def errorHandling (s : Dev) : Dev :=
  if !s.served || s.dump.state == 1 then s
  else if s.log.headerEntry.isSome && s.dump.state == 0 && s.memTrained then beginDump s
  else match s.log.handling with
    | none => s
    | some e =>
      let s := (s.reportTo e).foldl (fun s f => pushEvent s f 0x11 e.toBytes) s
      let s := scoreEntry s e
      if e.cls = 3 ∧ s.dump.state = 0 ∧ s.memTrained then beginDump s
      else { s with log := { s.log with queue := s.log.queue.drop 1 } }

/-- The device address of dump byte `o` (R652). -/
def dumpAddr (o : Nat) : Nat := 0x80000000 * (o / 2 ^ 20) + 0x7FF00000 + o % 2 ^ 20

/-- Bytes filled with zeros to a multiple of 4 KiB. -/
def pad4k (d : Bytes) : Bytes := padTo (4096 * ceilDiv d.length 4096) d

/-- The items of every entry at an index that passes a test, as a principal reads them (Table MG-6). -/
def indexAnswers (s : Dev) (who : Principal) (ix : Nat) (keep : Nat → Bool) : Bytes :=
  ((dictBlock (dictBase ix).1).flatMap (fun r => List.range' r.sub (r.last + 1 - r.sub))).flatMap (fun sub =>
    let x := readItem s who ix sub 0
    if keep x.1 then answerItem ⟨ix, sub, 0, []⟩ x.1 x.2.1 x.2.2 else [])

/-- The PARTITIONS section: each partition's subtree in 4 KiB (Table ER-5). -/
def dumpPartitions (s : Dev) : Bytes :=
  (List.range 16).flatMap (fun k =>
    padTo 4096 ((dictIndices.filter (fun i => decide (0x3000 + 0x100 * k ≤ i) && decide (i < 0x3100 + 0x100 * k))).flatMap
      (fun i => indexAnswers s .firmware i (fun _ => true))))

/-- The DICTIONARY section: every entry readable by host admin. -/
def dumpDictionary (s : Dev) : Bytes := pad4k (dictIndices.flatMap (fun i => indexAnswers s .hostAdmin i (· == 0)))

/-- A section whose records' inner layout the manual does not give: its bytes are free (assumption 6). -/
def freeSection (s : Dev) (sec start n : Nat) : Bytes :=
  (List.range' start n).map (fun i => BitVec.ofNat 8 (Config.dumpByte s.free sec i))

/-- The TILES section: 32 KiB for each physical tile, zero for a disabled one. -/
def dumpTiles (s : Dev) : Bytes :=
  (List.range 672).flatMap (fun t => if s.tileEnabled t then freeSection s 3 (32768 * t) 32768 else zeros 32768)

/-- The sections in TYPE order: type, records, bytes (Table ER-5). -/
def dumpSections (s : Dev) : List (Nat × Nat × Bytes) :=
  [(1, 64, padTo 4096 (s.log.entries.flatMap LogEntry.toBytes)), (2, 16, dumpPartitions s), (3, 672, dumpTiles s),
   (4, 64, freeSection s 4 0 (64 * 4096)), (5, 16, freeSection s 5 0 (16 * 262144)), (6, 1, dumpDictionary s),
   (7, 4, freeSection s 7 0 (4 * 16777216))]

/-- The section table of the header: offsets and lengths in units of 4 KiB (Table ER-4). -/
def sectionTable : List (Nat × Nat × Bytes) → Nat → Bytes
  | [], _ => []
  | (ty, n, d) :: t, off =>
    leBytes 2 ty ++ zeros 2 ++ leBytes 4 n ++ leBytes 4 off ++ leBytes 4 (d.length / 4096) ++ sectionTable t (off + d.length / 4096)

/-- The dump header (Table ER-4). -/
def dumpHeader (s : Dev) (secs : List (Nat × Nat × Bytes)) (bytes : Nat) (digest : Bytes) : Bytes :=
  let d := s.dump
  padTo 4096 (leBytes 4 0x44565045 ++ leBytes 2 1 ++ leBytes 2 secs.length ++ leBytes 8 bytes ++ leBytes 8 d.bc
    ++ leBytes 4 (if d.fromHeader then 0 else match d.trigger with | some e => e.seq | none => 0)
    ++ leBytes 4 (s.deviceId % 2 ^ 20) ++ padTo 16 s.fuses.serial ++ leBytes 4 s.fwVersion ++ leBytes 1 s.grade
    ++ leBytes 1 (boolNat d.fromHeader + 2) ++ zeros 10
    ++ (match d.trigger with | some e => e.toBytes | none => zeros 64) ++ digest ++ zeros 80 ++ sectionTable secs 1)

/-- Write bytes of the dump from a dump offset that is a multiple of 1 MiB, region by region. -/
def writeDump : Nat → Dev → Nat → Bytes → Dev
  | 0, s, _, _ => s
  | n + 1, s, o, d => if d.isEmpty then s else writeDump n (writeMem s (dumpAddr o) (d.take (2 ^ 20)) []) (o + 2 ^ 20) (d.drop (2 ^ 20))

/-- DUMP_COMPLETE (R652 to R654): firmware has written the sections and then the header; the trigger is retired. -/
def dumpComplete (s : Dev) : Dev :=
  if s.dump.state ≠ 1 ∨ ¬ s.served then s else
  let secs := dumpSections s
  let body := secs.flatMap (fun x => x.2.2)
  let digest := sha384 body
  let bytes := 4096 + body.length
  let s1 := writeDump 256 s 0 (dumpHeader s secs bytes digest ++ body)
  { s1 with
    free := s.free + 1
    dump := { s.dump with
      state := 2, bytes := bytes, triggerSeq := if s.dump.fromHeader then 0 else (match s.dump.trigger with | some e => e.seq | none => 0)
      digest := digest, written := body.length }
    log := if s.dump.fromHeader then s.log else { s.log with queue := s.log.queue.filter (fun q => match s.dump.trigger with
      | some e => q != e.seq | none => true) } }

/-- Bytes of the dump from offset `o`, as the memory holds them. -/
def Dev.dumpBytes (s : Dev) (o : Nat) : Nat → Bytes
  | 0 => []
  | n + 1 => s.byte (dumpAddr o) :: s.dumpBytes (o + 1) n

/-- COMMAND_STATUS of DUMP_FETCH for source, offset and length (R655). -/
def Dev.fetchStatus (s : Dev) (source o n : Nat) : Nat :=
  if source = 0 then
    if s.dump.state = 1 then 2 else if s.dump.state = 0 then 1 else if s.dump.bytes < o + n then 3 else 0
  else if !s.gasp.valid then 1 else if 4096 < o + n then 3 else 0

/-- DUMP_FETCH (R655): copies part of the dump or of the last-gasp record into a bulk window as posted writes. -/
def dumpFetch (s : Dev) (_ : Nat) (c : Cmd) : Dev :=
  let source := c.arg0 % 256
  let n := 4096 * bits c.arg0 8 32
  if c.len ≠ 0 ∨ 1 < source ∨ n = 0 ∨ 16777216 < n ∨ c.arg1 % 4096 ≠ 0 ∨ ¬ s.windowFits c.fn c.arg2 n then respond s c 4 0 0
  else
    let st := s.fetchStatus source c.arg1 n
    if st ≠ 0 then respond s c 0 st 0
    else
      let x := s.fn c.fn
      let base := x.bulkBase.getD (c.arg2 % 2) 0 + c.arg2 / 256 * 256
      let d := if source = 0 then s.dumpBytes c.arg1 n else slice s.gasp.area c.arg1 n
      let s := if x.gen = c.gen ∧ x.busMaster ∧ s.pcie.linkUp then s.post base d else s
      respond s c 0 0 0

end Sys2Proof.Machine
end

