-- ==== Sys2Proof/Machine/Ops.lean ====
section
/-!
DEFINITION. What the meanings of the commands share: acting on the device, the fuse elements, and memory's canonical form.
-/
namespace Sys2Proof.Machine

/-- A command that acts on the device alone. -/
def State.act (s : State) (f : Dev → Dev) : Host.Outcome State Fault Refusal := .next { s with dev := f s.dev }

/-- What a beat brings (assumption 2): one frame that the management port holds is served (R620, R621), then the edge. -/
def beatEdge (s : Dev) : Dev := tick (oapServeNext s)

/-- FIELD_FUSE_PROGRAM on the elements and on the device's copy (R574). -/
def State.programFuse (s : State) (g : Nat) : State :=
  { s with
    dev := fieldFuseProgram s.dev g
    otp := if s.dev.fusing.contains g then { s.otp with fieldFused := setBit s.otp.fieldFused g true } else s.otp }

/-- BOOT_ROM reads the elements (R576, R677). -/
def State.boot (s : State) (slot : Nat) : State :=
  { s with dev := if s.dev.stage = 0 then bootRom { s.dev with fuses := s.otp } slot else s.dev }

/-- The canonical form of memory: addresses rise strictly, and no entry equals what an unlisted address reads as. -/
def Memory.wf (m : List Host.Cell) : Bool := Sparse.wf 0 m

end Sys2Proof.Machine
end

