-- ==== Sys2Proof/Machine/CmdAudit.lean ====
section
/-!
DEFINITION. The meaning of each command. Run records and the generator (17).
-/
namespace Sys2Proof.Machine

/-- RUN_RECORD (R523): within 256 beats of a step's boundary edge, the device reads the digest table and posts a run
record. -/
def execRunRecord (k : Fin 16) (s : State) : Host.Outcome State Fault Refusal :=
  s.act (fun d => runRecord d k)

/-- CBG_OUTPUT_READ (R527): A read of CBG_OUTPUT computes CBG-4x32 from the reader's own input entries. -/
def execCbgOutputRead (who : Principal) (s : State) : Host.Outcome State Fault Refusal :=
  s.act (fun d => cbgOutputRead d who)

end Sys2Proof.Machine
end

