-- ==== Sys2Proof/Machine/CmdClock.lean ====
section
/-!
DEFINITION. The meaning of each command. Clock regions (03): stretches, monitors, crossings.
-/
namespace Sys2Proof.Machine

/-- DROOP (R78): the droop detector calls for a stretch, and the generator lengthens the current period. -/
def execDroop (t : Fin 672) (eighths periods : Nat) (s : State) : Host.Outcome State Fault Refusal :=
  s.act (fun d => droop d t eighths periods)

/-- DEFICIT_LIMIT (R80): A region's droop deficit reaching DEFICIT_LIMIT raises a contained error. -/
def execDeficitLimit (t : Fin 672) (s : State) : Host.Outcome State Fault Refusal :=
  s.act (fun d => deficitLimit d t)

/-- JITTER_TRIP (R81): A period or beat-start deviation above JITTER_LIMIT is counted, and the delay line re-trims. -/
def execJitterTrip (t : Fin 672) (ps : Nat) (s : State) : Host.Outcome State Fault Refusal :=
  s.act (fun d => jitterTrip d t ps)

/-- DUTY_TRIP (R82): A high time outside DUTY_MIN to DUTY_MAX is counted, and the duty corrector moves one step. -/
def execDutyTrip (t : Fin 672) (permille : Nat) (s : State) : Host.Outcome State Fault Refusal :=
  s.act (fun d => dutyTrip d t permille)

/-- LOSS_OF_LOCK (R83): A phase error above Tp/2 at 4 consecutive beat edges raises a contained error. -/
def execLossOfLock (t : Fin 672) (errs : List Nat) (s : State) : Host.Outcome State Fault Refusal :=
  s.act (fun d => lossOfLock d t errs)

/-- CROSSING_FORWARD (R88): A non-destination crossing forwards an entry once it is readable and the next buffer has
room. -/
def execCrossingForward (t : Fin 672) (port : Fin 4) (s : State) : Host.Outcome State Fault Refusal :=
  s.act (fun d => crossingForward d t port)

/-- READ_WAIT (R89): the receiver edge withheld for the phase buffer at a port is emitted once the due entry becomes
readable. -/
def execReadWait (t : Fin 672) (port : Fin 4) (s : State) : Host.Outcome State Fault Refusal :=
  s.act (fun d => emitEdge d t (fun _ o m => o.lands.contains (m, port.val)))

/-- WRITE_WAIT (R90): the withheld sender edge is emitted once the receiver has taken the oldest entry of a full
buffer. -/
def execWriteWait (t : Fin 672) (s : State) : Host.Outcome State Fault Refusal :=
  s.act (fun d => emitEdge d t (fun f o m => !(o.dueSends f m).isEmpty))

end Sys2Proof.Machine
end

