-- ==== Sys2Proof/Machine/CmdCore.lean ====
section
/-!
DEFINITION. The meaning of each command. The control core (09): scalar, counter, predicate and branch instructions,
loads and stores, timed control, naps.
-/
namespace Sys2Proof.Machine

/-- ADD (R248): sA = sB + op, modulo 2^32. -/
def execAdd (t : Fin 672) (g : Guard) (a b : Fin 16) (x : Src) (s : State) : Host.Outcome State Fault Refusal :=
  s.act (fun d => untimed d t g (fun c => c.setS a (c.sreg b + x.signed c)))

/-- SUB (R248): sA = sB − op, modulo 2^32. -/
def execSub (t : Fin 672) (g : Guard) (a b : Fin 16) (x : Src) (s : State) : Host.Outcome State Fault Refusal :=
  s.act (fun d => untimed d t g (fun c => c.setS a (c.sreg b - x.signed c)))

/-- MUL (R248): sA = the low 32 bits of sB × op. -/
def execMul (t : Fin 672) (g : Guard) (a b : Fin 16) (x : Src) (s : State) : Host.Outcome State Fault Refusal :=
  s.act (fun d => untimed d t g (fun c => c.setS a (c.sreg b * x.signed c)))

/-- AND (R248): sA takes the bitwise AND of sB and op. -/
def execAnd (t : Fin 672) (g : Guard) (a b : Fin 16) (x : Src) (s : State) : Host.Outcome State Fault Refusal :=
  s.act (fun d => untimed d t g (fun c => c.setS a (c.sreg b &&& x.unsigned c)))

/-- OR (R248): sA takes the bitwise OR of sB and op. -/
def execOr (t : Fin 672) (g : Guard) (a b : Fin 16) (x : Src) (s : State) : Host.Outcome State Fault Refusal :=
  s.act (fun d => untimed d t g (fun c => c.setS a (c.sreg b ||| x.unsigned c)))

/-- XOR (R248): sA takes the bitwise XOR of sB and op. -/
def execXor (t : Fin 672) (g : Guard) (a b : Fin 16) (x : Src) (s : State) : Host.Outcome State Fault Refusal :=
  s.act (fun d => untimed d t g (fun c => c.setS a (c.sreg b ^^^ x.unsigned c)))

/-- SHL (R248): sA = sB shifted left by op[4:0]. -/
def execShl (t : Fin 672) (g : Guard) (a b : Fin 16) (x : Src) (s : State) : Host.Outcome State Fault Refusal :=
  s.act (fun d => untimed d t g (fun c => c.setS a (c.sreg b <<< ((x.unsigned c).toNat % 32))))

/-- SHR (R248): sA = sB shifted right logically by op[4:0]. -/
def execShr (t : Fin 672) (g : Guard) (a b : Fin 16) (x : Src) (s : State) : Host.Outcome State Fault Refusal :=
  s.act (fun d => untimed d t g (fun c => c.setS a (c.sreg b >>> ((x.unsigned c).toNat % 32))))

/-- SAR (R248): sA = sB shifted right arithmetically by op[4:0]. -/
def execSar (t : Fin 672) (g : Guard) (a b : Fin 16) (x : Src) (s : State) : Host.Outcome State Fault Refusal :=
  s.act (fun d => untimed d t g (fun c => c.setS a ((c.sreg b).sshiftRight ((x.unsigned c).toNat % 32))))

/-- SET (R248): sA = imm32. -/
def execSet (t : Fin 672) (g : Guard) (a : Fin 16) (v : BitVec 32) (s : State) : Host.Outcome State Fault Refusal :=
  s.act (fun d => untimed d t g (fun c => c.setS a v))

/-- CMP_EQ (R248): pn is set when sA equals op. -/
def execCmpEq (t : Fin 672) (g : Guard) (n : Fin 4) (a : Fin 16) (x : Src)
    (s : State) : Host.Outcome State Fault Refusal :=
  s.act (fun d => untimed d t g (fun c => c.setP n (c.sreg a == x.signed c)))

/-- CMP_NE (R248): pn is set when sA differs from op. -/
def execCmpNe (t : Fin 672) (g : Guard) (n : Fin 4) (a : Fin 16) (x : Src)
    (s : State) : Host.Outcome State Fault Refusal :=
  s.act (fun d => untimed d t g (fun c => c.setP n (c.sreg a != x.signed c)))

/-- CMP_LT (R248): pn is set by a signed less-than comparison. -/
def execCmpLt (t : Fin 672) (g : Guard) (n : Fin 4) (a : Fin 16) (x : Src)
    (s : State) : Host.Outcome State Fault Refusal :=
  s.act (fun d => untimed d t g (fun c => c.setP n ((c.sreg a).slt (x.signed c))))

/-- CMP_LTU (R248): pn is set by an unsigned less-than comparison. -/
def execCmpLtu (t : Fin 672) (g : Guard) (n : Fin 4) (a : Fin 16) (x : Src)
    (s : State) : Host.Outcome State Fault Refusal :=
  s.act (fun d => untimed d t g (fun c => c.setP n ((c.sreg a).ult (x.unsigned c))))

/-- CMP_GE (R248): pn is set by a signed greater-or-equal comparison. -/
def execCmpGe (t : Fin 672) (g : Guard) (n : Fin 4) (a : Fin 16) (x : Src)
    (s : State) : Host.Outcome State Fault Refusal :=
  s.act (fun d => untimed d t g (fun c => c.setP n ((x.signed c).sle (c.sreg a))))

/-- CMP_GEU (R248): pn is set by an unsigned greater-or-equal comparison. -/
def execCmpGeu (t : Fin 672) (g : Guard) (n : Fin 4) (a : Fin 16) (x : Src)
    (s : State) : Host.Outcome State Fault Refusal :=
  s.act (fun d => untimed d t g (fun c => c.setP n ((x.unsigned c).ule (c.sreg a))))

/-- PAND (R248): pn = pm AND pk. -/
def execPand (t : Fin 672) (g : Guard) (n m k : Fin 4) (s : State) : Host.Outcome State Fault Refusal :=
  s.act (fun d => untimed d t g (fun c => c.setP n (c.pred m && c.pred k)))

/-- POR (R248): pn = pm OR pk. -/
def execPor (t : Fin 672) (g : Guard) (n m k : Fin 4) (s : State) : Host.Outcome State Fault Refusal :=
  s.act (fun d => untimed d t g (fun c => c.setP n (c.pred m || c.pred k)))

/-- PNOT (R248): pn = NOT pm. -/
def execPnot (t : Fin 672) (g : Guard) (n m : Fin 4) (s : State) : Host.Outcome State Fault Refusal :=
  s.act (fun d => untimed d t g (fun c => c.setP n (!c.pred m)))

/-- PSET (R245): pn takes the value of comparator kn in this period. -/
def execPset (t : Fin 672) (g : Guard) (n k : Fin 4) (s : State) : Host.Outcome State Fault Refusal :=
  s.act (fun d => untimed d t g (fun c => c.setP n (c.comparator k)))

/-- CSET (R248): cA takes a zero-extended immediate or another counter. -/
def execCset (t : Fin 672) (g : Guard) (a : Fin 8) (x : CSrc) (s : State) : Host.Outcome State Fault Refusal :=
  s.act (fun d => untimed d t g (fun c => c.setC a (x.zero c)))

/-- CADD (R248): cA = cB + op, modulo 2^48. -/
def execCadd (t : Fin 672) (g : Guard) (a b : Fin 8) (x : CSrc) (s : State) : Host.Outcome State Fault Refusal :=
  s.act (fun d => untimed d t g (fun c => c.setC a (c.creg b + x.sign c)))

/-- DBNZ (R248): decrements cA and branches when the result is not 0. -/
def execDbnz (t : Fin 672) (g : Guard) (a : Fin 8) (target : Nat) (s : State) : Host.Outcome State Fault Refusal :=
  s.act (fun d => branching d t g target (fun c => c.creg a - 1 != 0) (fun c => c.setC a (c.creg a - 1)))

/-- CMOV (R248): sA = cB[31:0]. -/
def execCmov (t : Fin 672) (g : Guard) (a : Fin 16) (b : Fin 8) (s : State) : Host.Outcome State Fault Refusal :=
  s.act (fun d => untimed d t g (fun c => c.setS a ((c.creg b).truncate 32)))

/-- CMOVH (R248): sA = cB[47:32], zero-extended. -/
def execCmovh (t : Fin 672) (g : Guard) (a : Fin 16) (b : Fin 8) (s : State) : Host.Outcome State Fault Refusal :=
  s.act (fun d => untimed d t g (fun c => c.setS a (((c.creg b) >>> 32).truncate 32)))

/-- KSET (R245): configures comparator kn with a source counter, a relation and a reference counter. -/
def execKset (t : Fin 672) (g : Guard) (n : Fin 4) (src : Fin 8) (rel : Fin 4) (ref : Fin 8)
    (s : State) : Host.Outcome State Fault Refusal :=
  s.act (fun d => untimed d t g (fun c => { c with k := c.k.set n ⟨src, rel, ref⟩ }))

/-- BR (R248): unconditional branch to an instruction index. -/
def execBr (t : Fin 672) (g : Guard) (target : Nat) (s : State) : Host.Outcome State Fault Refusal :=
  s.act (fun d => branching d t g target (fun _ => true) id)

/-- BR_P (R248): branches on predicate pn or !pn. -/
def execBrP (t : Fin 672) (g : Guard) (n : Fin 4) (neg : Bool) (target : Nat)
    (s : State) : Host.Outcome State Fault Refusal :=
  s.act (fun d => branching d t g target (fun c => c.pred n != neg) id)

/-- BR_K (R248): branches when comparator kn is true. -/
def execBrK (t : Fin 672) (g : Guard) (n : Fin 4) (target : Nat) (s : State) : Host.Outcome State Fault Refusal :=
  s.act (fun d => branching d t g target (fun c => c.comparator n) id)

/-- CALL (R248): pushes the return index and branches; a full return stack is a fault. -/
def execCall (t : Fin 672) (g : Guard) (target : Nat) (s : State) : Host.Outcome State Fault Refusal :=
  s.act (fun d => callOp d t g target)

/-- RET (R248): pops the return stack and branches to the popped index. -/
def execRet (t : Fin 672) (g : Guard) (s : State) : Host.Outcome State Fault Refusal :=
  s.act (fun d => retOp d t g)

/-- RD_SYS (R253): sA takes a system source such as tile, partition, device ID or step counter. -/
def execRdSys (t : Fin 672) (g : Guard) (a code : Fin 16) (s : State) : Host.Outcome State Fault Refusal :=
  s.act (fun d => rdSysOp d t g a code)

/-- LD_B (R254): timed byte load from the tile store at its due cycle, zero-extended. -/
def execLdB (t : Fin 672) (g : Guard) (a b : Fin 16) (off : BitVec 16) (due : Due)
    (s : State) : Host.Outcome State Fault Refusal :=
  s.act (fun d => loadOp d t 1 g a b off due)

/-- LD_H (R254): timed 2-byte load from the tile store at its due cycle. -/
def execLdH (t : Fin 672) (g : Guard) (a b : Fin 16) (off : BitVec 16) (due : Due)
    (s : State) : Host.Outcome State Fault Refusal :=
  s.act (fun d => loadOp d t 2 g a b off due)

/-- LD_W (R254): timed 4-byte load from the tile store at its due cycle. -/
def execLdW (t : Fin 672) (g : Guard) (a b : Fin 16) (off : BitVec 16) (due : Due)
    (s : State) : Host.Outcome State Fault Refusal :=
  s.act (fun d => loadOp d t 4 g a b off due)

/-- LD_D (R254): timed 8-byte load into an even–odd register pair. -/
def execLdD (t : Fin 672) (g : Guard) (a b : Fin 16) (off : BitVec 16) (due : Due)
    (s : State) : Host.Outcome State Fault Refusal :=
  s.act (fun d => loadOp d t 8 g a b off due)

/-- ST_B (R254): timed byte store, performed as a narrow read-modify-write. -/
def execStB (t : Fin 672) (g : Guard) (a b : Fin 16) (off : BitVec 16) (due : Due)
    (s : State) : Host.Outcome State Fault Refusal :=
  s.act (fun d => storeOp d t 1 g a b off due)

/-- ST_H (R254): timed 2-byte narrow store. -/
def execStH (t : Fin 672) (g : Guard) (a b : Fin 16) (off : BitVec 16) (due : Due)
    (s : State) : Host.Outcome State Fault Refusal :=
  s.act (fun d => storeOp d t 2 g a b off due)

/-- ST_W (R254): timed 4-byte narrow store. -/
def execStW (t : Fin 672) (g : Guard) (a b : Fin 16) (off : BitVec 16) (due : Due)
    (s : State) : Host.Outcome State Fault Refusal :=
  s.act (fun d => storeOp d t 4 g a b off due)

/-- ST_D (R254): timed 8-byte store from a register pair. -/
def execStD (t : Fin 672) (g : Guard) (a b : Fin 16) (off : BitVec 16) (due : Due)
    (s : State) : Host.Outcome State Fault Refusal :=
  s.act (fun d => storeOp d t 8 g a b off due)

/-- ISSUE (R106): places a descriptor copy with due cycle and base adjustments into an engine queue and moves the
release cycle. -/
def execIssue (t : Fin 672) (g : Guard) (e : Engine) (slot : Fin 512) (adj : List (Fin 4 × Fin 16)) (due : Due)
    (s : State) : Host.Outcome State Fault Refusal :=
  s.act (fun d => issueOp d t g e slot adj due)

/-- QUEUE_FULL_STALL (R110): an issue stalled on a full queue places its entry once the head entry is taken. -/
def execQueueFullStall (t : Fin 672) (e : Engine) (s : State) : Host.Outcome State Fault Refusal :=
  s.act (fun d => runWhere d t (fun c => match c with | .stalled x _ => x == e | _ => false))

/-- PACE (R106): sets the release cycle to its due cycle only. -/
def execPace (t : Fin 672) (g : Guard) (due : Due) (s : State) : Host.Outcome State Fault Refusal :=
  s.act (fun d => paceOp d t g due)

/-- WAIT_MQ (R256): tests in its due cycle whether a memory-queue completion count has reached its target. -/
def execWaitMq (t : Fin 672) (g : Guard) (n : Fin 8) (b : Fin 16) (due : Due)
    (s : State) : Host.Outcome State Fault Refusal :=
  s.act (fun d => waitOp d t g due (fun c => .mq n (c.sreg b)))

/-- WAIT_SIG (R256): tests in its due cycle whether a signal count has reached its target. -/
def execWaitSig (t : Fin 672) (g : Guard) (j b : Fin 16) (due : Due) (s : State) : Host.Outcome State Fault Refusal :=
  s.act (fun d => waitOp d t g due (fun c => .sig j (c.sreg b)))

/-- WAIT_MBX (R256): tests in its due cycle for a notice in the inbox and places it in s12 to s15. -/
def execWaitMbx (t : Fin 672) (g : Guard) (due : Due) (s : State) : Host.Outcome State Fault Refusal :=
  s.act (fun d => waitOp d t g due (fun _ => .mbx))

/-- WAIT_COMPLETION (R106): A pending wait completes in the period in which its condition becomes true, releasing the
held cycle. -/
def execWaitCompletion (t : Fin 672) (kind : WaitKind) (s : State) : Host.Outcome State Fault Refusal :=
  s.act (fun d => runWhere d t (fun c => match c with | .waiting w => w.kind == kind | _ => false))

/-- STINT_END (R262): the tile reaches its stint end and executes nothing until the boundary edge. -/
def execStintEnd (t : Fin 672) (g : Guard) (due : Due) (s : State) : Host.Outcome State Fault Refusal :=
  s.act (fun d => stintEndOp d t g due)

/-- STINT_NAP (R264): ends the stint and requests a nap with the wake causes named in sB. -/
def execStintNap (t : Fin 672) (g : Guard) (due : Due) (a : Fin 8) (b : Fin 16)
    (s : State) : Host.Outcome State Fault Refusal :=
  s.act (fun d => stintNapOp d t g due a b)

/-- TILE_WAKE (R566): an enabled wake event or the alarm's lead edge starts the 128-beat wake sequence of a napping
tile. -/
def execTileWake (t : Fin 672) (s : State) : Host.Outcome State Fault Refusal :=
  s.act (fun d => tileWake d t)

/-- WAKE_SELF_CHECK (R567): A wake not locked by beat 100, or with more than 8 trips in beats 100 to 115, raises a
contained error. -/
def execWakeSelfCheck (t : Fin 672) (locked : Bool) (s : State) : Host.Outcome State Fault Refusal :=
  s.act (fun d => wakeSelfCheck d t locked)

/-- TILE_REJOIN (R265): A woken tile rejoins its partition at a boundary edge with the wake cause in s11. -/
def execTileRejoin (t : Fin 672) (s : State) : Host.Outcome State Fault Refusal :=
  s.act (fun d => tileRejoin d t)

/-- LANDING_WRITE (R118): the landing port writes a buffered landing into a bank in a free period. -/
def execLandingWrite (t : Fin 672) (s : State) : Host.Outcome State Fault Refusal :=
  s.act (fun d => landingWrite d t)

end Sys2Proof.Machine
end

