-- ==== Sys2Proof/Machine/CmdEngine.lean ====
section
/-!
DEFINITION. The meaning of each command. Operations of the seven engines (07, 08, 10, 13, 14): an engine takes the
head entry of its queue at its due cycle.
-/
namespace Sys2Proof.Machine

/-- CG_MM (R199): the CG takes a matrix-product entry and runs preload, slices, pipeline and drain. -/
def execCgMm (t : Fin 672) (s : State) : Host.Outcome State Fault Refusal :=
  s.act (fun d => runEntry d t .cg (·.opcode == 0x10))

/-- VU_EW (R203): the VU takes an elementwise operation selected by OPX. -/
def execVuEw (t : Fin 672) (s : State) : Host.Outcome State Fault Refusal :=
  s.act (fun d => runEntry d t .vu (·.opcode == 0x20))

/-- VU_RED (R204): the VU reduces each row of A to one element in the fixed tree order. -/
def execVuRed (t : Fin 672) (s : State) : Host.Outcome State Fault Refusal :=
  s.act (fun d => runEntry d t .vu (·.opcode == 0x21))

/-- VU_QUANT (R205): the VU quantises rows to an MX format one block at a time. -/
def execVuQuant (t : Fin 672) (s : State) : Host.Outcome State Fault Refusal :=
  s.act (fun d => runEntry d t .vu (·.opcode == 0x22))

/-- VU_CHK (R206): the VU writes a range-check record of an FP32 or IDX32 tensor. -/
def execVuChk (t : Fin 672) (s : State) : Host.Outcome State Fault Refusal :=
  s.act (fun d => runEntry d t .vu (·.opcode == 0x23))

/-- VU_STOW (R208): the VU writes the CG drain into the store unchanged. -/
def execVuStow (t : Fin 672) (s : State) : Host.Outcome State Fault Refusal :=
  s.act (fun d => runEntry d t .vu (·.opcode == 0x24))

/-- VU_JOIN (R207): the VU joins partial records pairwise under R176. -/
def execVuJoin (t : Fin 672) (s : State) : Host.Outcome State Fault Refusal :=
  s.act (fun d => runEntry d t .vu (·.opcode == 0x25))

/-- VU_FIN (R207): the VU applies the final stage to joined records. -/
def execVuFin (t : Fin 672) (s : State) : Host.Outcome State Fault Refusal :=
  s.act (fun d => runEntry d t .vu (·.opcode == 0x26))

/-- SFU_FN (R210): the SFU evaluates the special function named in PARAM byte 0. -/
def execSfuFn (t : Fin 672) (s : State) : Host.Outcome State Fault Refusal :=
  s.act (fun d => runEntry d t .sfu (·.opcode == 0x30))

/-- IX_GATHER (R214): the IX copies indexed rows of A into rows of D. -/
def execIxGather (t : Fin 672) (s : State) : Host.Outcome State Fault Refusal :=
  s.act (fun d => runEntry d t .ix (·.opcode == 0x40))

/-- IX_SCATTER (R215): the IX copies rows of A into indexed rows of D. -/
def execIxScatter (t : Fin 672) (s : State) : Host.Outcome State Fault Refusal :=
  s.act (fun d => runEntry d t .ix (·.opcode == 0x41))

/-- IX_SEGRED (R216): the IX reduces rows of A into segments of D by segment id. -/
def execIxSegred (t : Fin 672) (s : State) : Host.Outcome State Fault Refusal :=
  s.act (fun d => runEntry d t .ix (·.opcode == 0x42))

/-- MV_COPY (R217): the MV copies bytes of A into D without conversion. -/
def execMvCopy (t : Fin 672) (s : State) : Host.Outcome State Fault Refusal :=
  s.act (fun d => runEntry d t .mv (·.opcode == 0x50))

/-- MV_SEND (R218): the MV sends lines of A along a mesh route. -/
def execMvSend (t : Fin 672) (s : State) : Host.Outcome State Fault Refusal :=
  s.act (fun d => runEntry d t .mv (·.opcode == 0x51))

/-- MV_LAND (R219): the MV takes lines from a neighbour crossing into D. -/
def execMvLand (t : Fin 672) (s : State) : Host.Outcome State Fault Refusal :=
  s.act (fun d => runEntry d t .mv (·.opcode == 0x52))

/-- MV_MQ_READ (R285): the MV posts memory-queue read requests, one per row. -/
def execMvMqRead (t : Fin 672) (s : State) : Host.Outcome State Fault Refusal :=
  s.act (fun d => runEntry d t .mv (fun x => x.opcode == 0x53 && x.p 6 == 0))

/-- MV_MQ_WRITE (R287): the MV reads each row's lines and posts memory-queue write requests. -/
def execMvMqWrite (t : Fin 672) (s : State) : Host.Outcome State Fault Refusal :=
  s.act (fun d => runEntry d t .mv (fun x => x.opcode == 0x53 && x.p 6 == 1))

/-- MV_MQ_GATHER (R285): the MV posts indexed read requests through an index tensor. -/
def execMvMqGather (t : Fin 672) (s : State) : Host.Outcome State Fault Refusal :=
  s.act (fun d => runEntry d t .mv (fun x => x.opcode == 0x53 && x.p 6 == 2))

/-- MV_MQ_SCATTER (R285): the MV posts indexed write requests through an index tensor. -/
def execMvMqScatter (t : Fin 672) (s : State) : Host.Outcome State Fault Refusal :=
  s.act (fun d => runEntry d t .mv (fun x => x.opcode == 0x53 && x.p 6 == 3))

/-- MV_MQ_MOVE (R285): the MV posts memory-to-memory move requests. -/
def execMvMqMove (t : Fin 672) (s : State) : Host.Outcome State Fault Refusal :=
  s.act (fun d => runEntry d t .mv (fun x => x.opcode == 0x53 && decide (4 ≤ x.p 6)))

/-- MQ_FULL_WAIT (R288): the edge withheld for a row of an MV channel is emitted once the memory queue has an entry and buffer
room for the row. -/
def execMqFullWait (t : Fin 672) (channel : Fin 2) (s : State) : Host.Outcome State Fault Refusal :=
  s.act (fun d => emitEdge d t (fun f o m => f.second == (channel == 1) && o.rows.any (·.first == m)))

/-- MV_LINK_PLANNED (R379): the MV posts a planned packet to an owned outbound link. -/
def execMvLinkPlanned (t : Fin 672) (s : State) : Host.Outcome State Fault Refusal :=
  s.act (fun d => runEntry d t .mv (fun x => x.opcode == 0x54 && (x.p 0 == 0 || mvLinkReserved x)))

/-- MV_LINK_WRITE (R379): the MV posts a best-effort WRITE packet. -/
def execMvLinkWrite (t : Fin 672) (s : State) : Host.Outcome State Fault Refusal :=
  s.act (fun d => runEntry d t .mv (fun x => x.opcode == 0x54 && x.p 0 == 1))

/-- MV_LINK_WRITE_C (R379): the MV posts a WRITE_C packet and opens an outstanding-request entry. -/
def execMvLinkWriteC (t : Fin 672) (s : State) : Host.Outcome State Fault Refusal :=
  s.act (fun d => runEntry d t .mv (fun x => x.opcode == 0x54 && x.p 0 == 2))

/-- MV_LINK_READ (R379): the MV posts a READ packet that reserves its landing space. -/
def execMvLinkRead (t : Fin 672) (s : State) : Host.Outcome State Fault Refusal :=
  s.act (fun d => runEntry d t .mv (fun x => x.opcode == 0x54 && x.p 0 == 3))

/-- MV_LINK_BARRIER (R413): the MV posts a barrier entry with its round, E and completion count. -/
def execMvLinkBarrier (t : Fin 672) (s : State) : Host.Outcome State Fault Refusal :=
  s.act (fun d => runEntry d t .mv (fun x => x.opcode == 0x54 && x.p 0 == 0x10))

/-- MV_LINK_SIGNAL (R422): the MV posts a SIGNAL carrying the data path's send count. -/
def execMvLinkSignal (t : Fin 672) (s : State) : Host.Outcome State Fault Refusal :=
  s.act (fun d => runEntry d t .mv (fun x => x.opcode == 0x54 && x.p 0 == 0x11))

/-- MV_LINK_NOTICE (R429): the MV posts a 16-byte mailbox notice to a tile or firmware. -/
def execMvLinkNotice (t : Fin 672) (s : State) : Host.Outcome State Fault Refusal :=
  s.act (fun d => runEntry d t .mv (fun x => x.opcode == 0x54 && x.p 0 == 0x12))

/-- MV_IMEM (R221): the MV copies lines into an inactive, unsealed instruction-memory bank, or seals it. -/
def execMvImem (t : Fin 672) (s : State) : Host.Outcome State Fault Refusal :=
  s.act (fun d => runEntry d t .mv (·.opcode == 0x55))

/-- DG_OPEN (R222): the DG opens a digest slot over a region. -/
def execDgOpen (t : Fin 672) (s : State) : Host.Outcome State Fault Refusal :=
  s.act (fun d => runEntry d t .dg (·.opcode == 0x60))

/-- DG_SCAN (R224): the DG reads an open slot's region into its digest. -/
def execDgScan (t : Fin 672) (s : State) : Host.Outcome State Fault Refusal :=
  s.act (fun d => runEntry d t .dg (·.opcode == 0x61))

/-- DG_TAKE (R225): the DG closes a slot and writes its 16-byte digest record. -/
def execDgTake (t : Fin 672) (s : State) : Host.Outcome State Fault Refusal :=
  s.act (fun d => runEntry d t .dg (·.opcode == 0x62))

/-- FU_LOAD (R231): the FU loads node records into a half and rebuilds its directory. -/
def execFuLoad (t : Fin 672) (s : State) : Host.Outcome State Fault Refusal :=
  s.act (fun d => runEntry d t .fu (·.opcode == 0x70))

/-- FU_FEAT (R232): the FU loads feature rows into the feature buffer. -/
def execFuFeat (t : Fin 672) (s : State) : Host.Outcome State Fault Refusal :=
  s.act (fun d => runEntry d t .fu (·.opcode == 0x71))

/-- FU_EVAL (R237): the FU walks trees over rows, accumulates leaves exactly and may emit scores. -/
def execFuEval (t : Fin 672) (s : State) : Host.Outcome State Fault Refusal :=
  s.act (fun d => runEntry d t .fu (·.opcode == 0x72))

/-- FU_NSAMPLE (R240): the FU draws neighbour samples for seed nodes. -/
def execFuNsample (t : Fin 672) (s : State) : Host.Outcome State Fault Refusal :=
  s.act (fun d => runEntry d t .fu (·.opcode == 0x73))

end Sys2Proof.Machine
end

