-- ==== Sys2Proof/Machine/CmdFabric.lean ====
section
/-!
DEFINITION. The meaning of each command. Packets and the router (13), signals and notices on their way (14).
-/
namespace Sys2Proof.Machine

/-- BE_PACKET_INJECT (R379): A posted best-effort packet reaches its network die one beat after cycle p + T. -/
def execBePacketInject (t : Fin 672) (s : State) : Host.Outcome State Fault Refusal :=
  s.act (fun d => beInject d t)

/-- PLANNED_ENQUEUE (R388): A posted planned packet enters its link's planned queue whole. -/
def execPlannedEnqueue (l : Fin 64) (s : State) : Host.Outcome State Fault Refusal :=
  s.act (fun d => plannedEnqueue d l)

/-- PLANNED_FORWARD (R389): an intermediate device forwards a planned packet onto the link named in ROUTE. -/
def execPlannedForward (id : Nat) (s : State) : Host.Outcome State Fault Refusal :=
  s.act (fun d => plannedForward d id)

/-- PLANNED_PACKET_ARRIVAL (R392): the receiver counts a planned packet's LEN against its transfer record; a full
count marks it landed. -/
def execPlannedPacketArrival (id : Nat) (s : State) : Host.Outcome State Fault Refusal :=
  s.act (fun d => plannedTaken d id)

/-- BE_FORWARD (R396): A best-effort packet is fenced, phase-switched, delivered or routed under the rank rule. -/
def execBeForward (id : Nat) (s : State) : Host.Outcome State Fault Refusal :=
  s.act (fun d => beForward d id)

/-- CREDIT_SEND (R396): A best-effort packet waiting on an outbound link is sent once a credit is available. -/
def execCreditSend (l : Fin 64) (vc : Fin 6) (s : State) : Host.Outcome State Fault Refusal :=
  s.act (fun d => creditSend d l vc)

/-- WRITE (R381): A WRITE packet at its destination writes its payload at ADDR. -/
def execWrite (id : Nat) (s : State) : Host.Outcome State Fault Refusal :=
  s.act (fun d => writeSink d id)

/-- WRITE_C (R381): A WRITE_C packet is written and answered with a RESPONSE once complete. -/
def execWriteC (id : Nat) (s : State) : Host.Outcome State Fault Refusal :=
  s.act (fun d => writeCSink d id)

/-- READ (R381): A READ packet is answered with a RESPONSE carrying LEN bytes. -/
def execRead (id : Nat) (s : State) : Host.Outcome State Fault Refusal :=
  s.act (fun d => readSink d id)

/-- RESPONSE (R379): A RESPONSE closes its outstanding-request entry, lands data and raises the completion signal. -/
def execResponse (id : Nat) (s : State) : Host.Outcome State Fault Refusal :=
  s.act (fun d => responseSink d id)

/-- NOTICE (R430): A NOTICE packet enters the target inbox or is answered BUSY or refused. -/
def execNotice (id : Nat) (s : State) : Host.Outcome State Fault Refusal :=
  s.act (fun d => noticeSink d id)

/-- NOTICE_RETRY (R430): NOTICE_RETRY beats after a BUSY, the sending network die sends the notice again. -/
def execNoticeRetry (die : Fin 2) (ix : Fin 2048) (s : State) : Host.Outcome State Fault Refusal :=
  s.act (fun d => noticeRetry d die ix)

/-- SIGNAL (R424): an arriving SIGNAL enters the hold table of its network die. -/
def execSignal (id : Nat) (s : State) : Host.Outcome State Fault Refusal :=
  s.act (fun d => signalSink d id)

/-- REMOTE_WRITE_COMPLETE (R423): A completed remote write is recorded in order in its data path's landed count. -/
def execRemoteWriteComplete (id : Nat) (s : State) : Host.Outcome State Fault Refusal :=
  s.act (fun d => recordWrite d id)

/-- SIGNAL_RELEASE (R424): A held signal whose data have landed increments the target tile's signal count. -/
def execSignalRelease (id : Nat) (s : State) : Host.Outcome State Fault Refusal :=
  s.act (fun d => signalRelease d id)

/-- MGMT (R398): A MGMT packet is delivered to the firmware inbox or discarded if full. -/
def execMgmt (id : Nat) (s : State) : Host.Outcome State Fault Refusal :=
  s.act (fun d => mgmtSink d id)

/-- STALE_DROP (R399): A best-effort packet holding a VC buffer for 65,536 beats is dropped. -/
def execStaleDrop (id : Nat) (s : State) : Host.Outcome State Fault Refusal :=
  s.act (fun d => staleDrop d id)

/-- ANCHOR_CHANGE (R384): when the owner's plan stops, the link frame re-anchors to BC at the next 64-beat edge. -/
def execAnchorChange (l : Fin 64) (s : State) : Host.Outcome State Fault Refusal :=
  s.act (fun d => anchorChange d l)

/-- FENCE_TAG_WRITE (R405): A write of FENCE_TAG is accepted or refused; a change fences links, drops traffic and
starts cooling. -/
def execFenceTagWrite (who : Principal) (k : Fin 16) (tag : BitVec 16) (s : State) : Host.Outcome State Fault Refusal :=
  s.act (fun d => entryWrite d who (0x3040 + 0x100 * k) 1 tag.toNat)

/-- TAG_COOLDOWN_EXPIRY (R401): A cooling fence tag becomes available again after TAG_COOLDOWN beats. -/
def execTagCooldownExpiry (tag : BitVec 16) (s : State) : Host.Outcome State Fault Refusal :=
  s.act (fun d => tagCooled d tag.toNat)

/-- LINK_RECHECK (R402): firmware rechecks a link that came UP against each loaded route table and opens it or keeps
it fenced. -/
def execLinkRecheck (l : Fin 64) (s : State) : Host.Outcome State Fault Refusal :=
  s.act (fun d => linkRecheck d l)

end Sys2Proof.Machine
end

