-- ==== Sys2Proof/Machine/CmdHost.lean ====
section
/-!
DEFINITION. The meaning of each command. The host interface (20): registers, rings, the mailbox, resets of functions,
and the commands of this chapter.
-/
namespace Sys2Proof.Machine

/-- SQ_DOORBELL (R585): A doorbell write announces packets, which the device copies, checks and accepts in order. -/
def execSqDoorbell (f : Fin 17) (v : BitVec 32) (packets : List Bytes) (s : State) : Host.Outcome State Fault Refusal :=
  s.act (fun d => sqDoorbell d f v.toNat packets)

/-- PROTO_SELECT_WRITE (R584): A write of HI_PROTO_SELECT sets the command protocol version or sets PROTO_BAD. -/
def execProtoSelectWrite (f : Fin 17) (v : BitVec 32) (s : State) : Host.Outcome State Fault Refusal :=
  s.act (fun d => protoSelectWrite d f v.toNat)

/-- RING_ENABLE (R596): setting or clearing ENABLE of a ring registers or disables it. -/
def execRingEnable (f : Fin 17) (r : Fin 4) (v : BitVec 32) (s : State) : Host.Outcome State Fault Refusal :=
  s.act (fun d => ringCtrlWrite d f r v.toNat)

/-- RING_HEAD_WRITE (R596): host software advances HI_RING_HEAD, freeing ring space. -/
def execRingHeadWrite (f : Fin 17) (r : Fin 4) (v : BitVec 64) (s : State) : Host.Outcome State Fault Refusal :=
  s.act (fun d => ringHeadWrite d f r v.toNat)

/-- RING_DROPS_READ (R599): A read of HI_RING_DROPS returns the count and clears it. -/
def execRingDropsRead (f : Fin 17) (r : Fin 4) (s : State) : Host.Outcome State Fault Refusal :=
  s.act (fun d => ringDropsRead d f r)

/-- REGISTER_WRITE (R583): A write to a function register or entry without a row of its own. -/
def execRegisterWrite (w : WriteTarget) (s : State) : Host.Outcome State Fault Refusal :=
  s.act (fun d => registerWrite d w)

/-- RING_POST (R597): A waiting entry is posted, with PAD if needed, once its ring has room. -/
def execRingPost (f : Fin 17) (r : Fin 4) (s : State) : Host.Outcome State Fault Refusal :=
  s.act (fun d => ringPost d f r)

/-- INTERRUPT_HOLDOFF (R600): MOD_US after an unsignalled entry, the ring signals its MSI-X vector. -/
def execInterruptHoldoff (f : Fin 17) (r : Fin 4) (s : State) : Host.Outcome State Fault Refusal :=
  s.act (fun d => interruptHoldoff d f r)

/-- MBX_OBJECT_ACCESS (R601): A mailbox doorbell of kind 1 hands an OAP frame to firmware. -/
def execMbxObjectAccess (f : Fin 17) (v : BitVec 32) (s : State) : Host.Outcome State Fault Refusal :=
  s.act (fun d => mailboxDoorbell d f v.toNat 1)

/-- MBX_NOTICE (R601): A mailbox doorbell of kind 2 hands a 16-byte notice to firmware. -/
def execMbxNotice (f : Fin 17) (v : BitVec 32) (s : State) : Host.Outcome State Fault Refusal :=
  s.act (fun d => takeHostNotice (mailboxDoorbell d f v.toNat 2) f)

/-- PCIE_FUNDAMENTAL_RESET (R678): PERST_N asserted resets the PCIe endpoint as a hot reset while partitions run. -/
def execPcieFundamentalReset (s : State) : Host.Outcome State Fault Refusal :=
  s.act (fun d => perstAssert d)

/-- FUNCTION_LEVEL_RESET (R602): A function-level reset clears one function's registers, rings and backlog within 100
ms. -/
def execFunctionLevelReset (f : Fin 17) (s : State) : Host.Outcome State Fault Refusal :=
  s.act (fun d => functionLevelReset d f)

/-- PCIE_LINK_LOSS (R602): loss of the PCIe link or a hot reset treats every function as reset; partitions keep
running. -/
def execPcieLinkLoss (s : State) : Host.Outcome State Fault Refusal :=
  s.act (fun d => pcieLinkLoss d)

/-- NOP (R588): completes at once. -/
def execNop (f : Fin 17) (s : State) : Host.Outcome State Fault Refusal :=
  s.act (fun d => hostCommand d f 0x0001 nop)

/-- MEM_WRITE (R592): writes the payload as a control-plane access to memory, a tile store or instruction memory. -/
def execMemWrite (f : Fin 17) (s : State) : Host.Outcome State Fault Refusal :=
  s.act (fun d => hostCommand d f 0x0100 memWrite)

/-- MEM_READ (R592): copies device bytes into a bulk window as posted writes. -/
def execMemRead (f : Fin 17) (s : State) : Host.Outcome State Fault Refusal :=
  s.act (fun d => hostCommand d f 0x0101 memRead)

/-- JOB_MAP (R593): A stream that installs the job map of rank to device ID. -/
def execJobMap (f : Fin 17) (s : State) : Host.Outcome State Fault Refusal :=
  s.act (fun d => hostCommand d f 0x0202 jobMap)

/-- ROUTE_TABLE (R394): A stream that installs the best-effort route table after firmware checks. -/
def execRouteTable (f : Fin 17) (s : State) : Host.Outcome State Fault Refusal :=
  s.act (fun d => hostCommand d f 0x0203 routeTable)

/-- TREE_RECORD (R409): installs the partition's barrier-tree record after firmware checks. -/
def execTreeRecord (f : Fin 17) (s : State) : Host.Outcome State Fault Refusal :=
  s.act (fun d => hostCommand d f 0x0204 treeRecord)

/-- LOAD_PARAMS (R593): A stream of 64-bit load parameters in PARAMS order. -/
def execLoadParams (f : Fin 17) (s : State) : Host.Outcome State Fault Refusal :=
  s.act (fun d => hostCommand d f 0x0205 loadParams)

/-- LINK_MEASURES (R594): A stream that installs the job's link-measurement table. -/
def execLinkMeasures (f : Fin 17) (s : State) : Host.Outcome State Fault Refusal :=
  s.act (fun d => hostCommand d f 0x0206 linkMeasures)

/-- PART_STOP (R595): stops a running partition at its next boundary edge. -/
def execPartStop (f : Fin 17) (s : State) : Host.Outcome State Fault Refusal :=
  s.act (fun d => hostCommand d f 0x0210 partStop)

/-- PART_RESET (R595): requests the reset of a stopped partition. -/
def execPartReset (f : Fin 17) (s : State) : Host.Outcome State Fault Refusal :=
  s.act (fun d => hostCommand d f 0x0211 partReset)

/-- PART_RESET_EXECUTE (R595): once the partition's memory queues are empty, the context switch runs and PLAN_STATE
becomes 0. -/
def execPartResetExecute (k : Fin 16) (s : State) : Host.Outcome State Fault Refusal :=
  s.act (fun d => partResetExecute d k)

/-- PERST_N_RELEASE (R678): release of PERST_N ends the fundamental reset of the PCIe endpoint, which must answer
configuration requests within 100 ms of the later release. -/
def execPerstNRelease (s : State) : Host.Outcome State Fault Refusal :=
  s.act (fun d => perstRelease d)

/-- FUNCTION_LEVEL_RESET_DONE (R602): within 100 ms of a function-level reset, the clearing of the function's
registers, rings and backlog completes and the function again accepts packets, doorbells and register writes. -/
def execFunctionLevelResetDone (f : Fin 17) (s : State) : Host.Outcome State Fault Refusal :=
  s.act (fun d => functionLevelResetDone d f)

/-- CONFIGURATION_REQUEST (R581): A PCIe configuration write sets Bus Master Enable or NumVFs, deciding whether
entries post or wait and which VFs exist. -/
def execConfigurationRequest (w : ConfigWrite) (s : State) : Host.Outcome State Fault Refusal :=
  s.act (fun d => configurationRequest d w)

end Sys2Proof.Machine
end

