-- ==== Sys2Proof/Machine/CmdLink.lean ====
section
/-!
DEFINITION. The meaning of each command. The link layer (12).
-/
namespace Sys2Proof.Machine

/-- LINK_ENABLE_WRITE (R341): A write of LINK_ENABLE starts DETECT, or takes an UP link down with cause 5. -/
def execLinkEnableWrite (who : Principal) (l : Fin 64) (v : Bool) (s : State) : Host.Outcome State Fault Refusal :=
  s.act (fun d => entryWrite d who (0x4100 + l) 1 (boolNat v))

/-- DETECT_LOCK (R344): both receiving lanes lock on the far end's PRBS31 and the link enters TRAIN. -/
def execDetectLock (l : Fin 64) (s : State) : Host.Outcome State Fault Refusal :=
  s.act (fun d => detectLock d l)

/-- TRAINING_FRAME (R344): A good training frame is acted on: equalisation requests, identity, version and phase
progress. -/
def execTrainingFrame (l : Fin 64) (frame : Bytes) (report : FrameReport)
    (s : State) : Host.Outcome State Fault Refusal :=
  s.act (fun d => trainingFrame d l frame report.request0 report.request1 report.errors)

/-- TRAIN_TIMEOUT (R341): TRAIN exceeding 12 ms takes the link DOWN with cause 8. -/
def execTrainTimeout (l : Fin 64) (s : State) : Host.Outcome State Fault Refusal :=
  s.act (fun d => trainTimeout d l)

/-- MEASURE_COMPLETE (R347): after 1,024 probes, the link publishes LATENCY and ROUND_TRIP and enters UP. -/
def execMeasureComplete (l : Fin 64) (far : Bool) (s : State) : Host.Outcome State Fault Refusal :=
  s.act (fun d => measureComplete d l far)

/-- REMEASURE (R349): A write of 1 repeats MEASURE on an UP link in free slots. -/
def execRemeasure (who : Principal) (l : Fin 64) (s : State) : Host.Outcome State Fault Refusal :=
  s.act (fun d => entryWrite d who (0x4100 + l) 13 1)

/-- FLIT_TRANSMIT (R386): each flit time sends a planned, replayed, best-effort, probe or IDLE flit with a fresh
sideband. -/
def execFlitTransmit (l : Fin 64) (sub : Fin 25) (s : State) : Host.Outcome State Fault Refusal :=
  s.act (fun d => flitTransmit d l sub)

/-- FLIT_RECEIVE (R355): an incoming flit is discarded, processed for its sideband, accepted or counted as a
duplicate. -/
def execFlitReceive (l : Fin 64) (sub : Fin 25) (flit : Bytes) (shared : Bool) (errors : List Nat)
    (s : State) : Host.Outcome State Fault Refusal :=
  s.act (fun d => flitReceive d l sub flit shared errors)

/-- REPLAY_TIMEOUT (R358): the replay timer reaching REPLAY_TIMEOUT replays every held flit. -/
def execReplayTimeout (l : Fin 64) (s : State) : Host.Outcome State Fault Refusal :=
  s.act (fun d => replayTimeout d l)

/-- LANE_LOCK_LOSS (R368): lane lock lost for 64 flit times takes the link down with cause 3. -/
def execLaneLockLoss (l : Fin 64) (s : State) : Host.Outcome State Fault Refusal :=
  s.act (fun d => laneLockLoss d l)

/-- STALL_TIMEOUT (R368): A replay-buffer stall lasting 65,536 beats takes the link down with cause 6. -/
def execStallTimeout (l : Fin 64) (s : State) : Host.Outcome State Fault Refusal :=
  s.act (fun d => stallTimeout d l)

/-- LINK_RETRAIN (R373): firmware restarts training of a DOWN link that is enabled and named by no running plan. -/
def execLinkRetrain (l : Fin 64) (s : State) : Host.Outcome State Fault Refusal :=
  s.act (fun d => linkRetrain d l)

/-- RESP_TIMEOUT (R370): an outstanding-request entry open for RESP_TIMEOUT beats closes with status TIMEOUT. -/
def execRespTimeout (die : Fin 2) (ix : Fin 2048) (s : State) : Host.Outcome State Fault Refusal :=
  s.act (fun d => respTimeout d die ix)

end Sys2Proof.Machine
end

