-- ==== Sys2Proof/Machine/CmdManage.lean ====
section
/-!
DEFINITION. The meaning of each command. Management (21).
-/
namespace Sys2Proof.Machine

/-- OAP_READ (R619): an OAP READ frame is served item by item. -/
def execOapRead (p : OapPath) (s : State) : Host.Outcome State Fault Refusal :=
  s.act (fun d => oapRead d p)

/-- OAP_WRITE (R619): an OAP WRITE frame applies its items in order until the first failure. -/
def execOapWrite (p : OapPath) (s : State) : Host.Outcome State Fault Refusal :=
  s.act (fun d => oapWrite d p)

/-- OAP_DISCOVER (R625): A DISCOVER frame is answered with the identity and health items. -/
def execOapDiscover (p : OapPath) (s : State) : Host.Outcome State Fault Refusal :=
  s.act (fun d => oapDiscover d p)

/-- OAP_RESPONSE_EXPIRY (R626): A kept duplicate response is discarded 2^28 beats after it was sent. -/
def execOapResponseExpiry (s : State) : Host.Outcome State Fault Refusal :=
  s.act (fun d => oapResponseExpiry d)

/-- DEVICE_ID_WRITE (R631): the board manager writes DEVICE_ID, clearing ID_CONFLICT and rechecking UP links. -/
def execDeviceIdWrite (who : Principal) (v : BitVec 32) (s : State) : Host.Outcome State Fault Refusal :=
  s.act (fun d => entryWrite d who 0x2000 1 v.toNat)

/-- HEALTH_EVALUATION (R633): every SCORE_PERIOD, the health score and advice are recomputed and penalties decay. -/
def execHealthEvaluation (s : State) : Host.Outcome State Fault Refusal :=
  s.act (fun d => healthEvaluation d)

/-- HEALTH_RESTORE (R635): restores saved penalties and incident count, never lowering a penalty. -/
def execHealthRestore (who : Principal) (v : BitVec 144) (s : State) : Host.Outcome State Fault Refusal :=
  s.act (fun d => entryWrite d who 0x6001 10 v.toNat)

end Sys2Proof.Machine
end

