-- ==== Sys2Proof/Machine/CmdMemory.lean ====
section
/-!
DEFINITION. The meaning of each command. Memory channels and queues, integrity (10, 18).
-/
namespace Sys2Proof.Machine

/-- CHANNEL_SLOT (R280): at the start of each slot, a memory channel serves refresh, a control-plane access or the
oldest planned request. -/
def execChannelSlot (c : Fin 272) (s : State) : Host.Outcome State Fault Refusal :=
  s.act (fun d => channelSlot d c)

/-- PAGE_DECODE (R537): the page decoder finishes a page with an uncorrectable word, rebuilding it or landing poisoned
words. -/
def execPageDecode (c : Fin 272) (s : State) : Host.Outcome State Fault Refusal :=
  s.act (fun d => pageDecode d c)

/-- MQ_COMPLETION (R290): A complete memory-queue request is recorded in its completion count in order. -/
def execMqCompletion (t : Fin 672) (n : Fin 8) (s : State) : Host.Outcome State Fault Refusal :=
  s.act (fun d => mqCompletion d t n)

/-- SCRUB (R548): starts a scrub of an HBM or capacity range. -/
def execScrub (f : Fin 17) (s : State) : Host.Outcome State Fault Refusal :=
  s.act (fun d => hostCommand d f 0x0500 scrubCommand)

/-- SCRUB_COMPLETE (R552): when every page of the range has been handled, the scrub summary is posted. -/
def execScrubComplete (s : State) : Host.Outcome State Fault Refusal :=
  s.act (fun d => scrubComplete d)

/-- INJECT_ARM (R555): arms a word or residue fault injection, or is refused. -/
def execInjectArm (who : Principal) (s : State) : Host.Outcome State Fault Refusal :=
  s.act (fun d => entryWrite d who 0x9090 5 1)

end Sys2Proof.Machine
end

