-- ==== Sys2Proof/Machine/CmdPlan.lean ====
section
/-!
DEFINITION. The meaning of each command. Plan images (11).
-/
namespace Sys2Proof.Machine

/-- PLAN_IMAGE (R322): A packet of a plan-image stream; firmware checks the control part and loads an accepted cold
load or successor. -/
def execPlanImage (f : Fin 17) (s : State) : Host.Outcome State Fault Refusal :=
  s.act (fun d => hostCommand d f 0x0200 planImage)

/-- PLAN_ABORT (R323): ends an incomplete image stream, discarding a successor or leaving a cold load refused. -/
def execPlanAbort (f : Fin 17) (s : State) : Host.Outcome State Fault Refusal :=
  s.act (fun d => hostCommand d f 0x0201 planAbort)

/-- SUCCESSOR_STAGE (R330): once the first STAGE_OPEN step begins, firmware writes and seals the successor's inactive
banks. -/
def execSuccessorStage (k : Fin 16) (s : State) : Host.Outcome State Fault Refusal :=
  s.act (fun d => successorStage d k)

end Sys2Proof.Machine
end

