-- ==== Sys2Proof/Machine/CmdPower.lean ====
section
/-!
DEFINITION. The meaning of each command. Partitions, power and grades (19).
-/
namespace Sys2Proof.Machine

/-- PART_GROUPS_WRITE (R561): host admin assigns tile groups to a partition; new groups start clearing. -/
def execPartGroupsWrite (who : Principal) (k : Fin 16) (m : BitVec 88) (s : State) : Host.Outcome State Fault Refusal :=
  s.act (fun d => entryWrite d who (0x30B0 + 0x100 * k) 1 m.toNat)

/-- HBM_CHANNELS_WRITE (R274): host admin assigns HBM channels to a partition; new channels start clearing. -/
def execHbmChannelsWrite (who : Principal) (k : Fin 16) (m : BitVec 256) (s : State) : Host.Outcome State Fault Refusal :=
  s.act (fun d => entryWrite d who (0x3020 + 0x100 * k) 1 m.toNat)

/-- CAP_CHANNELS_WRITE (R278): host admin assigns capacity channels to a partition; new channels start clearing. -/
def execCapChannelsWrite (who : Principal) (k : Fin 16) (m : BitVec 16) (s : State) : Host.Outcome State Fault Refusal :=
  s.act (fun d => entryWrite d who (0x3020 + 0x100 * k) 2 m.toNat)

/-- CLEARING_COMPLETE (R565): firmware finishes zeroing a newly assigned resource and removes its CLEARING mark. -/
def execClearingComplete (r : Resource) (s : State) : Host.Outcome State Fault Refusal :=
  s.act (fun d => clearedResource d r)

/-- BOOST_ENABLE_WRITE (R568): A write of BOOST_ENABLE; writing 0 ends a grant at once without notice. -/
def execBoostEnableWrite (who : Principal) (k : Fin 16) (v : Bool) (s : State) : Host.Outcome State Fault Refusal :=
  s.act (fun d => entryWrite d who (0x30B0 + 0x100 * k) 2 (boolNat v))

/-- POWER_EVALUATION (R569): every EVAL_BEATS, the power manager forms the pool, withdraws and grants OP-B. -/
def execPowerEvaluation (pm : Nat) (tj : Int) (sensor : Fin 92) (th : Int)
    (s : State) : Host.Outcome State Fault Refusal :=
  s.act (fun d => powerEvaluation d pm tj sensor th)

/-- GRANT_BIT_FALL (R570): 64 beats after a withdrawal, the grant bit becomes 0. -/
def execGrantBitFall (k : Fin 16) (s : State) : Host.Outcome State Fault Refusal :=
  s.act (fun d => grantBitFall d k)

/-- FUSE_REQUEST (R574): host admin names a group of a stopped partition as a fusing candidate. -/
def execFuseRequest (who : Principal) (g : BitVec 8) (s : State) : Host.Outcome State Fault Refusal :=
  s.act (fun d => entryWrite d who 0x1030 10 g.toNat)

/-- FIELD_FUSE_PROGRAM (R574): within 20 ms of a candidate, firmware programs the group's field-fuse bit. -/
def execFieldFuseProgram (g : Fin 84) (s : State) : Host.Outcome State Fault Refusal :=
  .next (s.programFuse g)

/-- THERMTRIP (R681): A junction at 115 °C or a failed sensor asserts THERMTRIP_N in hardware. -/
def execThermtrip (tj : Option Int) (s : State) : Host.Outcome State Fault Refusal :=
  s.act (fun d => thermtrip d tj)

end Sys2Proof.Machine
end

