-- ==== Sys2Proof/Machine/CmdReport.lean ====
section
/-!
DEFINITION. The meaning of each command. Errors and the dump (22).
-/
namespace Sys2Proof.Machine

/-- ERROR_HANDLING (R644): firmware handles the next pending log entry: ring posts, health causes, and a dump for
device-fatal. -/
def execErrorHandling (s : State) : Host.Outcome State Fault Refusal :=
  s.act (fun d => errorHandling d)

/-- FATAL_LINK_DISABLE (R640): within 1 ms of a device-fatal error, firmware writes 0 to LINK_ENABLE of every link. -/
def execFatalLinkDisable (l : Fin 64) (s : State) : Host.Outcome State Fault Refusal :=
  s.act (fun d => fatalLinkDisable d l)

/-- DUMP_FETCH (R655): copies part of the dump or the last-gasp record into a bulk window. -/
def execDumpFetch (f : Fin 17) (s : State) : Host.Outcome State Fault Refusal :=
  s.act (fun d => hostCommand d f 0x0600 dumpFetch)

/-- DUMP_COMPLETE (R653): firmware finishes writing the dump sections and its header. -/
def execDumpComplete (s : State) : Host.Outcome State Fault Refusal :=
  s.act (fun d => dumpComplete d)

/-- LG_CLEAR (R650): sets LG_VALID to 0 and zeroes the last-gasp area. -/
def execLgClear (who : Principal) (s : State) : Host.Outcome State Fault Refusal :=
  s.act (fun d => entryWrite d who 0x6013 0x23 1)

end Sys2Proof.Machine
end

