-- ==== Sys2Proof/Machine/CmdServing.lean ====
section
/-!
DEFINITION. The meaning of each command. Token selection (15).
-/
namespace Sys2Proof.Machine

/-- CONFIG (R447): the serving configuration record is checked and installed or staged. -/
def execConfig (f : Fin 17) (s : State) : Host.Outcome State Fault Refusal :=
  s.act (fun d => hostCommand d f 0x0300 serveConfig)

/-- GRAMMAR_WRITE (R446): writes bytes of a grammar image into the grammar store. -/
def execGrammarWrite (f : Fin 17) (s : State) : Host.Outcome State Fault Refusal :=
  s.act (fun d => hostCommand d f 0x0301 grammarWrite)

/-- GRAMMAR_COMMIT (R464): checks and commits a grammar slot, or frees it with length 0. -/
def execGrammarCommit (f : Fin 17) (s : State) : Host.Outcome State Fault Refusal :=
  s.act (fun d => hostCommand d f 0x0302 grammarCommit)

/-- REQUEST (R445): queues a new conversation with its input, sampling and grammar fields. -/
def execRequest (f : Fin 17) (s : State) : Host.Outcome State Fault Refusal :=
  s.act (fun d => hostCommand d f 0x0303 serveRequest)

/-- RESUME (R473): queues the resumption of a parked batt and pins it. -/
def execResume (f : Fin 17) (s : State) : Host.Outcome State Fault Refusal :=
  s.act (fun d => hostCommand d f 0x0304 serveResume)

/-- PARK (R471): queues the parking of a decoding sequence into a batt. -/
def execPark (f : Fin 17) (s : State) : Host.Outcome State Fault Refusal :=
  s.act (fun d => hostCommand d f 0x0305 servePark)

/-- CANCEL (R475): queues the end of a queued request, sequence or batt. -/
def execCancel (f : Fin 17) (s : State) : Host.Outcome State Fault Refusal :=
  s.act (fun d => hostCommand d f 0x0306 serveCancel)

/-- INITIAL_PASS (R450): at PBC 0, the token-selection unit composes the map of the first serving step. -/
def execInitialPass (k : Fin 16) (s : State) : Host.Outcome State Fault Refusal :=
  s.act (fun d => initialPass d k)

/-- DRAFT_PASS (R458): at F + PASS_AT[k − 1], the unit makes draft selections and writes them into the map. -/
def execDraftPass (k : Fin 16) (draft : Nat) (s : State) : Host.Outcome State Fault Refusal :=
  s.act (fun d => draftPassRow d k draft)

/-- FINAL_PASS (R451): at F + PASS_AT[G], the unit verifies drafts, ends sequences and composes the next map. -/
def execFinalPass (k : Fin 16) (s : State) : Host.Outcome State Fault Refusal :=
  s.act (fun d => finalPass d k)

/-- PASS_COMPLETE (R454): when every write of a pass is complete, SIGNAL_J of the row-map tiles increments and any
queued pass starts. -/
def execPassComplete (k : Fin 16) (s : State) : Host.Outcome State Fault Refusal :=
  s.act (fun d => passComplete d k)

/-- PARK_COMPLETE (R471): when the park moves complete, pages are freed, the batt is recorded and PARKED is reported.
-/
def execParkComplete (k : Fin 16) (e : Fin 512) (s : State) : Host.Outcome State Fault Refusal :=
  s.act (fun d => parkComplete d k e)

/-- RESUME_COMPLETE (R474): when resume moves complete, a matching digest enters PREFILL and a mismatch reports
RESUME_FAILED. -/
def execResumeComplete (k : Fin 16) (e : Fin 512) (s : State) : Host.Outcome State Fault Refusal :=
  s.act (fun d => resumeComplete d k e)

/-- END_DIGEST_COMPLETE (R472): the end digest of an ENDING sequence completes and the sequence enters ENDED. -/
def execEndDigestComplete (k : Fin 16) (e : Fin 512) (s : State) : Host.Outcome State Fault Refusal :=
  s.act (fun d => endDigestComplete d k e)

end Sys2Proof.Machine
end

