-- ==== Sys2Proof/Machine/CmdStart.lean ====
section
/-!
DEFINITION. The meaning of each command. Start-up, device reset, pins and the test port (20, 23).
-/
namespace Sys2Proof.Machine

/-- DEVICE_RESET_KEY (R602): writing the reset key to HI_DEVICE_RESET restarts the whole device. -/
def execDeviceResetKey (f : Fin 17) (v : BitVec 32) (s : State) : Host.Outcome State Fault Refusal :=
  s.act (fun d => deviceResetKey d f v.toNat)

/-- DEVICE_RESET (R677): PWRGD or RESET_N low puts the device in device reset. -/
def execDeviceReset (pwrgd resetN : Bool) (s : State) : Host.Outcome State Fault Refusal :=
  s.act (fun d => deviceResetPins d pwrgd resetN)

/-- FW_SEGMENT (R604): A packet of the firmware-image stream is copied into ND0 firmware memory. -/
def execFwSegment (f : Fin 17) (s : State) : Host.Outcome State Fault Refusal :=
  s.act (fun d => hostCommand d f 0x0010 fwSegment)

/-- FW_START (R605): verifies the firmware image and enters FW_INIT, or records a cause and returns to WAIT_FW. -/
def execFwStart (f : Fin 17) (s : State) : Host.Outcome State Fault Refusal :=
  s.act (fun d => hostCommand d f 0x0011 fwStart)

/-- BOOT_ROM (R576): at reset release, the boot ROM reads the fuses, fixes the grade and brings up PCIe. -/
def execBootRom (slot : Fin 8) (s : State) : Host.Outcome State Fault Refusal :=
  .next (s.boot slot)

/-- FW_INIT_DONE (R603): firmware initialisation finishes and the device enters MEM_TRAIN. -/
def execFwInitDone (s : State) : Host.Outcome State Fault Refusal :=
  s.act (fun d => fwInitDone d)

/-- MEM_TRAIN_DONE (R276): memory training finishes with CAP_CHANNEL_GIB set, or start-up fails. -/
def execMemTrainDone (hbm : Bool) (cap : List (Option Nat)) (hbmStacks : List (Nat × Bytes))
    (s : State) : Host.Outcome State Fault Refusal :=
  s.act (fun d => memTrainDone d hbm cap hbmStacks)

/-- LINK_TRAIN_DONE (R606): LINK_TRAIN ends when every enabled link is UP or DOWN or LINK_WAIT passes. -/
def execLinkTrainDone (s : State) : Host.Outcome State Fault Refusal :=
  s.act (fun d => linkTrainDone d)

/-- SELFTEST_DONE (R607): the checker self-test passes and the device becomes READY, or start-up fails. -/
def execSelftestDone (fails : List (Nat × Nat)) (s : State) : Host.Outcome State Fault Refusal :=
  s.act (fun d => selftestDone d fails)

/-- TAP_INSTRUCTION (R682): A JTAG instruction takes effect, or acts as BYPASS unless RESET_N is low. -/
def execTapInstruction (j : TapInstr) (s : State) : Host.Outcome State Fault Refusal :=
  s.act (fun d => tapInstruction d j)

/-- REFCLK_RETURN (R45): when REFCLK returns after a loss, beat edges resume and BC counts on from its stopped value
while the device stays device-fatal. -/
def execRefclkReturn (s : State) : Host.Outcome State Fault Refusal :=
  s.act (fun d => refclkReturn d)

/-- THERMTRIP_RELEASE (R681): THERMTRIP_N is released once PWRGD is low and every junction sensor reads below 95 °C.
-/
def execThermtripRelease (tj : Int) (s : State) : Host.Outcome State Fault Refusal :=
  s.act (fun d => thermtripRelease d tj)

/-- VDD_AUX_LOSS (R673): loss of VDD_AUX unpowers the always-on domain, and the last-gasp record in ND0 SRAM no longer
survives. -/
def execVddAuxLoss (s : State) : Host.Outcome State Fault Refusal :=
  s.act (fun d => vddAuxLoss d)

/-- VERIFY_DONE (R605): firmware-image verification ends within 50 ms, entering FW_INIT on success or recording
FAIL_CAUSE and returning to WAIT_FW. -/
def execVerifyDone (s : State) : Host.Outcome State Fault Refusal :=
  s.act (fun d => verifyDone d)

end Sys2Proof.Machine
end

