-- ==== Sys2Proof/Machine/CmdSync.lean ====
section
/-!
DEFINITION. The meaning of each command. Barriers and the bow (14).
-/
namespace Sys2Proof.Machine

/-- BARRIER_ENTRY (R414): A barrier entry reaches the barrier unit and counts in a slot, or is an overrun or mismatch.
-/
def execBarrierEntry (t : Fin 672) (s : State) : Host.Outcome State Fault Refusal :=
  s.act (fun d => barrierEntry d t)

/-- BAR_REPORT (R416): A child's BAR_REPORT is recorded, and the round may become locally complete. -/
def execBarReport (s : State) : Host.Outcome State Fault Refusal :=
  s.act (fun d => barReport d)

/-- BAR_DONE (R417): BAR_DONE completes the round locally and is forwarded to children. -/
def execBarDone (s : State) : Host.Outcome State Fault Refusal :=
  s.act (fun d => barDone d)

/-- BARRIER_ENTER (R419): A host command enters a barrier round as one local entry. -/
def execBarrierEnter (f : Fin 17) (s : State) : Host.Outcome State Fault Refusal :=
  s.act (fun d => hostCommand d f 0x0221 barrierEnterCommand)

/-- BARRIER_WATCH (R419): A host command watches a barrier round for a completion ring entry. -/
def execBarrierWatch (f : Fin 17) (s : State) : Host.Outcome State Fault Refusal :=
  s.act (fun d => hostCommand d f 0x0222 barrierWatchCommand)

/-- BOW_START (R435): A host command at the crown starts the bow if the crown is ready. -/
def execBowStart (f : Fin 17) (s : State) : Host.Outcome State Fault Refusal :=
  s.act (fun d => hostCommand d f 0x0220 bowStartCommand)

/-- BOW (R436): A received BOW is tested and forwarded to the children with their ACK_BY. -/
def execBow (s : State) : Host.Outcome State Fault Refusal :=
  s.act (fun d => bowMessage d)

/-- BOW_ACK (R437): A child's BOW_ACK is recorded; OK or FAIL is passed up or decided at the crown. -/
def execBowAck (s : State) : Host.Outcome State Fault Refusal :=
  s.act (fun d => bowAck d)

/-- BOW_ACK_DEADLINE (R437): at ACK_BY, or at A for the crown, a still-silent child yields FAIL or ABORT. -/
def execBowAckDeadline (k : Fin 16) (s : State) : Host.Outcome State Fault Refusal :=
  s.act (fun d => bowAckDeadline d k)

/-- START (R439): A START message is forwarded; one acted on at or after BC0 is job-fatal. -/
def execStart (s : State) : Host.Outcome State Fault Refusal :=
  s.act (fun d => startMessage d)

/-- BOW_START_EDGE (R439): at the edge where BC becomes BC0, PBC becomes 0 and the plan's first stint begins. -/
def execBowStartEdge (k : Fin 16) (s : State) : Host.Outcome State Fault Refusal :=
  s.act (fun d => bowStartEdge d k)

/-- ABORT (R440): an ABORT is forwarded, the partition stays stopped, and a BOW ring entry is posted. -/
def execAbort (s : State) : Host.Outcome State Fault Refusal :=
  s.act (fun d => abortMessage d)

end Sys2Proof.Machine
end

