-- ==== Sys2Proof/Machine/CmdTime.lean ====
section
/-!
DEFINITION. The meaning of each command. Beat and plan time (02): the timebase, plan time, region stops, votes, and
COUNTERS_CLEAR.
-/
namespace Sys2Proof.Machine

/-- NEXT_EPOCH_WRITE (R43): A write of NEXT_EPOCH arms an UNSYNCED device, replaces the value in ARMED, sets the
expected epoch in SYNCED, or is refused in LOST. -/
def execNextEpochWrite (who : Principal) (v : BitVec 64) (s : State) : Host.Outcome State Fault Refusal :=
  s.act (fun d => entryWrite d who 0x2010 2 v.toNat)

/-- RESYNC (R44): A write of 1 to RESYNC, accepted only with every partition stopped, moves the device to UNSYNCED and
clears the sync counters. -/
def execResync (who : Principal) (s : State) : Host.Outcome State Fault Refusal :=
  s.act (fun d => entryWrite d who 0x2010 6 1)

/-- EPOCH_EDGE (R43): the first REFCLK edge at which SYNC_N is sampled low; its effect depends on the synchronisation
state. -/
def execEpochEdge (edges : Nat) (s : State) : Host.Outcome State Fault Refusal :=
  s.act (fun d => epochEdge d edges)

/-- EPOCH_WRAP (R42): BC[19:0] wraps to 0 with no SYNC_N pulse; SYNC_MISSED increments and a corrected error is
logged. -/
def execEpochWrap (s : State) : Host.Outcome State Fault Refusal :=
  s.act (fun d => epochWrap d)

/-- REFCLK_LOSS (R45): REFCLK absent for more than 8 periods raises a device-fatal error and BC stops. -/
def execRefclkLoss (s : State) : Host.Outcome State Fault Refusal :=
  s.act (fun d => refclkLoss d)

/-- STINT_BOUNDARY (R52): the boundary edge of a stint: PBC advances and every tile begins the next stint, or the
partition slips. -/
def execStintBoundary (k : Fin 16) (s : State) : Host.Outcome State Fault Refusal :=
  s.act (fun d => stintBoundary d k)

/-- SLIP_END (R55): two edges after a done-tree sample that includes every tile, PBC becomes S + L and the next stint
begins. -/
def execSlipEnd (k : Fin 16) (s : State) : Host.Outcome State Fault Refusal :=
  s.act (fun d => slipEnd d k)

/-- TRANSFER_DEADLINE (R57): at the edge where the receiver's PBC becomes A + W with the transfer not landed, the
device asserts a hold. -/
def execTransferDeadline (k : Fin 16) (s : State) : Host.Outcome State Fault Refusal :=
  s.act (fun d => transferDeadline d k)

/-- HOLD_NOTICE (R59): A received hold notice is acted on, forwarded once, or discarded as a duplicate or stale
serial. -/
def execHoldNotice (s : State) : Host.Outcome State Fault Refusal :=
  s.act (fun d => holdNotice d)

/-- FREEZE (R60): at the edge where PBC becomes the hold point, the partition freezes its control cores, engines and
planned slots. -/
def execFreeze (k : Fin 16) (s : State) : Host.Outcome State Fault Refusal :=
  s.act (fun d => freeze d k)

/-- CLEAR (R411): A CLEAR tree message from a child is recorded; a clear device reports up, and a clear crown
broadcasts RESUME with Bres. -/
def execClear (s : State) : Host.Outcome State Fault Refusal :=
  s.act (fun d => clearMessage d)

/-- TREE_RESUME (R63): A RESUME tree message is acted on, forwarded to children and schedules the release at Bres. -/
def execTreeResume (s : State) : Host.Outcome State Fault Refusal :=
  s.act (fun d => treeResume d)

/-- RESUME_EDGE (R63): at the edge where BC becomes Bres, every device runs beat Ph and the episode serial moves on.
-/
def execResumeEdge (k : Fin 16) (s : State) : Host.Outcome State Fault Refusal :=
  s.act (fun d => resumeEdge d k)

/-- HOLD_LIMIT_EXPIRY (R65): PBC still for more than the hold limit raises a job-fatal error. -/
def execHoldLimitExpiry (k : Fin 16) (s : State) : Host.Outcome State Fault Refusal :=
  s.act (fun d => holdLimit d k)

/-- DECISION_POINT (R68): at the decision PBC, the device samples its grant or staged bit and sends VOTE_UP once its
children have voted. -/
def execDecisionPoint (k : Fin 16) (s : State) : Host.Outcome State Fault Refusal :=
  s.act (fun d => decisionPoint d k)

/-- VOTE_UP (R411): A child's vote is recorded; the crown combines votes with AND and sends VOTE_DOWN. -/
def execVoteUp (s : State) : Host.Outcome State Fault Refusal :=
  s.act (fun d => voteUp d)

/-- VOTE_DOWN (R411): the vote result is recorded and forwarded to the children. -/
def execVoteDown (s : State) : Host.Outcome State Fault Refusal :=
  s.act (fun d => voteDown d)

/-- REGION_STOP (R67): A 64-beat region stop begins: no planned cycle, OP_CURRENT changes, and the step counter
advances. -/
def execRegionStop (k : Fin 16) (s : State) : Host.Outcome State Fault Refusal :=
  s.act (fun d => regionStop d k)

/-- REGION_STOP_LOCK_CHECK (R94): A region not locked by beat 40, or with more than 8 trips in beats 40 to 55, raises
a contained error. -/
def execRegionStopLockCheck (t : Fin 672) (locked : Bool) (s : State) : Host.Outcome State Fault Refusal :=
  s.act (fun d => regionStopLockCheck d t locked)

/-- DECISION_WORD (R315): in beat 56 of a region stop, the device lands the decision word in every enabled tile of the
partition. -/
def execDecisionWord (k : Fin 16) (s : State) : Host.Outcome State Fault Refusal :=
  s.act (fun d => decisionWord d k)

/-- REGION_STOP_END (R92): at the edge ending the region stop, the generators enter planned mode and the step begins.
-/
def execRegionStopEnd (k : Fin 16) (s : State) : Host.Outcome State Fault Refusal :=
  s.act (fun d => regionStopEnd d k)

/-- COUNTERS_CLEAR (R73): A write of 1 to a COUNTERS_CLEAR entry clears the counters that entry names. -/
def execCountersClear (who : Principal) (ix : BitVec 16) (s : State) : Host.Outcome State Fault Refusal :=
  s.act (fun d => countersClearWrite d who ix.toNat)

end Sys2Proof.Machine
end

