-- ==== Sys2Proof/Machine/CmdWeight.lean ====
section
/-!
DEFINITION. The meaning of each command. Weight batches (16).
-/
namespace Sys2Proof.Machine

/-- WCONFIG (R482): checks and installs the weight-batch region tables and pointer-word settings. -/
def execWconfig (f : Fin 17) (s : State) : Host.Outcome State Fault Refusal :=
  s.act (fun d => hostCommand d f 0x0400 wConfig)

/-- WMANIFEST (R486): stores manifest bytes; at the last byte firmware checks layout, key and signature. -/
def execWmanifest (f : Fin 17) (s : State) : Host.Outcome State Fault Refusal :=
  s.act (fun d => hostCommand d f 0x0401 wManifest)

/-- WDATA (R489): writes chunk payload in order and extends the chunk's hash. -/
def execWdata (f : Fin 17) (s : State) : Host.Outcome State Fault Refusal :=
  s.act (fun d => hostCommand d f 0x0402 wData)

/-- WMIRROR (R491): the partner sends a batch's chunks to a destination device as WRITE_C packets. -/
def execWmirror (f : Fin 17) (s : State) : Host.Outcome State Fault Refusal :=
  s.act (fun d => hostCommand d f 0x0403 wMirror)

/-- WCLEAR (R494): sets a RECEIVING or READY batch to EMPTY. -/
def execWclear (f : Fin 17) (s : State) : Host.Outcome State Fault Refusal :=
  s.act (fun d => hostCommand d f 0x0404 wClear)

/-- WARM (R496): arms a READY batch to become live at a region stop at or after Pw. -/
def execWarm (f : Fin 17) (s : State) : Host.Outcome State Fault Refusal :=
  s.act (fun d => hostCommand d f 0x0405 wArm)

/-- WDISARM (R498): returns an ARMED batch to READY. -/
def execWdisarm (f : Fin 17) (s : State) : Host.Outcome State Fault Refusal :=
  s.act (fun d => hostCommand d f 0x0406 wDisarm)

/-- PUB_KEY_WRITE (R487): host admin writes a publisher key entry, refused if the point is not on the curve. -/
def execPubKeyWrite (who : Principal) (k n : Fin 16) (key : BitVec 768) (s : State) : Host.Outcome State Fault Refusal :=
  s.act (fun d => entryWrite d who (0x3080 + 0x100 * k) (n + 1) key.toNat)

end Sys2Proof.Machine
end

