-- ==== Sys2Proof/Machine/Dispatch.lean ====
section
/-!
DEFINITION. One arm for each command: a direct call of its meaning.
-/
namespace Sys2Proof.Machine

def exec (i : Instr) (s : State) : Host.Outcome State Fault Refusal :=
  match i with
  | .nextEpochWrite who v => Sys2Proof.Machine.execNextEpochWrite who v s
  | .resync who => Sys2Proof.Machine.execResync who s
  | .epochEdge edges => Sys2Proof.Machine.execEpochEdge edges s
  | .epochWrap => Sys2Proof.Machine.execEpochWrap s
  | .refclkLoss => Sys2Proof.Machine.execRefclkLoss s
  | .stintBoundary k => Sys2Proof.Machine.execStintBoundary k s
  | .slipEnd k => Sys2Proof.Machine.execSlipEnd k s
  | .transferDeadline k => Sys2Proof.Machine.execTransferDeadline k s
  | .holdNotice => Sys2Proof.Machine.execHoldNotice s
  | .freeze k => Sys2Proof.Machine.execFreeze k s
  | .clear => Sys2Proof.Machine.execClear s
  | .treeResume => Sys2Proof.Machine.execTreeResume s
  | .resumeEdge k => Sys2Proof.Machine.execResumeEdge k s
  | .holdLimitExpiry k => Sys2Proof.Machine.execHoldLimitExpiry k s
  | .decisionPoint k => Sys2Proof.Machine.execDecisionPoint k s
  | .voteUp => Sys2Proof.Machine.execVoteUp s
  | .voteDown => Sys2Proof.Machine.execVoteDown s
  | .regionStop k => Sys2Proof.Machine.execRegionStop k s
  | .regionStopLockCheck t locked => Sys2Proof.Machine.execRegionStopLockCheck t locked s
  | .decisionWord k => Sys2Proof.Machine.execDecisionWord k s
  | .regionStopEnd k => Sys2Proof.Machine.execRegionStopEnd k s
  | .countersClear who ix => Sys2Proof.Machine.execCountersClear who ix s
  | .droop t eighths periods => Sys2Proof.Machine.execDroop t eighths periods s
  | .deficitLimit t => Sys2Proof.Machine.execDeficitLimit t s
  | .jitterTrip t ps => Sys2Proof.Machine.execJitterTrip t ps s
  | .dutyTrip t permille => Sys2Proof.Machine.execDutyTrip t permille s
  | .lossOfLock t errs => Sys2Proof.Machine.execLossOfLock t errs s
  | .crossingForward t port => Sys2Proof.Machine.execCrossingForward t port s
  | .readWait t port => Sys2Proof.Machine.execReadWait t port s
  | .writeWait t => Sys2Proof.Machine.execWriteWait t s
  | .add t g a b x => Sys2Proof.Machine.execAdd t g a b x s
  | .sub t g a b x => Sys2Proof.Machine.execSub t g a b x s
  | .mul t g a b x => Sys2Proof.Machine.execMul t g a b x s
  | .and t g a b x => Sys2Proof.Machine.execAnd t g a b x s
  | .or t g a b x => Sys2Proof.Machine.execOr t g a b x s
  | .xor t g a b x => Sys2Proof.Machine.execXor t g a b x s
  | .shl t g a b x => Sys2Proof.Machine.execShl t g a b x s
  | .shr t g a b x => Sys2Proof.Machine.execShr t g a b x s
  | .sar t g a b x => Sys2Proof.Machine.execSar t g a b x s
  | .set t g a v => Sys2Proof.Machine.execSet t g a v s
  | .cmpEq t g n a x => Sys2Proof.Machine.execCmpEq t g n a x s
  | .cmpNe t g n a x => Sys2Proof.Machine.execCmpNe t g n a x s
  | .cmpLt t g n a x => Sys2Proof.Machine.execCmpLt t g n a x s
  | .cmpLtu t g n a x => Sys2Proof.Machine.execCmpLtu t g n a x s
  | .cmpGe t g n a x => Sys2Proof.Machine.execCmpGe t g n a x s
  | .cmpGeu t g n a x => Sys2Proof.Machine.execCmpGeu t g n a x s
  | .pand t g n m k => Sys2Proof.Machine.execPand t g n m k s
  | .por t g n m k => Sys2Proof.Machine.execPor t g n m k s
  | .pnot t g n m => Sys2Proof.Machine.execPnot t g n m s
  | .pset t g n k => Sys2Proof.Machine.execPset t g n k s
  | .cset t g a x => Sys2Proof.Machine.execCset t g a x s
  | .cadd t g a b x => Sys2Proof.Machine.execCadd t g a b x s
  | .dbnz t g a target => Sys2Proof.Machine.execDbnz t g a target s
  | .cmov t g a b => Sys2Proof.Machine.execCmov t g a b s
  | .cmovh t g a b => Sys2Proof.Machine.execCmovh t g a b s
  | .kset t g n src rel ref => Sys2Proof.Machine.execKset t g n src rel ref s
  | .br t g target => Sys2Proof.Machine.execBr t g target s
  | .brP t g n neg target => Sys2Proof.Machine.execBrP t g n neg target s
  | .brK t g n target => Sys2Proof.Machine.execBrK t g n target s
  | .call t g target => Sys2Proof.Machine.execCall t g target s
  | .ret t g => Sys2Proof.Machine.execRet t g s
  | .rdSys t g a code => Sys2Proof.Machine.execRdSys t g a code s
  | .ldB t g a b off due => Sys2Proof.Machine.execLdB t g a b off due s
  | .ldH t g a b off due => Sys2Proof.Machine.execLdH t g a b off due s
  | .ldW t g a b off due => Sys2Proof.Machine.execLdW t g a b off due s
  | .ldD t g a b off due => Sys2Proof.Machine.execLdD t g a b off due s
  | .stB t g a b off due => Sys2Proof.Machine.execStB t g a b off due s
  | .stH t g a b off due => Sys2Proof.Machine.execStH t g a b off due s
  | .stW t g a b off due => Sys2Proof.Machine.execStW t g a b off due s
  | .stD t g a b off due => Sys2Proof.Machine.execStD t g a b off due s
  | .issue t g e slot adj due => Sys2Proof.Machine.execIssue t g e slot adj due s
  | .queueFullStall t e => Sys2Proof.Machine.execQueueFullStall t e s
  | .pace t g due => Sys2Proof.Machine.execPace t g due s
  | .waitMq t g n b due => Sys2Proof.Machine.execWaitMq t g n b due s
  | .waitSig t g j b due => Sys2Proof.Machine.execWaitSig t g j b due s
  | .waitMbx t g due => Sys2Proof.Machine.execWaitMbx t g due s
  | .waitCompletion t kind => Sys2Proof.Machine.execWaitCompletion t kind s
  | .stintEnd t g due => Sys2Proof.Machine.execStintEnd t g due s
  | .stintNap t g due a b => Sys2Proof.Machine.execStintNap t g due a b s
  | .tileWake t => Sys2Proof.Machine.execTileWake t s
  | .wakeSelfCheck t locked => Sys2Proof.Machine.execWakeSelfCheck t locked s
  | .tileRejoin t => Sys2Proof.Machine.execTileRejoin t s
  | .landingWrite t => Sys2Proof.Machine.execLandingWrite t s
  | .cgMm t => Sys2Proof.Machine.execCgMm t s
  | .vuEw t => Sys2Proof.Machine.execVuEw t s
  | .vuRed t => Sys2Proof.Machine.execVuRed t s
  | .vuQuant t => Sys2Proof.Machine.execVuQuant t s
  | .vuChk t => Sys2Proof.Machine.execVuChk t s
  | .vuStow t => Sys2Proof.Machine.execVuStow t s
  | .vuJoin t => Sys2Proof.Machine.execVuJoin t s
  | .vuFin t => Sys2Proof.Machine.execVuFin t s
  | .sfuFn t => Sys2Proof.Machine.execSfuFn t s
  | .ixGather t => Sys2Proof.Machine.execIxGather t s
  | .ixScatter t => Sys2Proof.Machine.execIxScatter t s
  | .ixSegred t => Sys2Proof.Machine.execIxSegred t s
  | .mvCopy t => Sys2Proof.Machine.execMvCopy t s
  | .mvSend t => Sys2Proof.Machine.execMvSend t s
  | .mvLand t => Sys2Proof.Machine.execMvLand t s
  | .mvMqRead t => Sys2Proof.Machine.execMvMqRead t s
  | .mvMqWrite t => Sys2Proof.Machine.execMvMqWrite t s
  | .mvMqGather t => Sys2Proof.Machine.execMvMqGather t s
  | .mvMqScatter t => Sys2Proof.Machine.execMvMqScatter t s
  | .mvMqMove t => Sys2Proof.Machine.execMvMqMove t s
  | .mqFullWait t channel => Sys2Proof.Machine.execMqFullWait t channel s
  | .mvLinkPlanned t => Sys2Proof.Machine.execMvLinkPlanned t s
  | .mvLinkWrite t => Sys2Proof.Machine.execMvLinkWrite t s
  | .mvLinkWriteC t => Sys2Proof.Machine.execMvLinkWriteC t s
  | .mvLinkRead t => Sys2Proof.Machine.execMvLinkRead t s
  | .mvLinkBarrier t => Sys2Proof.Machine.execMvLinkBarrier t s
  | .mvLinkSignal t => Sys2Proof.Machine.execMvLinkSignal t s
  | .mvLinkNotice t => Sys2Proof.Machine.execMvLinkNotice t s
  | .mvImem t => Sys2Proof.Machine.execMvImem t s
  | .dgOpen t => Sys2Proof.Machine.execDgOpen t s
  | .dgScan t => Sys2Proof.Machine.execDgScan t s
  | .dgTake t => Sys2Proof.Machine.execDgTake t s
  | .fuLoad t => Sys2Proof.Machine.execFuLoad t s
  | .fuFeat t => Sys2Proof.Machine.execFuFeat t s
  | .fuEval t => Sys2Proof.Machine.execFuEval t s
  | .fuNsample t => Sys2Proof.Machine.execFuNsample t s
  | .channelSlot c => Sys2Proof.Machine.execChannelSlot c s
  | .pageDecode c => Sys2Proof.Machine.execPageDecode c s
  | .mqCompletion t n => Sys2Proof.Machine.execMqCompletion t n s
  | .scrub f => Sys2Proof.Machine.execScrub f s
  | .scrubComplete => Sys2Proof.Machine.execScrubComplete s
  | .injectArm who => Sys2Proof.Machine.execInjectArm who s
  | .planImage f => Sys2Proof.Machine.execPlanImage f s
  | .planAbort f => Sys2Proof.Machine.execPlanAbort f s
  | .successorStage k => Sys2Proof.Machine.execSuccessorStage k s
  | .linkEnableWrite who l v => Sys2Proof.Machine.execLinkEnableWrite who l v s
  | .detectLock l => Sys2Proof.Machine.execDetectLock l s
  | .trainingFrame l frame report => Sys2Proof.Machine.execTrainingFrame l frame report s
  | .trainTimeout l => Sys2Proof.Machine.execTrainTimeout l s
  | .measureComplete l far => Sys2Proof.Machine.execMeasureComplete l far s
  | .remeasure who l => Sys2Proof.Machine.execRemeasure who l s
  | .flitTransmit l sub => Sys2Proof.Machine.execFlitTransmit l sub s
  | .flitReceive l sub flit shared errors => Sys2Proof.Machine.execFlitReceive l sub flit shared errors s
  | .replayTimeout l => Sys2Proof.Machine.execReplayTimeout l s
  | .laneLockLoss l => Sys2Proof.Machine.execLaneLockLoss l s
  | .stallTimeout l => Sys2Proof.Machine.execStallTimeout l s
  | .linkRetrain l => Sys2Proof.Machine.execLinkRetrain l s
  | .respTimeout die ix => Sys2Proof.Machine.execRespTimeout die ix s
  | .bePacketInject t => Sys2Proof.Machine.execBePacketInject t s
  | .plannedEnqueue l => Sys2Proof.Machine.execPlannedEnqueue l s
  | .plannedForward id => Sys2Proof.Machine.execPlannedForward id s
  | .plannedPacketArrival id => Sys2Proof.Machine.execPlannedPacketArrival id s
  | .beForward id => Sys2Proof.Machine.execBeForward id s
  | .creditSend l vc => Sys2Proof.Machine.execCreditSend l vc s
  | .write id => Sys2Proof.Machine.execWrite id s
  | .writeC id => Sys2Proof.Machine.execWriteC id s
  | .read id => Sys2Proof.Machine.execRead id s
  | .response id => Sys2Proof.Machine.execResponse id s
  | .notice id => Sys2Proof.Machine.execNotice id s
  | .noticeRetry die ix => Sys2Proof.Machine.execNoticeRetry die ix s
  | .signal id => Sys2Proof.Machine.execSignal id s
  | .remoteWriteComplete id => Sys2Proof.Machine.execRemoteWriteComplete id s
  | .signalRelease id => Sys2Proof.Machine.execSignalRelease id s
  | .mgmt id => Sys2Proof.Machine.execMgmt id s
  | .staleDrop id => Sys2Proof.Machine.execStaleDrop id s
  | .anchorChange l => Sys2Proof.Machine.execAnchorChange l s
  | .fenceTagWrite who k tag => Sys2Proof.Machine.execFenceTagWrite who k tag s
  | .tagCooldownExpiry tag => Sys2Proof.Machine.execTagCooldownExpiry tag s
  | .linkRecheck l => Sys2Proof.Machine.execLinkRecheck l s
  | .barrierEntry t => Sys2Proof.Machine.execBarrierEntry t s
  | .barReport => Sys2Proof.Machine.execBarReport s
  | .barDone => Sys2Proof.Machine.execBarDone s
  | .barrierEnter f => Sys2Proof.Machine.execBarrierEnter f s
  | .barrierWatch f => Sys2Proof.Machine.execBarrierWatch f s
  | .bowStart f => Sys2Proof.Machine.execBowStart f s
  | .bow => Sys2Proof.Machine.execBow s
  | .bowAck => Sys2Proof.Machine.execBowAck s
  | .bowAckDeadline k => Sys2Proof.Machine.execBowAckDeadline k s
  | .start => Sys2Proof.Machine.execStart s
  | .bowStartEdge k => Sys2Proof.Machine.execBowStartEdge k s
  | .abort => Sys2Proof.Machine.execAbort s
  | .config f => Sys2Proof.Machine.execConfig f s
  | .grammarWrite f => Sys2Proof.Machine.execGrammarWrite f s
  | .grammarCommit f => Sys2Proof.Machine.execGrammarCommit f s
  | .request f => Sys2Proof.Machine.execRequest f s
  | .resume f => Sys2Proof.Machine.execResume f s
  | .park f => Sys2Proof.Machine.execPark f s
  | .cancel f => Sys2Proof.Machine.execCancel f s
  | .initialPass k => Sys2Proof.Machine.execInitialPass k s
  | .draftPass k draft => Sys2Proof.Machine.execDraftPass k draft s
  | .finalPass k => Sys2Proof.Machine.execFinalPass k s
  | .passComplete k => Sys2Proof.Machine.execPassComplete k s
  | .parkComplete k e => Sys2Proof.Machine.execParkComplete k e s
  | .resumeComplete k e => Sys2Proof.Machine.execResumeComplete k e s
  | .endDigestComplete k e => Sys2Proof.Machine.execEndDigestComplete k e s
  | .wconfig f => Sys2Proof.Machine.execWconfig f s
  | .wmanifest f => Sys2Proof.Machine.execWmanifest f s
  | .wdata f => Sys2Proof.Machine.execWdata f s
  | .wmirror f => Sys2Proof.Machine.execWmirror f s
  | .wclear f => Sys2Proof.Machine.execWclear f s
  | .warm f => Sys2Proof.Machine.execWarm f s
  | .wdisarm f => Sys2Proof.Machine.execWdisarm f s
  | .pubKeyWrite who k n key => Sys2Proof.Machine.execPubKeyWrite who k n key s
  | .runRecord k => Sys2Proof.Machine.execRunRecord k s
  | .cbgOutputRead who => Sys2Proof.Machine.execCbgOutputRead who s
  | .partGroupsWrite who k m => Sys2Proof.Machine.execPartGroupsWrite who k m s
  | .hbmChannelsWrite who k m => Sys2Proof.Machine.execHbmChannelsWrite who k m s
  | .capChannelsWrite who k m => Sys2Proof.Machine.execCapChannelsWrite who k m s
  | .clearingComplete r => Sys2Proof.Machine.execClearingComplete r s
  | .boostEnableWrite who k v => Sys2Proof.Machine.execBoostEnableWrite who k v s
  | .powerEvaluation pm tj sensor th => Sys2Proof.Machine.execPowerEvaluation pm tj sensor th s
  | .grantBitFall k => Sys2Proof.Machine.execGrantBitFall k s
  | .fuseRequest who g => Sys2Proof.Machine.execFuseRequest who g s
  | .fieldFuseProgram g => Sys2Proof.Machine.execFieldFuseProgram g s
  | .thermtrip tj => Sys2Proof.Machine.execThermtrip tj s
  | .sqDoorbell f v packets => Sys2Proof.Machine.execSqDoorbell f v packets s
  | .protoSelectWrite f v => Sys2Proof.Machine.execProtoSelectWrite f v s
  | .ringEnable f r v => Sys2Proof.Machine.execRingEnable f r v s
  | .ringHeadWrite f r v => Sys2Proof.Machine.execRingHeadWrite f r v s
  | .ringDropsRead f r => Sys2Proof.Machine.execRingDropsRead f r s
  | .registerWrite w => Sys2Proof.Machine.execRegisterWrite w s
  | .ringPost f r => Sys2Proof.Machine.execRingPost f r s
  | .interruptHoldoff f r => Sys2Proof.Machine.execInterruptHoldoff f r s
  | .mbxObjectAccess f v => Sys2Proof.Machine.execMbxObjectAccess f v s
  | .mbxNotice f v => Sys2Proof.Machine.execMbxNotice f v s
  | .pcieFundamentalReset => Sys2Proof.Machine.execPcieFundamentalReset s
  | .functionLevelReset f => Sys2Proof.Machine.execFunctionLevelReset f s
  | .pcieLinkLoss => Sys2Proof.Machine.execPcieLinkLoss s
  | .nop f => Sys2Proof.Machine.execNop f s
  | .memWrite f => Sys2Proof.Machine.execMemWrite f s
  | .memRead f => Sys2Proof.Machine.execMemRead f s
  | .jobMap f => Sys2Proof.Machine.execJobMap f s
  | .routeTable f => Sys2Proof.Machine.execRouteTable f s
  | .treeRecord f => Sys2Proof.Machine.execTreeRecord f s
  | .loadParams f => Sys2Proof.Machine.execLoadParams f s
  | .linkMeasures f => Sys2Proof.Machine.execLinkMeasures f s
  | .partStop f => Sys2Proof.Machine.execPartStop f s
  | .partReset f => Sys2Proof.Machine.execPartReset f s
  | .partResetExecute k => Sys2Proof.Machine.execPartResetExecute k s
  | .perstNRelease => Sys2Proof.Machine.execPerstNRelease s
  | .functionLevelResetDone f => Sys2Proof.Machine.execFunctionLevelResetDone f s
  | .configurationRequest w => Sys2Proof.Machine.execConfigurationRequest w s
  | .deviceResetKey f v => Sys2Proof.Machine.execDeviceResetKey f v s
  | .deviceReset pwrgd resetN => Sys2Proof.Machine.execDeviceReset pwrgd resetN s
  | .fwSegment f => Sys2Proof.Machine.execFwSegment f s
  | .fwStart f => Sys2Proof.Machine.execFwStart f s
  | .bootRom slot => Sys2Proof.Machine.execBootRom slot s
  | .fwInitDone => Sys2Proof.Machine.execFwInitDone s
  | .memTrainDone hbm cap hbmStacks => Sys2Proof.Machine.execMemTrainDone hbm cap hbmStacks s
  | .linkTrainDone => Sys2Proof.Machine.execLinkTrainDone s
  | .selftestDone fails => Sys2Proof.Machine.execSelftestDone fails s
  | .tapInstruction j => Sys2Proof.Machine.execTapInstruction j s
  | .refclkReturn => Sys2Proof.Machine.execRefclkReturn s
  | .thermtripRelease tj => Sys2Proof.Machine.execThermtripRelease tj s
  | .vddAuxLoss => Sys2Proof.Machine.execVddAuxLoss s
  | .verifyDone => Sys2Proof.Machine.execVerifyDone s
  | .oapRead p => Sys2Proof.Machine.execOapRead p s
  | .oapWrite p => Sys2Proof.Machine.execOapWrite p s
  | .oapDiscover p => Sys2Proof.Machine.execOapDiscover p s
  | .oapResponseExpiry => Sys2Proof.Machine.execOapResponseExpiry s
  | .deviceIdWrite who v => Sys2Proof.Machine.execDeviceIdWrite who v s
  | .healthEvaluation => Sys2Proof.Machine.execHealthEvaluation s
  | .healthRestore who v => Sys2Proof.Machine.execHealthRestore who v s
  | .errorHandling => Sys2Proof.Machine.execErrorHandling s
  | .fatalLinkDisable l => Sys2Proof.Machine.execFatalLinkDisable l s
  | .dumpFetch f => Sys2Proof.Machine.execDumpFetch f s
  | .dumpComplete => Sys2Proof.Machine.execDumpComplete s
  | .lgClear who => Sys2Proof.Machine.execLgClear who s

end Sys2Proof.Machine
end

