-- ==== Sys2Proof/Safety.lean ====
section
/-!
DEFINITION. What claims rely on: what a step keeps and what can never change.
-/
namespace Sys2Proof.Machine

/-- The identity of a device: everything in its fuses but the field fuses, which alone can be blown in the field (R574,
R576). -/
def Fuses.identity (f : Fuses) : Fuses := { f with fieldFused := 0 }

/-- The fuse elements are those of the device modelled, with some field fuses blown. -/
def State.fuseInv (s : State) : Prop := s.otp.identity = Fuses.shipped.identity ∧ s.otp.fieldFused < 2 ^ 84

/-- No field fuse that was blown before is whole again. -/
def Fuses.keepsBlown (f g : Fuses) : Prop := ∀ i : Nat, bit f.fieldFused i = true → bit g.fieldFused i = true

/-! ### The control core -/

/-- The registers that the program of a control core works with (Table CC-1). -/
def Core.regs (c : Core) : List (BitVec 32) × List (BitVec 48) × List Comparator × List Bool × List Nat × Nat :=
  (c.s, c.c, c.k, c.p, c.stack, c.pc)

/-- The device as the control core of a tile comes to its next instruction: the tile has run as far as it needs no command, and the
period is one in which the core executes an instruction, where there is one in the present beat (R107). -/
def Dev.atPeriod (d : Dev) (t : Nat) : Dev := (toInstruction d t).1

/-- The core of a tile as it comes to its next instruction. -/
def Dev.coreAt (d : Dev) (t : Nat) : Core := ((d.atPeriod t).tile t).core

/-- The core of a tile comes to its next instruction in the present beat, and the word at its program counter is one of its bank,
free of errors, and no illegal word of zeros (R122, R247, R267, R324). -/
def Dev.fetches (d : Dev) (t : Nat) : Prop :=
  let e := d.atPeriod t
  let a := imemAddr t (e.tile t).imemActive (8 * (d.coreAt t).pc)
  (toInstruction d t).2 = true ∧ (d.coreAt t).pc ≤ 8191 ∧ e.faultySpan a 8 = []
    ∧ (leNat (e.bytesAt a 8) = 0 → (d.coreAt t).pc = 0 ∧ (e.tile t).endOnly.getD (e.tile t).imemActive false = true)

/-- The core of a tile is in a period in which it executes an instruction. -/
def Dev.inPeriod (d : Dev) (t : Nat) : Prop :=
  d.coreRuns t = true ∧ (d.tile t).core.rest = false ∧ (d.tile t).core.spare = true

/-- The device in a period that the control core of a tile has not used: the present one, or the next where it begins in the present
beat. -/
def Dev.freePeriod (d : Dev) (t : Nat) : Option Dev :=
  if (d.tile t).core.spare then some d else if (openPeriod d t).2 then some (openPeriod d t).1 else none

/-- Of the whole device only the control core of tile `t` changed. -/
def Dev.onlyCore (d : Dev) (t : Nat) (d' : Dev) : Prop :=
  d' = { d with tiles := d'.tiles } ∧ (∀ u : Nat, u ≠ t → d'.tile u = d.tile u)
    ∧ d'.tile t = { d.tile t with core := (d'.tile t).core }

/-- The tile and guard of an untimed instruction (Table CC-2a). -/
def untimedOf (i : Instr) : Option (Fin 672 × Guard) :=
  match i with
  | .add t g _ _ _ | .sub t g _ _ _ | .mul t g _ _ _ | .and t g _ _ _ | .or t g _ _ _ | .xor t g _ _ _ | .shl t g _ _ _
  | .shr t g _ _ _ | .sar t g _ _ _ | .set t g _ _ | .cmpEq t g _ _ _ | .cmpNe t g _ _ _ | .cmpLt t g _ _ _
  | .cmpLtu t g _ _ _ | .cmpGe t g _ _ _ | .cmpGeu t g _ _ _ | .pand t g _ _ _ | .por t g _ _ _ | .pnot t g _ _
  | .pset t g _ _ | .cset t g _ _ | .cadd t g _ _ _ | .dbnz t g _ _ | .cmov t g _ _ | .cmovh t g _ _
  | .kset t g _ _ _ _ | .br t g _ | .brP t g _ _ _ | .brK t g _ _ | .call t g _ | .ret t g | .rdSys t g _ _ => some (t, g)
  | _ => none

/-- A due cycle that is neither before the one of the timed action before nor past the stint (R105, R252). -/
def Dev.dueInOrder (d : Dev) (t : Nat) (due : Due) : Prop :=
  (d.tile t).core.lastDue ≤ due.value (d.tile t).core ∧ due.value (d.tile t).core < d.stintCycles (d.owner t)

/-- The tile, guard and due cycle of a timed instruction (Table CC-2). -/
def timedOf (i : Instr) : Option (Fin 672 × Guard × Due) :=
  match i with
  | .ldB t g _ _ _ d | .ldH t g _ _ _ d | .ldW t g _ _ _ d | .ldD t g _ _ _ d | .stB t g _ _ _ d | .stH t g _ _ _ d
  | .stW t g _ _ _ d | .stD t g _ _ _ d | .issue t g _ _ _ d | .pace t g d | .waitMq t g _ _ d | .waitSig t g _ _ d
  | .waitMbx t g d | .stintEnd t g d | .stintNap t g d _ _ => some (t, g, d)
  | _ => none

/-! ### Memory -/

/-- The contents of memory, tile stores and instruction memories: what is listed, and the ranges that are lost. -/
def Dev.memory (d : Dev) : List Host.Cell × List LostRange := (d.mem, d.lost)

/-! ### The engines -/

/-- The head entry of an engine's queue is due and names an operation that a row of the table takes. -/
def Dev.meets (d : Dev) (t : Nat) (e : Engine) (mine : Desc → Bool) (q : QEntry) (rest : List QEntry) : Prop :=
  d.tileRuns t = true ∧ (d.tile t).eng.queue e = q :: rest ∧ q.due ≤ (d.tile t).core.cycle
    ∧ (opcodesOf e).contains (Desc.parse q.desc).opcode = true ∧ mine (Desc.parse q.desc) = true

/-- FORM is one the engine has, reserved bits are 0, and the engine is free at the due cycle (R109, R182, R192). -/
def Dev.startable (d : Dev) (t : Nat) (e : Engine) (q : QEntry) : Prop :=
  formOk e (Desc.parse q.desc).form = true ∧ (Desc.parse q.desc).clean = true
    ∧ (occupied e (Desc.parse q.desc).form).any (fun i => q.due < (d.tile t).eng.freeAt.getD i 0) = false

/-- The device without the head entry of an engine's queue. -/
def Dev.takeEntry (d : Dev) (t : Nat) (e : Engine) (rest : List QEntry) : Dev := d.updTile t (·.updEng (·.setQueue e rest))

/-- An operation as a unit carries it out. -/
abbrev UnitOp := Dev → Nat → Flight → Desc → Except OpFault OpOut

/-- What an operation that starts in the cycle in progress does, as far as the store decides it then. -/
def UnitOp.now (op : UnitOp) (d : Dev) (t : Nat) (e : Engine) (q : QEntry) : Except OpFault OpOut :=
  op (flightView d t (d.tile t).core.cycle (Flight.of e q)) t (Flight.of e q) (Desc.parse q.desc)

/-- The crossings hold the lines, and the memory queue has the room, that an operation needs in its first cycle (R89, R288). -/
def Dev.hasNeeds (d : Dev) (t : Nat) (o : OpOut) : Prop :=
  (d.landsReady t (d.tile t).core.cycle [o]).isSome = true ∧ (d.tile t).mq.roomFor (d.tile t).core.cycle o.rows = true

/-- The next cycle of a tile can begin at time `x`: no entry waits, the cycle in progress has ended and has had its periods, the
release cycle lies before it, the memory queue has room, and every line it takes or sends finds its crossing ready by `x`, which
lies in the present beat (R76, R89, R90, R106, R116, R288). -/
def Dev.canBegin (d : Dev) (t : Nat) (r w : Int) : Prop :=
  let y := d.tile t
  let m := y.core.cycle + 1
  let outs := (y.eng.acting m).map (fun f => (f, outAt d t m f))
  y.eng.headDue y.core.cycle = false ∧ y.eng.ended = true ∧ bankPeriods (d.banksUsed t) ≤ y.core.held + 1 ∧ m ≤ y.core.release
    ∧ y.mq.roomFor m (outs.flatMap (·.2.rows)) = true ∧ d.landsReady t m (outs.map (·.2)) = some r
    ∧ d.sendsReady t m outs = some w ∧ max (d.cycleStart t m) (max r w) < beatTime

/-- The row of the table that an engine's operation is: its tile, its engine, the entries it takes, and the operation. -/
def engineRow (i : Instr) : Option (Fin 672 × Engine × (Desc → Bool) × UnitOp) :=
  match i with
  | .cgMm t => some (t, .cg, (fun d => d.opcode == 0x10), cgMm)
  | .vuEw t => some (t, .vu, (fun d => d.opcode == 0x20), vuEw)
  | .vuRed t => some (t, .vu, (fun d => d.opcode == 0x21), vuRed)
  | .vuQuant t => some (t, .vu, (fun d => d.opcode == 0x22), vuQuant)
  | .vuChk t => some (t, .vu, (fun d => d.opcode == 0x23), vuChk)
  | .vuStow t => some (t, .vu, (fun d => d.opcode == 0x24), vuStow)
  | .vuJoin t => some (t, .vu, (fun d => d.opcode == 0x25), vuJoin)
  | .vuFin t => some (t, .vu, (fun d => d.opcode == 0x26), vuFin)
  | .sfuFn t => some (t, .sfu, (fun d => d.opcode == 0x30), sfuFn)
  | .ixGather t => some (t, .ix, (fun d => d.opcode == 0x40), ixGather)
  | .ixScatter t => some (t, .ix, (fun d => d.opcode == 0x41), ixScatter)
  | .ixSegred t => some (t, .ix, (fun d => d.opcode == 0x42), ixSegred)
  | .mvCopy t => some (t, .mv, (fun d => d.opcode == 0x50), mvCopy)
  | .mvSend t => some (t, .mv, (fun d => d.opcode == 0x51), mvSend)
  | .mvLand t => some (t, .mv, (fun d => d.opcode == 0x52), mvLand)
  | .mvMqRead t => some (t, .mv, (fun d => d.opcode == 0x53 && d.p 6 == 0), mvMq)
  | .mvMqWrite t => some (t, .mv, (fun d => d.opcode == 0x53 && d.p 6 == 1), mvMq)
  | .mvMqGather t => some (t, .mv, (fun d => d.opcode == 0x53 && d.p 6 == 2), mvMq)
  | .mvMqScatter t => some (t, .mv, (fun d => d.opcode == 0x53 && d.p 6 == 3), mvMq)
  | .mvMqMove t => some (t, .mv, (fun d => d.opcode == 0x53 && decide (4 ≤ d.p 6)), mvMq)
  | .mvLinkPlanned t => some (t, .mv, (fun d => d.opcode == 0x54 && (d.p 0 == 0 || mvLinkReserved d)), mvLinkPlanned)
  | .mvLinkWrite t => some (t, .mv, (fun d => d.opcode == 0x54 && d.p 0 == 1), mvLinkPacket)
  | .mvLinkWriteC t => some (t, .mv, (fun d => d.opcode == 0x54 && d.p 0 == 2), mvLinkPacket)
  | .mvLinkRead t => some (t, .mv, (fun d => d.opcode == 0x54 && d.p 0 == 3), mvLinkPacket)
  | .mvLinkBarrier t => some (t, .mv, (fun d => d.opcode == 0x54 && d.p 0 == 0x10), mvLinkBarrier)
  | .mvLinkSignal t => some (t, .mv, (fun d => d.opcode == 0x54 && d.p 0 == 0x11), mvLinkSignal)
  | .mvLinkNotice t => some (t, .mv, (fun d => d.opcode == 0x54 && d.p 0 == 0x12), mvLinkNotice)
  | .mvImem t => some (t, .mv, (fun d => d.opcode == 0x55), mvImem)
  | .dgOpen t => some (t, .dg, (fun d => d.opcode == 0x60), dgOpen)
  | .dgScan t => some (t, .dg, (fun d => d.opcode == 0x61), dgScan)
  | .dgTake t => some (t, .dg, (fun d => d.opcode == 0x62), dgTake)
  | .fuLoad t => some (t, .fu, (fun d => d.opcode == 0x70), fuLoad)
  | .fuFeat t => some (t, .fu, (fun d => d.opcode == 0x71), fuFeat)
  | .fuEval t => some (t, .fu, (fun d => d.opcode == 0x72), fuEval)
  | .fuNsample t => some (t, .fu, (fun d => d.opcode == 0x73), fuNsample)
  | _ => none

/-! ### Entries, tree messages -/

/-- Firmware accepts a write of an entry: it serves the dictionary, the entry exists and may be written by the principal, the
value lies in its range, and an RWS entry is written while that is allowed (R610 to R616). -/
def Dev.accepts (d : Dev) (who : Principal) (ix sub v : Nat) : Prop :=
  d.served = true ∧ ∃ r, dictRow ix sub = some r ∧ r.mode ≠ 0 ∧ r.mode ≠ 4
    ∧ d.entryRight who r.writers (dictBase ix).1 (dictBase ix).2 sub = true
    ∧ v < 2 ^ (8 * r.size) ∧ r.lo ≤ v ∧ v ≤ r.hi ∧ d.rangeOk (dictBase ix).1 (dictBase ix).2 sub v = true
    ∧ (r.mode = 3 → d.rwsOpen (dictBase ix).1 (dictBase ix).2 = true)

/-- `n` is the oldest tree message of a kind, and it belongs to partition `k`: its tag, and its link, which is that of a child
where it goes up and that of the parent where it goes down (R410). -/
def Dev.treeIn (d : Dev) (kind : Nat) (up : Bool) (n : NoticeIn) (k : Nat) : Prop :=
  d.noticesIn.find? (·.kind == kind) = some n ∧ d.partOfTag (bodyFence n.body) = some k
    ∧ (d.part k).net.treeState = 1 ∧ d.openFor k n.link = true
    ∧ (if up then bit (d.part k).net.childLinks n.link = true ∧ n.link < 64 else (d.part k).net.parentLink = n.link)

/-! ### Host commands -/

/-- The function and the OPCODE of a row of Table HI-6. -/
def hostRow (i : Instr) : Option (Fin 17 × Nat) :=
  match i with
  | .nop f => some (f, 0x0001)
  | .fwSegment f => some (f, 0x0010)
  | .fwStart f => some (f, 0x0011)
  | .memWrite f => some (f, 0x0100)
  | .memRead f => some (f, 0x0101)
  | .planImage f => some (f, 0x0200)
  | .planAbort f => some (f, 0x0201)
  | .jobMap f => some (f, 0x0202)
  | .routeTable f => some (f, 0x0203)
  | .treeRecord f => some (f, 0x0204)
  | .loadParams f => some (f, 0x0205)
  | .linkMeasures f => some (f, 0x0206)
  | .partStop f => some (f, 0x0210)
  | .partReset f => some (f, 0x0211)
  | .bowStart f => some (f, 0x0220)
  | .barrierEnter f => some (f, 0x0221)
  | .barrierWatch f => some (f, 0x0222)
  | .config f => some (f, 0x0300)
  | .grammarWrite f => some (f, 0x0301)
  | .grammarCommit f => some (f, 0x0302)
  | .request f => some (f, 0x0303)
  | .resume f => some (f, 0x0304)
  | .park f => some (f, 0x0305)
  | .cancel f => some (f, 0x0306)
  | .wconfig f => some (f, 0x0400)
  | .wmanifest f => some (f, 0x0401)
  | .wdata f => some (f, 0x0402)
  | .wmirror f => some (f, 0x0403)
  | .wclear f => some (f, 0x0404)
  | .warm f => some (f, 0x0405)
  | .wdisarm f => some (f, 0x0406)
  | .scrub f => some (f, 0x0500)
  | .dumpFetch f => some (f, 0x0600)
  | _ => none

/-- The waiting command of a function that a row of Table HI-6 carries out: the oldest, of its opcode, from a function that may
send it, at a stage that takes it (R587, R588, R590). -/
def Dev.commandAt (d : Dev) (f op : Nat) (c : Cmd) : Prop :=
  d.halted = false ∧ d.nextCommand f op = some c ∧ c.permitted = true ∧ d.takes op = true ∧ c.len ≤ 65536

/-- Between `d` and `d'` a command was answered: it no longer waits, and, unless its function has been reset since, one response
is owed less and its entry (Table HI-10a) stands in ring 0 after the PAD it needs, or waits at the end of the backlog. -/
def Dev.answers (d d' : Dev) (c : Cmd) (transport status detail : Nat) : Prop :=
  let x := d.fn c.fn
  let x' := d'.fn c.fn
  d'.commands = d.commands.filter (·.id != c.id)
  ∧ (x.gen = c.gen → d.fnEnabled c.fn = true →
      x'.owed = x.owed - 1
      ∧ (x'.backlog = x.backlog
            ++ [⟨0, 1, responseBody c.tag c.seq c.opcode transport status c.accepted detail, 0, 0, 0⟩]
          ∨ (x'.backlog = x.backlog ∧ (x'.ring 0).tail = (x.ring 0).tail + (x.ring 0).pad 48 + 48)))

end Sys2Proof.Machine
end

