-- ==== Sys2Proof/Certificates/Slice0/Obligations.lean ====
section
/-!
DEFINITION. The statements about the model, for the provers. Each docstring names the rules of the spec that it rests on.
-/
open Sys2Proof Sys2Proof.Machine

/-- A step takes the command at the front of the queue and runs it with the rest; on an empty queue (assumption 2, the model's choice) a
beat passes: where the management port holds no frame, BC counts on by one out of reset and with REFCLK running (R36), and otherwise
stays. Every command of the table, in every state and with every operand, completes: exec answers a next state, and the commands
that wait stay as they are. -/
def Obligations.StepRunsFront : Prop :=
  (∀ (s : State) (c : Instr) (rest : List Instr), s.pending = c :: rest → step s = exec c { s with pending := rest })
  ∧ (∀ s : State, s.pending = [] → ∃ s', step s = .next s' ∧ s'.pending = [] ∧ s'.otp = s.otp
      ∧ (s.dev.mgmt.waiting = [] →
          s'.dev.time.bc = s.dev.time.bc + (if s.dev.stage ≠ 0 ∧ s.dev.time.refclk = true then 1 else 0))
      ∧ (s.dev.stage = 0 → s' = s))
  ∧ (∀ (i : Instr) (s : State), ∃ s', exec i s = .next s' ∧ s'.pending = s.pending)

/-- R25, R47, R401, R435, R602, R603: the device in reset: stage RESET, no identity, every partition stopped with no plan and no fence
tag, no bow, nothing logged, no dump, every engine queue and every ring empty, and no command waiting. -/
def Obligations.ResetState : Prop :=
  let d := State.reset.dev
  State.reset.pending = [] ∧ d.stage = 0 ∧ d.deviceId = 0xFFFFF ∧ d.fwRunning = false ∧ d.deviceFatal = false ∧ d.halted = false
    ∧ d.time.sync = 0 ∧ d.log.entries = [] ∧ d.dump.state = 0 ∧ d.gasp.valid = false ∧ d.commands = [] ∧ d.cp = []
    ∧ (∀ k, (d.part k).time.mode = .stopped ∧ (d.part k).plan.state = 0 ∧ (d.part k).plan.plan = none ∧ (d.part k).fenceTag = 0
        ∧ (d.part k).net.bow.state = 0 ∧ (d.part k).groups = 0 ∧ (d.part k).serving.cfg = none)
    ∧ (∀ t e, (d.tile t).eng.queue e = [] ∧ (d.tile t).mq.entries = [] ∧ (d.tile t).core.state = .idle)
    ∧ (∀ l, (d.link l).st = 0 ∧ (d.link l).enable = false)
    ∧ (∀ f r, ((d.fn f).ring r).enable = false ∧ (d.fn f).proto = 0 ∧ (d.fn f).backlog = [])

/-- R574, R576: at reset the fuses are those of the device modelled (assumption 8, the model's choice), with no field fuse blown. -/
def Obligations.ResetFuses : Prop :=
  State.reset.fuseInv ∧ State.reset.otp.fieldFused = 0

/-- R574, R576: every step, from every state, keeps the identity of the fuse elements, leaves a field fuse that has been blown blown, and
changes the elements only where the command it runs is FIELD_FUSE_PROGRAM; it takes one command off the queue and adds none. -/
def Obligations.FusesAreKept : Prop :=
  ∀ s s' : State, step s = .next s' →
    (s.fuseInv → s'.fuseInv) ∧ s.otp.keepsBlown s'.otp ∧ s'.pending = s.pending.drop 1
    ∧ ((∀ g, s.pending.head? ≠ some (.fieldFuseProgram g)) → s'.otp = s.otp)

/-- R248, Table CC-2a: what the scalar instructions, cmov and cmovh write into sA, modulo 2^32, with the program counter on
the next instruction and every other register of the core as it was. -/
def Obligations.ScalarResults : Prop :=
  ∀ (s : State) (t : Fin 672) (g : Guard) (a b : Fin 16) (cb : Fin 8) (x : Src) (v : BitVec 32), s.dev.fetches t →
    g.holds (s.dev.coreAt t) = true →
    let c := s.dev.coreAt t
    let sets (i : Instr) (r : BitVec 32) : Prop :=
      ∃ s', exec i s = .next s' ∧ (s'.dev.tile t).core.regs = (c.setS a r).next.regs
    sets (.add t g a b x) (c.sreg b + x.signed c)
    ∧ sets (.sub t g a b x) (c.sreg b - x.signed c)
    ∧ sets (.mul t g a b x) (c.sreg b * x.signed c)
    ∧ sets (.and t g a b x) (c.sreg b &&& x.unsigned c)
    ∧ sets (.or t g a b x) (c.sreg b ||| x.unsigned c)
    ∧ sets (.xor t g a b x) (c.sreg b ^^^ x.unsigned c)
    ∧ sets (.shl t g a b x) (c.sreg b <<< ((x.unsigned c).toNat % 32))
    ∧ sets (.shr t g a b x) (c.sreg b >>> ((x.unsigned c).toNat % 32))
    ∧ sets (.sar t g a b x) ((c.sreg b).sshiftRight ((x.unsigned c).toNat % 32))
    ∧ sets (.set t g a v) v
    ∧ sets (.cmov t g a cb) ((c.creg cb).truncate 32)
    ∧ sets (.cmovh t g a cb) (((c.creg cb) >>> 32).truncate 32)

/-- R248, Table CC-2a: what the compare and predicate instructions write into pn. -/
def Obligations.PredicateResults : Prop :=
  ∀ (s : State) (t : Fin 672) (g : Guard) (n m k : Fin 4) (a : Fin 16) (x : Src), s.dev.fetches t →
    g.holds (s.dev.coreAt t) = true →
    let c := s.dev.coreAt t
    let sets (i : Instr) (v : Bool) : Prop :=
      ∃ s', exec i s = .next s' ∧ (s'.dev.tile t).core.regs = (c.setP n v).next.regs
    sets (.cmpEq t g n a x) (decide (c.sreg a = x.signed c))
    ∧ sets (.cmpNe t g n a x) (decide (c.sreg a ≠ x.signed c))
    ∧ sets (.cmpLt t g n a x) (decide ((c.sreg a).toInt < (x.signed c).toInt))
    ∧ sets (.cmpLtu t g n a x) (decide ((c.sreg a).toNat < (x.unsigned c).toNat))
    ∧ sets (.cmpGe t g n a x) (decide ((x.signed c).toInt ≤ (c.sreg a).toInt))
    ∧ sets (.cmpGeu t g n a x) (decide ((x.unsigned c).toNat ≤ (c.sreg a).toNat))
    ∧ sets (.pand t g n m k) (c.pred m && c.pred k)
    ∧ sets (.por t g n m k) (c.pred m || c.pred k)
    ∧ sets (.pnot t g n m) (!c.pred m)
    ∧ sets (.pset t g n k) (c.comparator k)

/-- R248, R253, Tables CC-2a, CC-4: what cset and cadd write into cA, modulo 2^48, kset into kn, and rd.sys into sA from each of its
sources. -/
def Obligations.CounterAndSystemResults : Prop :=
  (∀ (s : State) (t : Fin 672) (g : Guard) (a b src ref : Fin 8) (n rel : Fin 4) (x : CSrc), s.dev.fetches t →
    g.holds (s.dev.coreAt t) = true →
    let c := s.dev.coreAt t
    let gives (i : Instr) (c' : Core) : Prop := ∃ s', exec i s = .next s' ∧ (s'.dev.tile t).core.regs = c'.next.regs
    gives (.cset t g a x) (c.setC a (x.zero c))
    ∧ gives (.cadd t g a b x) (c.setC a (c.creg b + x.sign c))
    ∧ gives (.kset t g n src rel ref) { c with k := c.k.set n ⟨src, rel, ref⟩ })
  ∧ (∀ (s : State) (t : Fin 672) (g : Guard) (a code : Fin 16) (k : Nat), s.dev.fetches t →
    g.holds (s.dev.coreAt t) = true → (s.dev.atPeriod t).partOfTile t = some k → code.val < 8 →
    let c := s.dev.coreAt t
    let d := s.dev.atPeriod t
    let step := (d.part k).audit.step
    let source : Nat := match code.val with
      | 0 => t | 1 => tileGroup t | 2 => tilePos t | 3 => k | 4 => d.deviceId % 2 ^ 20
      | 5 => step % 2 ^ 32 | 6 => step / 2 ^ 32 % 2 ^ 32 | _ => d.enabledTiles
    ∃ s', exec (.rdSys t g a code) s = .next s'
      ∧ (s'.dev.tile t).core.regs = (c.setS a (BitVec.ofNat 32 source)).next.regs)

/-- R245, R248, Table CC-2a: the branches. A branch that is taken goes to its target, one that is not to the next
instruction; dbnz decrements first; call and ret use a return stack of 8. -/
def Obligations.BranchResults : Prop :=
  ∀ (s : State) (t : Fin 672) (g : Guard) (a : Fin 8) (n : Fin 4) (neg : Bool) (target : Nat), s.dev.fetches t →
    g.holds (s.dev.coreAt t) = true → target < 8192 →
    let c := s.dev.coreAt t
    let gives (i : Instr) (c' : Core) : Prop := ∃ s', exec i s = .next s' ∧ (s'.dev.tile t).core.regs = c'.regs
    let goes (taken : Bool) (c' : Core) : Core := if taken then { c' with pc := target } else c'.next
    gives (.br t g target) (goes true c)
    ∧ gives (.brP t g n neg target) (goes (c.pred n != neg) c)
    ∧ gives (.brK t g n target) (goes (c.comparator n) c)
    ∧ gives (.dbnz t g a target) (goes (decide (c.creg a - 1 ≠ 0)) (c.setC a (c.creg a - 1)))
    ∧ (c.stack.length < 8 → gives (.call t g target) { c with stack := (c.pc + 1) % 8192 :: c.stack, pc := target })
    ∧ (∀ r rest, c.stack = r :: rest → gives (.ret t g) { c with stack := rest, pc := r })

/-- R246: an untimed instruction whose guard is false writes nothing and goes on to the next one. -/
def Obligations.GuardFalseSkips : Prop :=
  ∀ (s : State) (t : Fin 672) (i : Instr) (g : Guard), untimedOf i = some (t, g) → s.dev.fetches t →
    g.holds (s.dev.coreAt t) = false →
    ∃ s', exec i s = .next s' ∧ (s'.dev.tile t).core.regs = (s.dev.coreAt t).next.regs

/-- R107, R246, R248, R267: the frame of the untimed instructions. Where the fetch is clean and the core does not fault, an instruction
changes only the control core of its tile, of the device as it stands when the core comes to the instruction: memory, everything else
of the tile, every other tile, every partition and the commands that wait stay. A core in a period of its own is at its instruction. -/
def Obligations.UntimedFrame : Prop :=
  (∀ (s : State) (t : Fin 672) (i : Instr) (g : Guard), untimedOf i = some (t, g) → s.dev.fetches t →
    ∀ s', exec i s = .next s' → (s'.dev.tile t).core.state = .running →
      s'.pending = s.pending ∧ s'.otp = s.otp ∧ (s.dev.atPeriod t).onlyCore t s'.dev)
  ∧ (∀ (d : Dev) (t : Nat), d.inPeriod t → d.atPeriod t = d ∧ (toInstruction d t).2 = true)

/-- R105, R106, R250, R252, R254, R255, Table TL-5: a load whose due cycle is in order and whose offset is a multiple of its size moves
the release cycle to its due cycle. In its due cycle it writes the bytes that a load of that cycle sees, the first the least,
zero-extended, into sA, for ld.d the upper four into sA + 1, and takes a second period; before that cycle the core waits for it. -/
def Obligations.LoadResults : Prop :=
  ∀ (t : Fin 672) (a : Fin 16),
    let view (d : Dev) : Dev := d.seenAt t (d.tile t).core.cycle false
    let loaded (d : Dev) (n o : Nat) : Core :=
      let x := leNat ((view d).rawBytes (storeAddr t o) n)
      let c := (d.tile t).core.setS a (BitVec.ofNat 32 x)
      if n = 8 then c.setS (a + 1) (BitVec.ofNat 32 (x / 2 ^ 32)) else c
    let did (n o : Nat) (d d' : Dev) : Prop := (view d).faultySpan (storeAddr t o) n = [] →
      (d'.tile t).core.regs = (loaded d n o).next.regs ∧ (d'.tile t).core.state = .running ∧ (d'.tile t).core.rest = true
        ∧ d'.memory = d.memory
    (∀ (s : State) (g : Guard) (b : Fin 16) (off : BitVec 16) (due : Due), s.dev.fetches t →
      g.holds (s.dev.coreAt t) = true → (s.dev.atPeriod t).dueInOrder t due →
      let c := s.dev.coreAt t
      let o := memOffset c b off
      let loads (i : Instr) (n : Nat) : Prop := o % n = 0 → (n = 8 → a.val % 2 = 0) →
        (due.value c ≤ c.cycle → ∃ s', exec i s = .next s' ∧ did n o (s.dev.atPeriod t) s'.dev
          ∧ (s'.dev.tile t).core.release = due.value c)
        ∧ (c.cycle < due.value c → ∃ s', exec i s = .next s' ∧ (s'.dev.tile t).core.regs = c.regs
          ∧ (s'.dev.tile t).core.state = .due (.load n a o) (due.value c) ∧ (s'.dev.tile t).core.release = due.value c
          ∧ s'.dev.memory = (s.dev.atPeriod t).memory)
      loads (.ldB t g a b off due) 1 ∧ loads (.ldH t g a b off due) 2 ∧ loads (.ldW t g a b off due) 4
        ∧ loads (.ldD t g a b off due) 8)
    ∧ (∀ (d : Dev) (n o m : Nat), n ∈ [1, 2, 4, 8] → d.tileRuns t = true → (d.tile t).core.state = .due (.load n a o) m →
      m ≤ (d.tile t).core.cycle → (d.tile t).core.spare = true →
      ∃ d', runStep d t = (d', true) ∧ did n o d d' ∧ (d'.tile t).core.release = (d.tile t).core.release)

/-- R106, R117, R254, Table TL-5: in its due cycle a store writes the low bytes of sA, for st.d those of sA + 1 after them, at its offset
of its own tile store, and no other byte of memory; engines see it no sooner than two cycles later, and before its due cycle the core
waits for it. -/
def Obligations.StoreResults : Prop :=
  ∀ (t : Fin 672) (a : Fin 16),
    let value (d : Dev) (n : Nat) : Nat :=
      (((d.tile t).core.sreg a).toNat + (((d.tile t).core.sreg (a + 1)).toNat * 2 ^ 32)) % 256 ^ n
    let did (n o : Nat) (d d' : Dev) : Prop :=
      let m := (d.tile t).core.cycle
      let at_ := storeAddr t o
      d.faultySpan (at_ / 8 * 8) 8 = [] → d.integrity.injectState ≠ 1 →
      (∀ y ∈ (d.tile t).eng.wrote, ¬ (y.1 = m ∧ y.2.1 = o / 8)) →
      (d'.tile t).core.regs = (d.tile t).core.next.regs ∧ (d'.tile t).core.state = .running
        ∧ (∀ j, j < n → d'.byte (at_ + j) = BitVec.ofNat 8 (value d n / 256 ^ j))
        ∧ (∀ q, q < at_ ∨ at_ + n ≤ q → d'.byte q = d.byte q)
        ∧ (∀ q x, x = m ∨ x = m + 1 → (d'.seenAt t x true).byte q = (d.seenAt t x true).byte q)
    (∀ (s : State) (g : Guard) (b : Fin 16) (off : BitVec 16) (due : Due), s.dev.fetches t →
      g.holds (s.dev.coreAt t) = true → (s.dev.atPeriod t).dueInOrder t due →
      let c := s.dev.coreAt t
      let o := memOffset c b off
      let stores (i : Instr) (n : Nat) : Prop := o % n = 0 → (n = 8 → a.val % 2 = 0) →
        (due.value c ≤ c.cycle → ∃ s', exec i s = .next s' ∧ did n o (s.dev.atPeriod t) s'.dev)
        ∧ (c.cycle < due.value c → ∃ s', exec i s = .next s' ∧ (s'.dev.tile t).core.regs = c.regs
          ∧ (s'.dev.tile t).core.state = .due (.store n a o) (due.value c) ∧ (s'.dev.tile t).core.release = due.value c
          ∧ s'.dev.memory = (s.dev.atPeriod t).memory)
      stores (.stB t g a b off due) 1 ∧ stores (.stH t g a b off due) 2 ∧ stores (.stW t g a b off due) 4
        ∧ stores (.stD t g a b off due) 8)
    ∧ (∀ (d : Dev) (n o m : Nat), n ∈ [1, 2, 4, 8] → o % n = 0 → o < 2 ^ 21 → d.tileRuns t = true →
      (d.tile t).core.state = .due (.store n a o) m → m ≤ (d.tile t).core.cycle → (d.tile t).core.spare = true →
      ∃ d', runStep d t = (d', true) ∧ did n o d d')

/-- R106, R180, R181: an issue into a queue with room puts a copy of the descriptor, with its due cycle and its base adjustments,
at the end of the queue and moves the release cycle to the due cycle. -/
def Obligations.IssueQueues : Prop :=
  ∀ (s : State) (t : Fin 672) (g : Guard) (e : Engine) (slot : Fin 512) (adj : List (Fin 4 × Fin 16)) (due : Due),
    let d := s.dev.atPeriod t
    let c := s.dev.coreAt t
    let at_ := imemAddr t (d.tile t).imemActive (128 * slot.val)
    s.dev.fetches t → g.holds c = true → d.dueInOrder t due → adj.length ≤ 2 → d.faultySpan at_ 128 = [] →
    ((d.tile t).eng.queue e).length < 16 →
    ∃ s', exec (.issue t g e slot adj due) s = .next s'
      ∧ (s'.dev.tile t).eng.queue e
          = (d.tile t).eng.queue e ++ [⟨due.value c, adj.foldl (adjustBase c) (d.rawBytes at_ 128), slot.val⟩]
      ∧ (s'.dev.tile t).core.regs = c.next.regs ∧ (s'.dev.tile t).core.release = due.value c
      ∧ (s'.dev.tile t).core.state = .running ∧ s'.dev.memory = d.memory

/-- R110: an issue into a queue of 16 entries stops the core, moves no release cycle and counts in QUEUE_FULL_STALLS; while the queue is
full the core stays as it is; once the head entry has been taken, QUEUE_FULL_STALL places the entry and the core goes on. -/
def Obligations.QueueFullStall : Prop :=
  (∀ (s : State) (t : Fin 672) (g : Guard) (e : Engine) (slot : Fin 512) (adj : List (Fin 4 × Fin 16)) (due : Due),
    let d := s.dev.atPeriod t
    let c := s.dev.coreAt t
    let at_ := imemAddr t (d.tile t).imemActive (128 * slot.val)
    s.dev.fetches t → g.holds c = true → d.dueInOrder t due → adj.length ≤ 2 → d.faultySpan at_ 128 = [] →
    16 ≤ ((d.tile t).eng.queue e).length →
    ∃ s', exec (.issue t g e slot adj due) s = .next s'
      ∧ (s'.dev.tile t).core.state = .stalled e ⟨due.value c, adj.foldl (adjustBase c) (d.rawBytes at_ 128), slot.val⟩
      ∧ (s'.dev.tile t).core.release = c.release ∧ (s'.dev.tile t).core.regs = c.regs
      ∧ (s'.dev.tile t).eng.queue e = (d.tile t).eng.queue e
      ∧ (s'.dev.tile t).eng.queueFullStalls = (d.tile t).eng.queueFullStalls + 1
      ∧ s'.dev.tileTotals.queueFullStalls = d.tileTotals.queueFullStalls + 1)
  ∧ (∀ (s : State) (t : Fin 672) (e : Engine) (q : QEntry), s.dev.tileRuns t = true → (s.dev.tile t).core.state = .stalled e q →
    (16 ≤ ((s.dev.tile t).eng.queue e).length → (s.dev.tile t).core.release ≤ (s.dev.tile t).core.cycle →
      exec (.queueFullStall t e) s = .next s)
    ∧ (∀ d, s.dev.freePeriod t = some d → d.tileRuns t = true → (d.tile t).core.state = .stalled e q →
      (d.tile t).core.spare = true → (d.tile t).core.rest = false →
      ((s.dev.tile t).eng.queue e).length < 16 → ((d.tile t).eng.queue e).length < 16 →
      ∃ s', exec (.queueFullStall t e) s = .next s'
        ∧ (s'.dev.tile t).core.state = .running ∧ (s'.dev.tile t).core.regs = (d.tile t).core.next.regs
        ∧ (s'.dev.tile t).eng.queue e = (d.tile t).eng.queue e ++ [q] ∧ (s'.dev.tile t).core.release = q.due))

/-- R106, R262, R264: pace moves the release cycle to its due cycle and does nothing else to the registers. stint.end and stint.nap
move it too and in their due cycle leave the tile at its stint end, on the next instruction; stint.nap with a wake bit set asks for a
nap with cA[47:0] and the wake bits of sB. Before the due cycle the core waits for it. -/
def Obligations.PaceAndStintEnds : Prop :=
  (∀ (s : State) (t : Fin 672) (g : Guard) (due : Due), s.dev.fetches t → (s.dev.atPeriod t).dueInOrder t due →
    let c := s.dev.coreAt t
    (∃ s', exec (.pace t g due) s = .next s' ∧ (s'.dev.tile t).core.regs = c.next.regs
      ∧ (s'.dev.tile t).core.release = due.value c ∧ s'.dev.memory = (s.dev.atPeriod t).memory)
    ∧ (∀ (a : Fin 8) (b : Fin 16), g.holds c = true →
      let ask : Option (Nat × Nat) := some ((c.creg a).toNat, (c.sreg b).toNat % 2 ^ 18)
      let ends (i : Instr) (nap : Option (Nat × Nat)) : Prop :=
        (due.value c ≤ c.cycle → ∃ s', exec i s = .next s' ∧ (s'.dev.tile t).core.regs = c.next.regs
          ∧ (s'.dev.tile t).core.state = .atEnd ∧ (s'.dev.tile t).core.endDue = some c.cycle
          ∧ (s'.dev.tile t).core.release = due.value c ∧ (s'.dev.tile t).core.napAsk = nap)
        ∧ (c.cycle < due.value c → ∃ s', exec i s = .next s' ∧ (s'.dev.tile t).core.regs = c.regs
          ∧ (s'.dev.tile t).core.state = .due (.finish nap) (due.value c) ∧ (s'.dev.tile t).core.release = due.value c)
      ends (.stintEnd t g due) none
      ∧ ((c.sreg b).toNat % 2 ^ 18 ≠ 0 → ends (.stintNap t g due a b) ask)))
  ∧ (∀ (d : Dev) (t : Fin 672) (m : Nat) (nap : Option (Nat × Nat)), d.tileRuns t = true →
    (d.tile t).core.state = .due (.finish nap) m → m ≤ (d.tile t).core.cycle → (d.tile t).core.spare = true →
    (∀ x, nap = some x → x.2 ≠ 0) →
    ∃ d', runStep d t = (d', true) ∧ (d'.tile t).core.regs = (d.tile t).core.next.regs ∧ (d'.tile t).core.state = .atEnd
      ∧ (d'.tile t).core.endDue = some (d.tile t).core.cycle ∧ (d'.tile t).core.napAsk = nap)

/-- R106, R256, R257: a wait whose condition holds in its due cycle completes, wait.mbx with the oldest notice in s12 to s15; one
whose condition does not hold leaves the core waiting at its instruction; WAIT_COMPLETION completes it in a period once it holds.
Before the due cycle the core waits for that. -/
def Obligations.WaitResults : Prop :=
  ∀ (t : Fin 672),
    let tests (w : Wait) (d d' : Dev) : Prop :=
      (w.holds (d.tile t) = true → (d'.tile t).core.regs = (w.finish (d.tile t).core).regs
        ∧ (d'.tile t).core.inbox = (w.finish (d.tile t).core).inbox ∧ (d'.tile t).core.state = .running)
      ∧ (w.holds (d.tile t) = false → (d'.tile t).core.regs = (d.tile t).core.regs ∧ (d'.tile t).core.state = .waiting w)
    (∀ (s : State) (g : Guard) (n : Fin 8) (j b : Fin 16) (due : Due), s.dev.fetches t → g.holds (s.dev.coreAt t) = true →
      (s.dev.atPeriod t).dueInOrder t due →
      let c := s.dev.coreAt t
      let waits (i : Instr) (w : Wait) : Prop :=
        (due.value c ≤ c.cycle → ∃ s', exec i s = .next s' ∧ tests w (s.dev.atPeriod t) s'.dev
          ∧ (s'.dev.tile t).core.release = due.value c)
        ∧ (c.cycle < due.value c → ∃ s', exec i s = .next s' ∧ (s'.dev.tile t).core.regs = c.regs
          ∧ (s'.dev.tile t).core.state = .due (.wait w) (due.value c) ∧ (s'.dev.tile t).core.release = due.value c)
      waits (.waitMq t g n b due) (.mq n (c.sreg b)) ∧ waits (.waitSig t g j b due) (.sig j (c.sreg b))
        ∧ waits (.waitMbx t g due) .mbx)
    ∧ (∀ (d : Dev) (w : Wait) (m : Nat), d.tileRuns t = true → (d.tile t).core.state = .due (.wait w) m →
      m ≤ (d.tile t).core.cycle → (d.tile t).core.spare = true →
      ∃ d', runStep d t = (d', true) ∧ tests w d d' ∧ (d'.tile t).core.release = (d.tile t).core.release)
    ∧ (∀ (s : State) (w : Wait), s.dev.tileRuns t = true → (s.dev.tile t).core.state = .waiting w →
      (w.holds (s.dev.tile t) = false → exec (.waitCompletion t w.kind) s = .next s)
      ∧ (∀ d, s.dev.freePeriod t = some d → d.tileRuns t = true → (d.tile t).core.state = .waiting w →
        (d.tile t).core.spare = true → (d.tile t).core.rest = false →
        w.holds (s.dev.tile t) = true → w.holds (d.tile t) = true →
        ∃ s', exec (.waitCompletion t w.kind) s = .next s' ∧ (s'.dev.tile t).core.regs = (w.finish (d.tile t).core).regs
          ∧ (s'.dev.tile t).core.state = .running))

/-- R257: a completion or signal count has reached a target when their difference, modulo 2^32 and read as a signed number, is 0
or greater. -/
def Obligations.CountReached : Prop :=
  ∀ (x : Tile) (n : Fin 8) (j : Fin 16) (target : BitVec 32),
    ((Wait.mq n target).holds x = true ↔ 0 ≤ (x.mq.counts.getD n 0 - target).toInt)
    ∧ ((Wait.sig j target).holds x = true ↔ 0 ≤ (x.signals.getD j 0 - target).toInt)

/-- R105, R252, R267: a timed action whose due cycle is before that of the one before it, or at or past the end of the stint, is
an order fault: the core stops with cause 5, on the same instruction, and ORDER_FAULTS and CC_FAULTS count it. -/
def Obligations.OrderFaultStopsCore : Prop :=
  ∀ (s : State) (t : Fin 672) (i : Instr) (g : Guard) (due : Due), timedOf i = some (t, g, due) → s.dev.fetches t →
    let d := s.dev.atPeriod t
    let c := s.dev.coreAt t
    (due.value c < c.lastDue ∨ d.stintCycles (d.owner t) ≤ due.value c) →
    ∃ s', exec i s = .next s' ∧ (s'.dev.tile t).core.state = .faulted ∧ (s'.dev.tile t).core.faultCause = 5
      ∧ (s'.dev.tile t).core.regs = c.regs
      ∧ s'.dev.tileTotals.orderFaults = d.tileTotals.orderFaults + 1
      ∧ s'.dev.opTotals.ccFaults = d.opTotals.ccFaults + 1 ∧ s'.dev.memory = d.memory

/-- R251: a timed action whose guard is false acts as pace with the same due cycle. -/
def Obligations.GuardFalsePaces : Prop :=
  ∀ (s : State) (t : Fin 672) (i : Instr) (g : Guard) (due : Due), timedOf i = some (t, g, due) →
    g.holds (s.dev.coreAt t) = false → exec i s = exec (.pace t .always due) s

/-- R264, R265, R566: a napping tile with an enabled wake event noted, or its alarm's lead edge come, begins the wake sequence of
128 beats; a locked tile rejoins at a boundary edge 2 beats after that, with its wake cause in s11 and no nap asked for. -/
def Obligations.TileWakesAndRejoins : Prop :=
  ∀ (s : State) (t : Fin 672) (k alarm mask : Nat), s.dev.partOfTile t = some k →
    (s.dev.tile t).core.napAsk = some (alarm, mask) →
    let c := (s.dev.tile t).core
    let pbc := (s.dev.part k).time.pbc
    ((s.dev.tile t).clock.gen = .napped → c.wakeDone = none →
      ((c.wakeCauses &&& mask) ≠ 0 ∨ (bit mask 17 = true ∧ (pbc + 130 + 2 ^ 48 - alarm) % 2 ^ 48 < 2 ^ 47)) →
      ∃ s', exec (.tileWake t) s = .next s'
        ∧ (s'.dev.tile t).clock.gen = .waking ∧ (s'.dev.tile t).core.wakeDone = some (s.dev.time.bc + 128)
        ∧ (s'.dev.part k).power.wakes = (s.dev.part k).power.wakes + 1
        ∧ (s'.dev.tile t).core.regs = c.regs ∧ s'.dev.memory = s.dev.memory)
    ∧ (∀ done, (s.dev.tile t).clock.gen = .waking → (s.dev.tile t).clock.locked = true → c.wakeDone = some done →
      done + 2 ≤ s.dev.time.bc → s.dev.running k = true → (s.dev.part k).time.still = 0 →
      (s.dev.part k).plan.stintStart = pbc → (s.dev.part k).time.edgeDue = false →
      ∃ s', exec (.tileRejoin t) s = .next s'
        ∧ (s'.dev.tile t).clock.gen = .on ∧ (s'.dev.tile t).core.napAsk = none
        ∧ (s'.dev.tile t).core.state = .running ∧ (s'.dev.tile t).core.cycle = 0
        ∧ (s'.dev.tile t).core.regs = (({ c with pc := if c.swapOwed then 0 else c.pc }).setS 11
            (BitVec.ofNat 32 (wakeWord c.wakeCauses mask))).regs)

/-- R83, R80, R567: a deficit that has reached DEFICIT_LIMIT, a loss of lock, and a wake that fails its self-check are contained
errors of the tile: the region escalates with its cause, and after a loss of lock or a failed self-check its clock stops. -/
def Obligations.ClockFaultsEscalate : Prop :=
  ∀ (s : State) (t : Fin 672),
    let escalates (i : Instr) (cause : Nat) (gen : GenState) : Prop :=
      ∃ s', exec i s = .next s' ∧ s'.dev.clockTotals.escalations = s.dev.clockTotals.escalations + 1
        ∧ s'.dev.clockTotals.lastEscTile = t ∧ s'.dev.clockTotals.lastEscCause = cause
        ∧ s'.dev.clockTotals.lastEscBc = s.dev.time.bc ∧ (s'.dev.tile t).clock.gen = gen ∧ s'.dev.memory = s.dev.memory
    (s.dev.clocked t = true → Config.deficitLimit ≤ (s.dev.tile t).clock.deficit → escalates (.deficitLimit t) 2 .on)
    ∧ (∀ e0 e1 e2 e3 : Nat, s.dev.clocked t = true →
        (∀ e ∈ [e0, e1, e2, e3], Config.capacityPeriod (s.dev.opOfTile t) < 816 * e) →
        escalates (.lossOfLock t [e0, e1, e2, e3]) 3 .faulted)
    ∧ (∀ (locked : Bool) (b : Nat), s.dev.wakeBeat t = some b → 100 ≤ b →
        (locked = false ∨ 8 < (s.dev.tile t).clock.selfCheckTrips) → escalates (.wakeSelfCheck t locked) 3 .faulted)

/-- R77 to R79, R81 to R83: a stretch lengthens the present period by eighths of Tp and is taken only for at most 4/8 with 16 periods since
the last one; otherwise a gap of one Tp is taken. In idle mode the periods before it pass first. A deviation above JITTER_LIMIT and a high
time outside DUTY_MIN to DUTY_MAX are each counted; the delay line is due for a re-trim, or the duty trim moves one step toward 500; the
first trip past TRIP_THRESHOLD in an epoch escalates once. -/
def Obligations.ClockMonitorTrips : Prop :=
  (∀ (s : State) (t : Fin 672) (eighths periods : Nat), s.dev.clocked t = true → 0 < eighths →
    let d := if s.dev.planned t = true then s.dev else passIdle s.dev t periods
    let c := (d.tile t).clock
    let tp := s.dev.periodOf t
    let stretch := eighths ≤ 4 ∧ 16 ≤ c.sinceStretch
    ∃ s', exec (.droop t eighths periods) s = .next s'
      ∧ (stretch → (s'.dev.tile t).clock.next = c.next + (eighths * (tp / 8) : Nat)
          ∧ (0 ≤ c.began → (s'.dev.tile t).clock.lengthened = c.lengthened + eighths * (tp / 8))
          ∧ (s'.dev.tile t).clock.stretches = c.stretches + 1 ∧ (s'.dev.tile t).clock.gaps = c.gaps
          ∧ (s'.dev.tile t).clock.sinceStretch = 0)
      ∧ (¬ stretch → (s'.dev.tile t).clock.next = c.next + (tp : Nat)
          ∧ (0 ≤ c.began → (s'.dev.tile t).clock.lengthened = c.lengthened + tp)
          ∧ (s'.dev.tile t).clock.gaps = c.gaps + 1 ∧ (s'.dev.tile t).clock.stretches = c.stretches)
      ∧ (s'.dev.tile t).core = (s.dev.tile t).core ∧ (∀ u : Nat, u ≠ t → s'.dev.tile u = s.dev.tile u)
      ∧ s'.dev.memory = s.dev.memory)
  ∧ (∀ (s : State) (t : Fin 672), s.dev.monitored t = true →
    let c := (s.dev.tile t).clock
    let trips (i : Instr) (jitter duty : Nat) (c0 : Clock) : Prop := ∃ s', exec i s = .next s'
      ∧ s'.dev.clockTotals.jitterTrips = s.dev.clockTotals.jitterTrips + jitter
      ∧ s'.dev.clockTotals.dutyTrips = s.dev.clockTotals.dutyTrips + duty
      ∧ (s'.dev.tile t).clock.jitterTrips = c.jitterTrips + jitter ∧ (s'.dev.tile t).clock.dutyTrips = c.dutyTrips + duty
      ∧ (s'.dev.tile t).clock.retrim = c0.retrim ∧ (s'.dev.tile t).clock.dutyTrim = c0.dutyTrim
      ∧ (s'.dev.tile t).clock.epochTrips = c.epochTrips + 1
      ∧ s'.dev.clockTotals.escalations = s.dev.clockTotals.escalations
          + (if s.dev.clockCfg.tripThreshold < c.epochTrips + 1 ∧ c.tripped = false then 1 else 0)
    (∀ ps, s.dev.clockCfg.jitterLimit < ps → trips (.jitterTrip t ps) 1 0 { c with retrim := true })
    ∧ (∀ permille, permille < s.dev.clockCfg.dutyMin ∨ s.dev.clockCfg.dutyMax < permille →
        trips (.dutyTrip t permille) 0 1 { c with dutyTrim := c.dutyTrim + (if permille < 500 then 1 else -1) }))

/-- R84, R85, R88 to R90, R92: a crossing that is not the destination of its oldest entry hands it to the next phase buffer at the first
edge of its region at which the entry has been there for Tp and the next buffer has room; a region without edges forwards nothing. The
edge withheld for a line that a tile takes or sends is emitted once the line is readable, or the crossing has room: the next cycle
begins, and the wait is counted, a read wait with its length. -/
def Obligations.CrossingMoves : Prop :=
  (∀ (s : State) (t u : Fin 672) (port : Fin 4) (dir : Nat) (more : List Nat) (x : MeshLine) (rest : List MeshLine) (free : Int),
    let y := s.dev.crossing t port
    let z := s.dev.crossing u (entryPort dir)
    let tp := s.dev.periodOf t
    let hop : Nat := tp * (if tileDie t = tileDie u then 1 else 17)
    let edge := s.dev.edgeAt t (max (x.written + tp) (max free (z.last + tp - hop)))
    y.lines = x :: rest → x.route = dir :: more → neighbour t dir = some u.val → z.freed.head? = some free →
    (s.dev.clocked t = false ∨ (beatTime : Int) ≤ edge → exec (.crossingForward t port) s = .next s)
    ∧ (s.dev.clocked t = true → edge < beatTime → dir < 4 →
      ∃ s', exec (.crossingForward t port) s = .next s'
        ∧ (s'.dev.crossing t port).lines = rest ∧ (s'.dev.crossing t port).freed = y.freed ++ [edge]
        ∧ (s'.dev.crossing u (entryPort dir)).lines = z.lines ++ [⟨edge + hop, more, x.data, x.faults⟩]
        ∧ (s'.dev.crossing u (entryPort dir)).freed = z.freed.tail
        ∧ s'.dev.tiles = s.dev.tiles ∧ s'.dev.memory = s.dev.memory))
  ∧ (∀ (s : State) (t : Fin 672) (i : Instr) (holds : Flight → OpOut → Nat → Prop),
    (i = .writeWait t ∧ holds = (fun f o m => o.dueSends f m ≠ []))
      ∨ (∃ p : Fin 4, i = .readWait t p ∧ holds = (fun _ o m => (m, p.val) ∈ o.lands)) →
    let d := runTile s.dev t
    let m := (d.tile t).core.cycle + 1
    let held := ∃ f ∈ (d.tile t).eng.acting m, holds f (outAt d t m f) m
    d.tileRuns t = true → (d.tile t).core.spare = false →
    (¬ held → exec i s = .next { s with dev := d })
    ∧ (∀ r w, held → d.canBegin t r w →
      let start := d.cycleStart t m
      ∃ s', exec i s = .next s' ∧ (s'.dev.tile t).core.cycle = m
        ∧ (s'.dev.tile t).clock.began = max start (max r w)
        ∧ (s'.dev.tile t).clock.readWaits = (d.tile t).clock.readWaits + (if start < r then 1 else 0)
        ∧ (s'.dev.tile t).clock.readWaitPs
            = (d.tile t).clock.readWaitPs + (if start < r then (r - start).toNat / 408 else 0)
        ∧ s'.dev.clockTotals.readWaits = d.clockTotals.readWaits + (if start < r then 1 else 0)
        ∧ (d.tile t).clock.writeWaits + (if start < w then 1 else 0) ≤ (s'.dev.tile t).clock.writeWaits
        ∧ d.clockTotals.writeWaits + (if start < w then 1 else 0) ≤ s'.dev.clockTotals.writeWaits))

/-- R118, R289, R292: in the first period in which its bank is free the landing port writes its oldest landing, at its offset of the
tile store and nowhere else; a port that has no such period in the present beat writes nothing. A line of a memory-queue request is
undefined until its completion is recorded, and its request has one line less to land. -/
def Obligations.LandingWrites : Prop :=
  ∀ (s : State) (t : Fin 672) (l : Landing) (rest : List Landing), s.dev.portWorks t = true →
    (s.dev.tile t).landings.head? = some l →
    let r := untilFree t (l.offset / 128 % 16) (if l.narrow && s.dev.clocked t then 2 else 1) 64 0 s.dev
    let d := r.1
    let a := storeAddr t l.offset
    (r.2 = false → exec (.landingWrite t) s = .next { s with dev := d })
    ∧ (r.2 = true → (d.tile t).landings = l :: rest → d.integrity.injectState ≠ 1 → l.faults = [] →
      d.faultySpan (a / 8 * 8) (l.data.length + 16) = [] →
      (l.kind = .link ∨ l.kind = .control none → ∃ s', exec (.landingWrite t) s = .next s'
        ∧ (∀ j, j < l.data.length → s'.dev.byte (a + j) = l.data.getD j 0)
        ∧ (∀ q, q < a ∨ a + l.data.length ≤ q → s'.dev.byte q = d.byte q)
        ∧ ((s'.dev.tile t).landings ++ (s'.dev.tile t).landingsHeld).Perm (rest ++ (d.tile t).landingsHeld))
      ∧ (∀ id, l.kind = .mq id → l.offset % 128 + l.data.length ≤ 128 → ∃ s', exec (.landingWrite t) s = .next s'
        ∧ (∀ q, q < storeAddr t (l.offset / 128 * 128) ∨ storeAddr t (l.offset / 128 * 128) + 128 ≤ q → s'.dev.byte q = d.byte q)
        ∧ (s'.dev.tile t).mq.entries
            = (d.tile t).mq.entries.map (fun e => if e.id = id then e.lineLanded d.time.bc else e)))

/-- R108, R181, R192: an empty queue, and an entry whose due cycle has not come, leave an engine as it is, on the tile as it has run. A
head entry that is due, of a known operation and form with reserved bits 0, in an engine free at the due cycle, whose operation passes
its own checks, ends within the stint and finds what its first cycle needs, is taken: the entry leaves the queue, the operation runs
from the cycle in progress, and the units it occupies are free again in the cycle after its last one. A line that an operation writes
at the end of a cycle stands in the tile store, and no other byte changes. -/
def Obligations.EnginesTakeWhenDue : Prop :=
  (∀ (s : State) (i : Instr) (t : Fin 672) (e : Engine) (mine : Desc → Bool) (op : UnitOp),
    engineRow i = some (t, e, mine, op) →
    let d := runTile s.dev t
    (d.tileRuns t = false ∨ (d.tile t).eng.queue e = [] ∨ (∃ q rest, (d.tile t).eng.queue e = q :: rest
      ∧ (d.tile t).core.cycle < q.due) → exec i s = .next { s with dev := d })
    ∧ (∀ q rest o, d.meets t e mine q rest → d.startable t e q → op.now d t e q = .ok o → o.last ≤ d.endBound t →
      d.hasNeeds t o → (∀ j ∈ occupied e (Desc.parse q.desc).form, j < (d.tile t).eng.freeAt.length) →
      ∃ s', exec i s = .next s' ∧ s'.dev = startFlight (d.takeEntry t e rest) t e q (Desc.parse q.desc) o
        ∧ (s'.dev.tile t).eng.queue e = rest
        ∧ (∃ f, (s'.dev.tile t).eng.flights = (d.tile t).eng.flights ++ [f] ∧ f.engine = e ∧ f.entry = q ∧ f.last = o.last)
        ∧ (∀ j ∈ occupied e (Desc.parse q.desc).form, (s'.dev.tile t).eng.freeAt[j]? = some (o.last + 1))))
  ∧ (∀ (d : Dev) (t : Fin 672) (e : Engine) (w : LineWrite), w.faults = [] → w.data.length = 16 ∨ w.data.length = 128 →
    d.integrity.injectState ≠ 1 → (∀ y ∈ (d.tile t).eng.wrote, ¬ (y.1 = w.cycle ∧ y.2.1 ∈ w.words)) →
    let d' := writeLine t e d w
    let a := storeAddr t (128 * w.line)
    (∀ j, j < w.data.length → d'.byte (a + j) = w.data.getD j 0)
    ∧ (∀ q, q < a ∨ a + w.data.length ≤ q → d'.byte q = d.byte q)
    ∧ (∀ q, (d'.seenAt t w.cycle true).byte q = (d.seenAt t w.cycle true).byte q))

/-- R109, R112, R186: an entry that fails a check, that falls due in an engine still at work, or that would end past the
stint is taken and does nothing but raise its error: the counter of its fault rises by one and no byte of memory changes. -/
def Obligations.EngineFaultsWriteNothing : Prop :=
  ∀ (s : State) (i : Instr) (t : Fin 672) (e : Engine) (mine : Desc → Bool) (op : UnitOp) (q : QEntry)
    (rest : List QEntry), engineRow i = some (t, e, mine, op) →
    let d := runTile s.dev t
    let x := Desc.parse q.desc
    let ends (format descriptor overlap : Nat) : Prop := ∃ s', exec i s = .next s'
      ∧ (s'.dev.tile t).eng.queue e = rest ∧ (s'.dev.tile t).eng.flights = (d.tile t).eng.flights ∧ s'.dev.memory = d.memory
      ∧ s'.dev.opTotals.formatFaults = d.opTotals.formatFaults + format
      ∧ s'.dev.opTotals.descriptorFaults = d.opTotals.descriptorFaults + descriptor
      ∧ s'.dev.tileTotals.engineOverlaps = d.tileTotals.engineOverlaps + overlap
    d.meets t e mine q rest →
    ((formOk e x.form && x.clean) = false → ends 0 1 0)
    ∧ (formOk e x.form = true → x.clean = true →
        (occupied e x.form).any (fun j => q.due < (d.tile t).eng.freeAt.getD j 0) = true → ends 0 0 1)
    ∧ (d.startable t e q → op.now d t e q = .error .format → ends 1 0 0)
    ∧ (d.startable t e q → op.now d t e q = .error .descriptor → ends 0 1 0)
    ∧ (d.startable t e q → ∀ o, op.now d t e q = .ok o → d.endBound t < o.last → ends 0 0 1)

/-- R217: mv.copy, once taken, runs until it has written D: of every row of D the bytes that it writes are those of the same row of A
as the operation sees the store, in the line and at the place where D has them. -/
def Obligations.CopyResults : Prop :=
  (∀ (s : State) (t : Fin 672) (q : QEntry) (rest : List QEntry) (o : OpOut),
    let d := runTile s.dev t
    d.meets t .mv (fun x => x.opcode == 0x50) q rest → d.startable t .mv q → UnitOp.now mvCopy d t .mv q = .ok o →
    o.last ≤ d.endBound t →
    ∃ s' f, exec (.mvCopy t) s = .next s' ∧ (s'.dev.tile t).eng.flights = (d.tile t).eng.flights ++ [f] ∧ f.entry = q
      ∧ f.last = o.last)
  ∧ (∀ (v : Dev) (t : Nat) (f : Flight) (d : Desc) (o : OpOut), mvCopy v t f d = .ok o →
    v.faultySpan (storeAddr t 0) (2 ^ 21) = [] →
    let at_ (x : Ten) (r j : Nat) : Nat := 128 * x.base + 32 * r * x.stride + j
    ∀ r j, r < d.a.rows → j < d.a.rowBytes →
      ∃ w ∈ o.writes, w.line = at_ d.d r j / 128
        ∧ w.data.getD (at_ d.d r j % 128) 0 = v.byte (storeAddr t (at_ d.a r j)))

/-- R222, R225, R514: dg.open opens its slot at the end of its due cycle, over region D with CRC and COUNT 0; dg.take closes the slot as
it starts, and two cycles later writes the record of 16 bytes that the slot had then at D. -/
def Obligations.DigestSlotResults : Prop :=
  ∀ (s : State) (t : Fin 672) (q : QEntry) (rest : List QEntry) (o : OpOut),
    let d := runTile s.dev t
    let x := Desc.parse q.desc
    (d.tile t).digests.length = 8 → d.startable t .dg q → o.last ≤ d.endBound t →
    (d.meets t .dg (fun y => y.opcode == 0x60) q rest → UnitOp.now dgOpen d t .dg q = .ok o →
      (∃ s' f, exec (.dgOpen t) s = .next s' ∧ (s'.dev.tile t).eng.flights = (d.tile t).eng.flights ++ [f] ∧ f.entry = q
        ∧ s'.dev.memory = d.memory)
      ∧ ∃ act, o.ends = [(q.due, act)] ∧ ∀ e : Dev, (e.tile t).digests.length = 8 → (act e).memory = e.memory
        ∧ ((act e).tile t).digests.getD (x.p 0) none = some
            { base := x.d.base, stride := x.d.stride, rows := x.d.rows, cols := x.d.cols, fmt := x.d.code,
              tensorId := x.tensorId, canonBase := x.canonBase, canonPitch := x.canonPitch, crc := 0, count := 0,
              rewrite := false, lines := [] })
    ∧ (∀ sl, d.meets t .dg (fun y => y.opcode == 0x62) q rest → UnitOp.now dgTake d t .dg q = .ok o →
      q.due = (d.tile t).core.cycle → (d.tile t).digests.getD (x.p 0) none = some sl →
      ∃ s', exec (.dgTake t) s = .next s' ∧ (s'.dev.tile t).digests.getD (x.p 0) none = none
        ∧ (s'.dev.tile t).eng.record = sl.record ∧ s'.dev.memory = d.memory
        ∧ o.writes.map (fun w => (w.cycle, w.line)) = [(q.due + 2, x.d.base)]
        ∧ (∀ v f o', (v.tile t).eng.record = sl.record → dgTake v t f x = .ok o' → ∀ w ∈ o'.writes, w.data = sl.record))

/-- R283, R287, R288: while the memory queue has no room for a row whose first step comes next, the cycle does not begin: the period
counts as an MQ-full wait. MQ_FULL_WAIT emits the edge once there is room, where an operation of its channel holds it. A request is
posted at the end of the cycle of its row's last step, one for each row. -/
def Obligations.FullWaitEnds : Prop :=
  (∀ (d : Dev) (t : Fin 672),
    let y := d.tile t
    let m := y.core.cycle + 1
    let outs := (y.eng.acting m).map (fun f => outAt d t m f)
    y.eng.headDue y.core.cycle = false → y.eng.ended = true → bankPeriods (d.banksUsed t) ≤ y.core.held + 1 →
    m ≤ y.core.release → d.cycleStart t m < beatTime → y.mq.roomFor m (outs.flatMap (·.rows)) = false →
    ∃ d', openPeriod d t = (d', true) ∧ (d'.tile t).core.cycle = y.core.cycle
      ∧ (d'.tile t).mq.fullWaits = y.mq.fullWaits + 1 ∧ d'.memTotals.fullWaits = d.memTotals.fullWaits + 1
      ∧ (d'.tile t).eng.latePeriods = y.eng.latePeriods ∧ (d'.tile t).mq.entries = y.mq.entries)
  ∧ (∀ (s : State) (t : Fin 672) (channel : Fin 2) (f : Flight) (r w : Int),
    let d := runTile s.dev t
    let m := (d.tile t).core.cycle + 1
    d.tileRuns t = true → (d.tile t).core.spare = false → f ∈ (d.tile t).eng.acting m → f.second = (channel == 1) →
    (∃ x ∈ (outAt d t m f).rows, x.first = m) → d.canBegin t r w →
    ∃ s', exec (.mqFullWait t channel) s = .next s' ∧ (s'.dev.tile t).core.cycle = m
      ∧ s'.dev.memTotals.fullWaits = d.memTotals.fullWaits ∧ (s'.dev.tile t).mq.fullWaits = (d.tile t).mq.fullWaits)
  ∧ (∀ (d : Dev) (t : Fin 672) (f : Flight), (d.tile t).eng.flights = [f] → f.desc.opcode = 0x53 →
    (endCycle d t).memTotals.requests = d.memTotals.requests
      + ((outAt d t (d.tile t).core.cycle f).rows.filter (fun x => x.post == (d.tile t).core.cycle)).length)

/-- R132 to R135, R144, R146: in every floating-point format, rounding the value of an encoding that is no NaN gives that
encoding back, in every rounding mode, the infinities as long as SAT is off. -/
def Obligations.FormatsRoundTrip : Prop :=
  ∀ (f : FpFormat), f ∈ [fp32, bf16, fp16, e4m3, e5m2, e2m3, e3m2, e2m1] → ∀ (w : Nat) (mode : RMode) (sat : Bool),
    w < 2 ^ f.width → (f.decode w).isNan = false → (sat = false ∨ (f.decode w).isInf = false) →
    (f.round mode sat (f.decode w)).code = w ∧ (f.round mode sat (f.decode w)).saturated = false

/-- R144: rounding to nearest never leaves the exact value farther off than another encoding of the format would, and
rounding toward zero never grows a magnitude. -/
def Obligations.RoundingIsNearest : Prop :=
  ∀ (f : FpFormat), f ∈ [fp32, bf16, fp16, e4m3, e5m2, e2m3, e3m2, e2m1] → ∀ (m : Mag) (c : Nat), 0 < m.d →
    c ≤ f.maxCode →
    let value (code : Nat) : Mag := match f.decode code with | .fin _ x => x | _ => .zero
    let far (x : Mag) : Int := ((x.n * m.d : Nat) : Int) - ((m.n * x.d : Nat) : Int)
    let rne := f.gridCode .rne m
    let rz := f.gridCode .rz m
    (rne ≤ f.maxCode →
      (far (value rne)).natAbs * (value c).d ≤ (far (value c)).natAbs * (value rne).d)
    ∧ (rz ≤ f.maxCode → far (value rz) ≤ 0)

/-- R172, R175, R176: the bytes of a partial record spell the record, on the wide and on the narrow path; the join of two records does
not depend on their order, and without an overflow a join of three does not depend on how they are paired. -/
def Obligations.PartialRecordsJoin : Prop :=
  (∀ (wide : Bool) (r : AccRec), accFits wide r.acc = true → AccRec.ofBytes wide (r.toBytes wide) = r)
  ∧ (∀ (wide : Bool) (a b c : AccRec),
    a.join wide b = b.join wide a
    ∧ ((a.join wide b).2 = false → (b.join wide c).2 = false → ((a.join wide b).1.join wide c).2 = false →
        ((a.join wide b).1.join wide c).1 = (a.join wide (b.join wide c).1).1))

/-- R37, R40 to R44: the epoch number and the synchronisation state. A write of NEXT_EPOCH arms an UNSYNCED device, replaces the
number in ARMED, and in SYNCED sets the expected number too; in LOST it is refused. RESYNC, while every partition is stopped, goes
back to UNSYNCED. A pulse at an ARMED device loads BC and synchronises it; at a SYNCED device one that falls elsewhere than on the
wrap of BC[19:0], or for another epoch than the expected, loses synchronisation; a wrap without a pulse is counted. -/
def Obligations.EpochSync : Prop :=
  ∀ (s : State) (who : Principal) (v : BitVec 64) (edges : Nat),
    let b := s.dev.time
    let becomes (i : Instr) (b' : Timebase) : Prop := ∃ s', exec i s = .next s' ∧ s'.dev.time = b'
    let onWrap : Bool := edges == 0 && b.bc % 2 ^ 20 == 0
    let good : Bool := onWrap && (match b.expected with | some e => e == b.bc / 2 ^ 20 | none => true)
    (s.dev.accepts who 0x2010 2 v.toNat →
      (b.sync = 0 → becomes (.nextEpochWrite who v) { b with nextEpoch := v.toNat, sync := 1 })
      ∧ (b.sync = 1 → becomes (.nextEpochWrite who v) { b with nextEpoch := v.toNat })
      ∧ (b.sync = 2 → becomes (.nextEpochWrite who v) { b with nextEpoch := v.toNat, expected := some v.toNat })
      ∧ (3 ≤ b.sync → becomes (.nextEpochWrite who v) b))
    ∧ (s.dev.accepts who 0x2010 6 1 →
      (s.dev.allStopped = true →
        becomes (.resync who) { b with sync := 0, mismatches := 0, missed := 0, expected := none })
      ∧ (s.dev.allStopped = false → exec (.resync who) s = .next s))
    ∧ (b.refclk = true →
      (b.sync = 0 → becomes (.epochEdge edges) b)
      ∧ (b.sync = 1 → becomes (.epochEdge edges)
          { b with bc := b.nextEpoch * 2 ^ 20, sync := 2, expected := none, pulse := true, wrapOpen := false })
      ∧ (b.sync = 2 → good = true →
          becomes (.epochEdge edges) { b with pulse := true, wrapOpen := false, expected := none })
      ∧ (b.sync = 2 → good = false → ∃ s', exec (.epochEdge edges) s = .next s'
          ∧ s'.dev.time.sync = 3 ∧ s'.dev.time.mismatches = b.mismatches + 1 ∧ s'.dev.time.bc = b.bc)
      ∧ (b.sync = 3 → ∃ s', exec (.epochEdge edges) s = .next s'
          ∧ s'.dev.time.sync = 3 ∧ s'.dev.time.mismatches = b.mismatches + (if good then 0 else 1)))
    ∧ (b.wrapOpen = true → b.pulse = false → (b.sync = 2 ∨ b.sync = 3) →
        becomes .epochWrap { b with missed := b.missed + 1, wrapOpen := false })

/-- R45: a loss of REFCLK is device-fatal and stops every partition; BC stands until the clock returns and counts on from there. -/
def Obligations.RefclkLossIsFatal : Prop :=
  ∀ (s : State), s.dev.halted = false →
    (s.dev.time.refclk = true → s.dev.dump.state ≠ 1 → ∃ s', exec .refclkLoss s = .next s'
      ∧ s'.dev.time = { s.dev.time with refclk := false } ∧ s'.dev.deviceFatal = true ∧ s'.dev.faultN = true
      ∧ s'.dev.log.deviceFatal = s.dev.log.deviceFatal + 1
      ∧ (∀ k : Nat, k < 16 → (s'.dev.part k).time.mode = .stopped))
    ∧ (s.dev.time.refclk = false → s.pending = [] → s.dev.mgmt.waiting = [] → step s = .next s)
    ∧ (∃ s', exec .refclkReturn s = .next s' ∧ s'.dev.time = { s.dev.time with refclk := true }
        ∧ s'.dev.tiles = s.dev.tiles ∧ s'.dev.memory = s.dev.memory)

/-- R49, R51, R52, R55, R56: at a boundary edge with every tile done the next stint of the step begins at PBC S + L, every tile that
is not away at cycle 0; otherwise the partition slips, PBC stands still, and the slip and its beats are counted; the slip ends as the
boundary would have. -/
def Obligations.StintBoundaryOrSlip : Prop :=
  ∀ (s : State) (k : Fin 16) (q : Plan),
    let p := s.dev.part k
    let begins (i : Instr) : Prop := ∃ s', exec i s = .next s'
      ∧ (s'.dev.part k).time.pbc = p.time.pbc + 1 ∧ (s'.dev.part k).plan.stintIx = p.plan.stintIx + 1
      ∧ (s'.dev.part k).plan.stintStart = p.time.pbc + 1 ∧ (s'.dev.part k).time.slipping = false
      ∧ (s'.dev.part k).plan.stepIx = p.plan.stepIx
      ∧ (∀ t ∈ s'.dev.doneTiles k, (s.dev.tile t).core.state = .atEnd →
          (s'.dev.tile t).core.state = .running ∧ (s'.dev.tile t).core.cycle = 0 ∧ (s'.dev.tile t).core.release = 0)
    s.dev.atBoundary k = true → p.plan.plan = some q →
    (p.plan.stintIx + 1 < p.plan.bodyFirst + p.plan.step.stints → p.time.stopAsked = [] →
      (p.time.slipping = false → s.dev.paced = false → p.time.done2 = true → begins (.stintBoundary k))
      ∧ (p.time.slipping = true → begins (.slipEnd k)))
    ∧ (p.time.slipping = false → s.dev.paced = false → p.time.done2 = false →
      ∃ s', exec (.stintBoundary k) s = .next s'
        ∧ (s'.dev.part k).time.slipping = true ∧ (s'.dev.part k).time.pbc = p.time.pbc
        ∧ (s'.dev.part k).time.slipCount = p.time.slipCount + 1 ∧ (s'.dev.part k).time.slipBeats = p.time.slipBeats + 1
        ∧ (s'.dev.part k).time.offset = p.time.offset + 1 ∧ s'.dev.tiles = s.dev.tiles)

/-- R57 to R65, R411: holds. At the deadline of a transfer its instances are checked, and one that has not landed makes the device assert a
hold with hold point PBC + H, or, inside a region stop, at its end; a notice of the running episode lowers the hold point, or, at or
before PBC, freezes the partition at once and is job-fatal; at the hold point the partition freezes; a RESUME sets the release beat, and
there the partition runs on; a still longer than the hold limit raises a job-fatal error once. Each of TRANSFER_DEADLINE, HOLD_NOTICE,
FREEZE, CLEAR, TREE_RESUME, RESUME_EDGE and HOLD_LIMIT_EXPIRY completes with this effect in every state that meets its premises. -/
def Obligations.HoldsFreezeAndResume : Prop :=
  ∀ (s : State) (k : Fin 16),
    let p := s.dev.part k
    (s.dev.planRuns k = true → (∃ a ∈ p.plan.arrivals, a.dueAt p.time.pbc = true) →
      ∃ s', exec (.transferDeadline k) s = .next s'
        ∧ (s'.dev.part k).plan.arrivals
            = p.plan.arrivals.map (fun a => if a.dueAt p.time.pbc then { a with checked := true } else a)
        ∧ ((∀ a ∈ p.plan.arrivals, a.dueAt p.time.pbc = true → a.left = 0) → (s'.dev.part k).time = p.time)
        ∧ ((∃ a ∈ p.plan.arrivals, a.dueAt p.time.pbc = true ∧ a.left ≠ 0) → p.time.holdPoint = none →
            (s'.dev.part k).time.holdPoint = some (movedPoint p.plan (p.time.pbc + s.dev.horizon k))
            ∧ (s'.dev.part k).time.lastHoldCause = 1 ∧ (s'.dev.part k).time.lastHoldBc = s.dev.time.bc
            ∧ (s'.dev.part k).time.lastHoldOrigin = s.dev.selfDev ∧ s.dev.selfDev ∈ (s'.dev.part k).time.seen)
        ∧ (s'.dev.part k).time.mode = p.time.mode ∧ s'.dev.tiles = s.dev.tiles ∧ s'.dev.memory = s.dev.memory)
    ∧ (∀ (n : NoticeIn), s.dev.noticesIn.find? (·.kind == 1) = some n → s.dev.partOfTag (bodyFence n.body) = some k.val →
      s.dev.openFor k n.link = true → bodySerial n.body = p.time.serial → leAt n.body 3 3 % 2 ^ 20 ∉ p.time.seen →
      p.time.mode = .running → p.plan.stopFrom = none → (∀ h, p.time.holdPoint = some h → holdPh n.body < h) →
      ∃ s', exec .holdNotice s = .next s' ∧ leAt n.body 3 3 % 2 ^ 20 ∈ (s'.dev.part k).time.seen
        ∧ (p.time.pbc < holdPh n.body → (s'.dev.part k).time.holdPoint = some (holdPh n.body)
            ∧ (s'.dev.part k).time.mode = .running)
        ∧ (holdPh n.body ≤ p.time.pbc → (s'.dev.part k).time.holdPoint = some p.time.pbc
            ∧ (s'.dev.part k).time.mode = .frozen ∧ (s'.dev.part k).time.lastHoldCause = 3))
    ∧ (s.dev.planRuns k = true → p.time.mode = .running → p.time.holdPoint = some p.time.pbc → p.plan.stopFrom = none →
      ∃ s', exec (.freeze k) s = .next s' ∧ (s'.dev.part k).time.mode = .frozen
        ∧ (s'.dev.part k).time.holdCount = p.time.holdCount + 1 ∧ (s'.dev.part k).time.pbc = p.time.pbc
        ∧ s'.dev.tiles = s.dev.tiles)
    ∧ (∀ n, s.dev.treeIn 4 true n k → byteAt (n.body.drop 2) 0 = p.time.serial →
      ∃ s', exec .clear s = .next s' ∧ n.link ∈ (s'.dev.part k).time.clears ∧ s'.dev.noticesIn = s.dev.noticesIn.erase n)
    ∧ (∀ n, s.dev.treeIn 5 false n k → byteAt (n.body.drop 2) 0 = p.time.serial →
      ∃ s', exec .treeResume s = .next s' ∧ (s'.dev.part k).time.bres = some (leAt (n.body.drop 2) 4 8)
        ∧ s'.dev.noticesIn = s.dev.noticesIn.erase n)
    ∧ (∀ b, p.time.bres = some b → p.time.mode = .frozen → b ≤ s.dev.time.bc →
      ∃ s', exec (.resumeEdge k) s = .next s' ∧ (s'.dev.part k).time.mode = .running
        ∧ (s'.dev.part k).time.holdPoint = none ∧ (s'.dev.part k).time.bres = none
        ∧ (s'.dev.part k).time.pbc = p.time.pbc ∧ s'.dev.tiles = s.dev.tiles)
    ∧ (∀ q, s.dev.planRuns k = true → p.plan.plan = some q → q.header.holdLimit < p.time.still → p.time.limitRaised = false →
      s.dev.halted = false → s.dev.dump.state ≠ 1 →
      ∃ s', exec (.holdLimitExpiry k) s = .next s' ∧ s'.dev.log.jobFatal = s.dev.log.jobFatal + 1
        ∧ (s'.dev.part k).time.stopPending = true ∧ (s'.dev.part k).time.limitRaised = true)

/-- R66 to R68, R92 to R94, R315, R331, R411, R520: decisions and region stops. Votes are combined with AND on their way up and the result
goes down; a region stop begins with the operating point of the step it leads to and counts the step; a tile that has not locked, or trips
more than 8 times, fails it; beat 56 lands the decision word; and at its end the step begins at PBC of the next beat. Each of
DECISION_POINT, VOTE_UP, VOTE_DOWN, REGION_STOP, REGION_STOP_LOCK_CHECK, DECISION_WORD and REGION_STOP_END completes with this effect in
every state that meets its premises. -/
def Obligations.RegionStopResults : Prop :=
  ∀ (s : State) (k : Fin 16) (q : Plan),
    let p := s.dev.part k
    let rec0 : StepRec := ⟨1, true, false, false, 1, 0, 0, 0⟩
    (∀ n, s.dev.treeIn 7 false n k → ∃ s', exec .voteDown s = .next s'
      ∧ ((s'.dev.part k).net.vote (byteAt (n.body.drop 2) 0) (leAt (n.body.drop 2) 4 8)).result
          = some (byteAt (n.body.drop 2) 1 % 2 == 1))
    ∧ (∀ n, s.dev.treeIn 6 true n k →
      let kind := byteAt (n.body.drop 2) 0
      let pbc := leAt (n.body.drop 2) 4 8
      (∀ x ∈ (p.net.vote kind pbc).children, x.1 ≠ n.link) →
      ∃ s', exec .voteUp s = .next s' ∧ ((s'.dev.part k).net.vote kind pbc).children
        = (p.net.vote kind pbc).children ++ [(n.link, byteAt (n.body.drop 2) 1 % 2 == 1)])
    ∧ (∀ kind, kind ∈ decisionsAhead (q.maxDecision / 16 + 2) q p.plan.stepIx (p.plan.stepEnd q p.time.pbc) p.time.pbc →
      s.dev.planRuns k = true → p.plan.plan = some q → p.plan.planBegan ≤ p.time.pbc →
      (p.net.vote kind p.time.pbc).own = none →
      ∃ s', exec (.decisionPoint k) s = .next s' ∧ ((s'.dev.part k).net.vote kind p.time.pbc).own
        = some (if kind = 1 then p.power.grantBit else decide (p.plan.succState = 3)))
    ∧ (s.dev.planRuns k = true → p.time.mode = .running → p.plan.stopDue = true → p.time.holdPoint ≠ some p.time.pbc →
      p.plan.plan = some q → (q.steps.getD p.plan.stepIx rec0).op < 3 →
      (∀ h, p.plan.came = some h → (q.steps.getD h rec0).switch = false) →
      ∃ s', exec (.regionStop k) s = .next s' ∧ (s'.dev.part k).plan.stopFrom = some p.time.pbc
        ∧ (s'.dev.part k).plan.stopDue = false
        ∧ (s'.dev.part k).time.opCurrent = (q.steps.getD p.plan.stepIx rec0).op
        ∧ (s'.dev.part k).time.opBefore = p.time.opCurrent
        ∧ (s'.dev.part k).audit.step = (if p.plan.came.isSome then (p.audit.step + 1) % 2 ^ 64 else p.audit.step))
    ∧ (∀ (t : Fin 672) (b : Nat) (locked : Bool), s.dev.stopBeat t = some b → 40 ≤ b → s.dev.tileEnabled t = true →
      (s.dev.tile t).clock.gen = .on → (locked = false ∨ 8 < (s.dev.tile t).clock.selfCheckTrips) →
      ∃ s', exec (.regionStopLockCheck t locked) s = .next s' ∧ (s'.dev.tile t).clock.gen = .faulted
        ∧ s'.dev.clockTotals.escalations = s.dev.clockTotals.escalations + 1 ∧ s'.dev.clockTotals.lastEscCause = 4)
    ∧ (∀ (f : Nat) (t : Nat), s.dev.planRuns k = true → p.plan.plan = some q → p.plan.stopFrom = some f →
      p.time.pbc = f + 56 → t ∈ s.dev.partTiles k → s.dev.router.parked = [] → p.weights.config = none →
      (s.dev.partTiles k).Nodup →
      ∃ s', exec (.decisionWord k) s = .next s' ∧ ((s'.dev.tile t).landings ++ (s'.dev.tile t).landingsHeld).Perm
        ((s.dev.tile t).landings ++ (s.dev.tile t).landingsHeld
          ++ [⟨.link, q.header.opword, leBytes 8 (p.time.opCurrent + 4 * boolNat p.plan.switching), []⟩]))
    ∧ (∀ (f : Nat), s.dev.planRuns k = true → p.time.mode = .running → p.time.edgeDue = true → p.time.pbc + 1 = f + 64 →
      p.plan.stopFrom = some f → p.plan.switching = false →
      ∃ s', exec (.regionStopEnd k) s = .next s' ∧ (s'.dev.part k).plan.stopFrom = none
        ∧ (s'.dev.part k).plan.stepBegan = f + 64 ∧ (s'.dev.part k).time.pbc = f + 64
        ∧ (s'.dev.part k).time.edgeDue = false)

/-- R279, R280, R289, R290, R537: the slots of a channel. A slot that has begun is the channel's next one, and in a planned slot the oldest
memory-queue request, of a tile or of a token-selection unit, gets one of its slots, as the oldest control-plane access does in a
control-plane slot and, in a partition that is stopped, in every slot; a slot that has not begun does nothing. A completion is recorded in
its count, in order, once the request is complete. -/
def Obligations.ChannelSlotResults : Prop :=
  (∀ (s : State) (c : Fin 272),
    let ch := s.dev.channel c
    let frame := s.dev.time.bc / 64
    let j := if ch.frame = frame then ch.slot else 0
    (frameSlots c ≤ j ∨ slotBegun c j (s.dev.time.bc % 64) = false → exec (.channelSlot c) s = .next s)
    ∧ (j < frameSlots c → slotBegun c j (s.dev.time.bc % 64) = true →
        (∃ s', exec (.channelSlot c) s = .next s' ∧ (s'.dev.channel c).frame = frame ∧ (s'.dev.channel c).slot = j + 1)
        ∧ (∀ t e, refreshSlots c + s.dev.cpSlots c ≤ j →
            (s.dev.channelStopped c = false ∨ s.dev.oldestCp c true = none) → s.dev.oldestMq c = some (t, e) → s.dev.oldestLanding c = none →
            s.dev.oldestUnit c = none → 1 < e.left → (s.dev.tile t).mq.entries = [e] →
            ∃ s', exec (.channelSlot c) s = .next s'
              ∧ (s'.dev.tile t).mq.entries = [{ e with left := e.left - 1 }] ∧ s'.dev.memory = s.dev.memory)
        ∧ (∀ k r, refreshSlots c + s.dev.cpSlots c ≤ j →
            (s.dev.channelStopped c = false ∨ s.dev.oldestCp c true = none) → s.dev.oldestUnit c = some (k, r) → s.dev.oldestMq c = none →
            s.dev.oldestLanding c = none → 1 < r.left → (s.dev.part k).serving.memq = [r] →
            ∃ s', exec (.channelSlot c) s = .next s' ∧ (s'.dev.part k).serving.memq = [{ r with left := r.left - 1 }]
              ∧ s'.dev.memory = s.dev.memory ∧ s'.dev.tiles = s.dev.tiles)
        ∧ (∀ a, refreshSlots c ≤ j → (s.dev.channelStopped c = true ∨ j < refreshSlots c + s.dev.cpSlots c) →
            s.dev.oldestCp c (s.dev.channelStopped c) = some a → 1 < a.left →
            ∃ s', exec (.channelSlot c) s = .next s'
              ∧ s'.dev.cp = s.dev.cp.map (fun b => if b.id = a.id then { b with left := b.left - 1 } else b)
              ∧ s'.dev.memory = s.dev.memory ∧ s'.dev.tiles = s.dev.tiles ∧ s'.dev.parts = s.dev.parts)))
  ∧ (∀ (s : State) (t : Fin 672) (n : Fin 8) (e : MqEntry),
    (s.dev.tile t).mq.entries.find? (·.count == n.val) = some e → (s.dev.tile t).mq.counts.length = 8 →
    ((s.dev.tile t).mq.entries.map (·.id)).Nodup →
    (e.phase = .complete → ∃ s' m, exec (.mqCompletion t n) s = .next s' ∧ 1 ≤ m
      ∧ (s'.dev.tile t).mq.counts.getD n 0 = (s.dev.tile t).mq.counts.getD n 0 + BitVec.ofNat 32 m
      ∧ (s'.dev.tile t).mq.entries.length + m = (s.dev.tile t).mq.entries.length ∧ e ∉ (s'.dev.tile t).mq.entries)
    ∧ (e.phase ≠ .complete → exec (.mqCompletion t n) s = .next s))
  ∧ (∀ (s : State) (c : Fin 272) (t : Nat) (e : MqEntry) (entries : List MqEntry) (x : Tile),
    s.dev.tiles = [(t, x)] → x.mq.entries = e :: entries → e.phase = .decode → e.left = 0 → channelOf e.addr = c →
    (∀ y ∈ entries, y.id ≠ e.id) → e.op ≠ .move →
    ∃ s', exec (.pageDecode c) s = .next s'
      ∧ ((s'.dev.tile t).mq.entries.head?.map (·.phase)) = some .landing)

/-- R548 to R552, R555: a SCRUB whose range passes its checks is answered with 0 and runs on its channels; one that does not is
answered with its COMMAND_STATUS. A scrub whose channels are done leaves and counts. INJECT_ARM arms, disarms with a mask of 0, or
is refused with INJECT_STATE 3 where the word's partition runs. -/
def Obligations.ScrubAndInjectionResults : Prop :=
  (∀ (s : State) (f : Fin 17) (c : Cmd), s.dev.commandAt f 0x0500 c → (c.len = 17 ∨ c.len = 24) →
    leAt c.payload 6 2 = 0 → leAt c.payload 17 7 = 0 →
    let status := scrubStatus s.dev (if c.fn = 0 then none else some c.target) c.payload
    ∃ s', exec (.scrub f) s = .next s' ∧ s.dev.answers s'.dev c 0 status 0
      ∧ (status ≠ 0 → s'.dev.scrubs = s.dev.scrubs)
      ∧ (status = 0 → ∃ j ∈ s'.dev.scrubs, j.id = s.dev.accessSeq ∧ j.start = leAt c.payload 0 6
          ∧ j.length = leAt c.payload 8 8 ∧ j.bcStart = s.dev.time.bc ∧ j.fn = c.fn))
  ∧ (∀ (s : State) (j : ScrubJob), s.dev.scrubs.find? (·.active.isEmpty) = some j → s.dev.deviceFatal = false →
    ∃ s', exec .scrubComplete s = .next s' ∧ s'.dev.scrubs = s.dev.scrubs.filter (·.id != j.id)
      ∧ s'.dev.integrity.scrubs = s.dev.integrity.scrubs + 1 ∧ s'.dev.memory = s.dev.memory)
  ∧ (∀ (s : State) (who : Principal), s.dev.accepts who 0x9090 5 1 →
    ∃ s', exec (.injectArm who) s = .next s' ∧ s'.dev.integrity = { s.dev.integrity with
        injectState := (if injectRefused s.dev then 3 else if s.dev.integrity.injectMask = 0 then 0 else 1) } ∧ s'.dev.memory = s.dev.memory)

/-- R322, R323, R330, R591: an image stream. A packet that does not continue its stream is answered with TRANSPORT_STATUS 8; one
that does, while the control part is not complete, is kept; PLAN_ABORT ends the stream, and a cold load whose control part was
accepted is left at PLAN_STATE 5; a successor is staged once STAGE_OPEN has
come, with every inactive bank of the partition sealed. -/
def Obligations.PlanStreamResults : Prop :=
  ∀ (s : State),
    (∀ (f : Fin 17) (c : Cmd) (x : ImageStream), s.dev.commandAt f 0x0200 c → bit c.flags 0 = false →
      (s.dev.part c.target).plan.streamOf c.fn = some x →
      (c.streamOffset ≠ x.received.length → ∃ s', exec (.planImage f) s = .next s' ∧ s.dev.answers s'.dev c 8 0 0
        ∧ s'.dev.parts = s.dev.parts)
      ∧ (c.streamOffset = x.received.length → x.plan = none → bit c.flags 1 = false →
        s.dev.checkImage c.target (x.received ++ c.payload) false = .wait →
        ∃ s', exec (.planImage f) s = .next s' ∧ s.dev.answers s'.dev c 0 0 0 ∧ s'.dev.memory = s.dev.memory
          ∧ (s'.dev.part c.target).plan.streamOf x.fn = some { x with received := x.received ++ c.payload }))
    ∧ (∀ (f : Fin 17) (c : Cmd), s.dev.commandAt f 0x0200 c → bit c.flags 0 = false →
      (s.dev.part c.target).plan.streamOf c.fn = none →
      ∃ s', exec (.planImage f) s = .next s' ∧ s.dev.answers s'.dev c 8 0 0 ∧ s'.dev.parts = s.dev.parts)
    ∧ (∀ (f : Fin 17) (c : Cmd), s.dev.commandAt f 0x0201 c → c.len = 0 →
      ∃ s', exec (.planAbort f) s = .next s' ∧ s.dev.answers s'.dev c 0 0 0
        ∧ (s'.dev.part c.target).plan.streamOf c.fn = none
        ∧ (∀ x, (s.dev.part c.target).plan.streamOf c.fn = some x → x.successor = false →
          (s'.dev.part c.target).plan.state = (if x.plan.isSome then 5 else (s.dev.part c.target).plan.state)
          ∧ (x.plan = none → s'.dev.memory = s.dev.memory)))
    ∧ (∀ (k : Fin 16) (x : Successor), (s.dev.part k).plan.successor = some x → (s.dev.part k).plan.succState = 2 →
      (s.dev.part k).plan.stageOpened = true → s.dev.planRuns k = true →
      ∃ s', exec (.successorStage k) s = .next s' ∧ (s'.dev.part k).plan.succState = 3
        ∧ (∀ t ∈ s.dev.partTiles k, (s.dev.tile t).imemActive ≤ 1 →
            (s'.dev.tile t).sealed (1 - (s'.dev.tile t).imemActive) = true))

/-- R587 to R590, Table HI-6: what every host command row does before its own effect. With no command of its OPCODE in front it
does nothing; a command its function may not send is answered with TRANSPORT_STATUS 3, one the stage or a device-fatal error
turns away with 5, one longer than 65,536 bytes with 4, each without an effect on any partition, tile or byte of memory. -/
def Obligations.HostCommandChecks : Prop :=
  ∀ (s : State) (i : Instr) (f : Fin 17) (op : Nat), hostRow i = some (f, op) → s.dev.halted = false →
    let refused (c : Cmd) (transport : Nat) : Prop := ∃ s', exec i s = .next s' ∧ s.dev.answers s'.dev c transport 0 0
      ∧ s'.dev.parts = s.dev.parts ∧ s'.dev.tiles = s.dev.tiles ∧ s'.dev.memory = s.dev.memory
    (s.dev.nextCommand f op = none → exec i s = .next s)
    ∧ (∀ c, s.dev.nextCommand f op = some c →
      (c.permitted = false → refused c 3)
      ∧ (c.permitted = true → s.dev.takes op = false → refused c 5)
      ∧ (c.permitted = true → s.dev.takes op = true → 65536 < c.len → refused c 4))

/-- R588, R592 to R595, R394, R409: NOP, memory accesses, job objects and the stop and reset of a partition. -/
def Obligations.HostCommandResults : Prop :=
  ∀ (s : State) (f : Fin 17) (c : Cmd),
    let k := c.target
    let p := s.dev.part k
    let answered (i : Instr) (transport status detail : Nat) (also : Dev → Prop) : Prop :=
      ∃ s', exec i s = .next s' ∧ s.dev.answers s'.dev c transport status detail ∧ also s'.dev
    (s.dev.commandAt f 0x0001 c → answered (.nop f) (if c.len ≠ 0 then 4 else 0) 0 0 (fun d => d.parts = s.dev.parts))
    ∧ (s.dev.commandAt f 0x0100 c →
      (c.len = 0 → answered (.memWrite f) 4 0 0 (fun d => d.memory = s.dev.memory))
      ∧ (c.len ≠ 0 → s.dev.hostRefusal k c.arg0 c.len = some 6 → answered (.memWrite f) 6 0 0 (fun d =>
          d.memory = s.dev.memory ∧ d.memTotals.addressRejects = s.dev.memTotals.addressRejects + 1))
      ∧ (c.len ≠ 0 → c.payload.length = c.len → s.dev.hostRefusal k c.arg0 c.len = none →
          s.dev.protectedWeights k c.arg0 c.len true = false → s.dev.parkFits c.arg0 c.len = true →
          receivingBatch s.dev k c.arg0 c.len = none → partsOf c.arg0 c.len = [(c.arg0, c.len)] → isHbm c.arg0 = true →
          ∃ s', exec (.memWrite f) s = .next s'
            ∧ s'.dev.cp = s.dev.cp ++ [⟨s.dev.accessSeq, true, c.arg0, c.payload, c.len, writeCost c.arg0 c.len, false,
                .host c.id⟩]))
    ∧ (s.dev.commandAt f 0x0101 c →
      (c.len ≠ 0 ∨ c.arg1 < 8 ∨ 16777216 < c.arg1 ∨ s.dev.windowFits c.fn c.arg2 c.arg1 = false →
        answered (.memRead f) 4 0 0 (fun d => d.hostTotals = s.dev.hostTotals))
      ∧ (c.len = 0 → 8 ≤ c.arg1 → c.arg1 ≤ 16777216 → s.dev.windowFits c.fn c.arg2 c.arg1 = true →
          s.dev.hostRefusal k c.arg0 c.arg1 = none → partsOf c.arg0 c.arg1 = [(c.arg0, c.arg1)] → isHbm c.arg0 = true →
          ∃ s', exec (.memRead f) s = .next s'
            ∧ s'.dev.cp = s.dev.cp ++ [⟨s.dev.accessSeq, false, c.arg0, [], c.arg1, readCost c.arg0 c.arg1, false, .host c.id⟩]))
    ∧ (p.time.mode = .stopped → bit c.flags 0 = true → bit c.flags 1 = true → c.streamOffset = 0 → k < 16 →
      let d := c.payload
      let n := leAt d 0 4
      let ids := (List.range n).map (fun r => leAt d (16 + 4 * r) 4)
      (s.dev.commandAt f 0x0202 c → 0 < n → n ≤ 16384 → d.length = 16 + 4 * n → leAt d 4 12 = 0 → (∀ x ∈ ids, x < 0xFFFFF) →
        answered (.jobMap f) 0 0 0 (fun e => (e.part k).job.jobMap = some ids ∧ (e.part k).net = p.net))
      ∧ (s.dev.commandAt f 0x0205 c → d.length % 8 = 0 →
        answered (.loadParams f) 0 0 0 (fun e => (e.part k).job.params
          = some ((List.range (d.length / 8)).map (fun j => leAt d (8 * j) 8))))
      ∧ (s.dev.commandAt f 0x0206 c → leAt d 0 4 = (p.job.jobMap.getD []).length → 0 < leAt d 0 4 → leAt d 4 4 = 0 →
        d.length = 16 → leAt d 8 8 = 0 → answered (.linkMeasures f) 0 0 0 (fun e => (e.part k).job.measures = some []))
      ∧ (s.dev.commandAt f 0x0203 c → s.dev.routeOk k d = true → answered (.routeTable f) 0 0 0 (fun e =>
          (e.part k).net.routeState = 1 ∧ (e.part k).net.route = some (RouteTable.parse d)
            ∧ (e.part k).net.openLinks = leAt d 16 8))
      ∧ (s.dev.commandAt f 0x0203 c → s.dev.routeOk k d = false → answered (.routeTable f) 0 1 0 (fun e =>
          (e.part k).net.routeState = 2 ∧ (e.part k).net.route = none ∧ (e.part k).net.openLinks = 0)))
    ∧ (s.dev.commandAt f 0x0204 c → p.time.mode = .stopped → c.len = 16 →
      (s.dev.treeOk k c.payload = true → answered (.treeRecord f) 0 0 0 (fun e => (e.part k).net.treeState = 1
          ∧ (e.part k).net.parentLink = byteAt c.payload 0 ∧ (e.part k).net.childLinks = leAt c.payload 8 8))
      ∧ (s.dev.treeOk k c.payload = false → answered (.treeRecord f) 0 1 0 (fun e => (e.part k).net.treeState = 2)))
    ∧ (s.dev.commandAt f 0x0210 c → c.len = 0 →
      (p.time.mode = .stopped → answered (.partStop f) 0 0 0 (fun e => e.parts = s.dev.parts))
      ∧ (p.time.mode ≠ .stopped → ∃ s', exec (.partStop f) s = .next s'
          ∧ (s'.dev.part k).time.stopAsked = p.time.stopAsked ++ [c.id]))
    ∧ (s.dev.commandAt f 0x0211 c → c.len = 0 →
      (p.time.mode ≠ .stopped → answered (.partReset f) 5 0 0 (fun e => e.parts = s.dev.parts))
      ∧ (p.time.mode = .stopped → ∃ s', exec (.partReset f) s = .next s' ∧ (s'.dev.part k).resetAsked = p.resetAsked ++ [c.id]))
    ∧ (∀ (j : Fin 16), (s.dev.part j).resetAsked ≠ [] → (s.dev.part j).time.mode = .stopped → s.dev.queuesEmpty j = true →
      (∀ x ∈ (s.dev.part j).plan.streams, x.closing = none) →
      ∃ s', exec (.partResetExecute j) s = .next s' ∧ (s'.dev.part j).resetAsked = [] ∧ (s'.dev.part j).plan.state = 0
        ∧ (s'.dev.part j).plan.plan = none ∧ (s'.dev.part j).net.barriers = [] ∧ (s'.dev.part j).time.serial = 0)

/-- R582 to R586, R596, R597, R599 to R601: writes and reads of the function registers, rings and interrupts. A vector that is masked has its
PBA bit set where it would signal, and a vector that is unmasked with its bit set signals. -/
def Obligations.FunctionRegisterResults : Prop :=
  ∀ (s : State) (f : Fin 17) (r : Fin 4), s.dev.registersOpen f = true →
    let x := s.dev.fn f
    let g := x.ring r
    let sets (i : Instr) (ok : HostFn → Prop) : Prop := ∃ s', exec i s = .next s' ∧ ok (s'.dev.fn f)
      ∧ s'.dev.parts = s.dev.parts ∧ s'.dev.tiles = s.dev.tiles ∧ s'.dev.memory = s.dev.memory
    sets (.protoSelectWrite f 0x0100) (fun y => y.proto = 0x0100 ∧ y.err = x.err)
    ∧ (∀ v : BitVec 32, v ≠ 0x0100 → sets (.protoSelectWrite f v) (fun y => y.proto = x.proto ∧ bit y.err 3 = true))
    ∧ (∀ (v : BitVec 32) (packets : List Bytes), s.dev.halted = false → 2 ≤ s.dev.stage → x.proto ≠ 0 → x.window = [] →
        x.produced = x.consumed → x.consumed < 2 ^ 32 → v.toNat = (x.consumed + 1) % 2 ^ 32 → x.blocked = false →
        headerOk (packets.getD 0 []) x.consumed = true → knownOpcode (leAt (packets.getD 0 []) 0 2) = true →
        ∃ s', exec (.sqDoorbell f v packets) s = .next s'
          ∧ s'.dev.commands = s.dev.commands ++ [parsePacket s.dev f (packets.getD 0 [])]
          ∧ (s'.dev.fn f).consumed = v.toNat ∧ (s'.dev.fn f).produced = v.toNat ∧ (s'.dev.fn f).owed = x.owed + 1
          ∧ s'.dev.hostTotals.commands = s.dev.hostTotals.commands + 1)
    ∧ (∀ (v : BitVec 32) (packets : List Bytes), s.dev.halted = false →
        x.proto = 0 ∨ s.dev.stage < 2 ∨ 8 < (v.toNat + 2 ^ 32 - x.consumed) % 2 ^ 32 →
        sets (.sqDoorbell f v packets) (fun y => bit y.err 0 = true ∧ y.produced = x.produced ∧ y.window = x.window))
    ∧ (hasRing f r = true → x.rings.length = 4 →
      (∀ v : BitVec 64, g.head ≤ v.toNat → v.toNat ≤ g.tail → sets (.ringHeadWrite f r v) (fun y => (y.ring r).head = v.toNat))
      ∧ (∀ v : BitVec 64, v.toNat < g.head ∨ g.tail < v.toNat →
          sets (.ringHeadWrite f r v) (fun y => (y.ring r).head = g.head ∧ bit y.err 1 = true))
      ∧ (∀ v : BitVec 32, g.enable = false → bit v.toNat 0 = true →
          s.dev.ringRefused f r = false → bits v.toNat 1 5 = g.sizeLog2 → bits v.toNat 8 5 = g.vector →
          sets (.ringEnable f r v) (fun y => (y.ring r).enable = true ∧ (y.ring r).head = 0 ∧ (y.ring r).tail = 0))
      ∧ (∀ v : BitVec 32, g.enable = true → bit v.toNat 0 = false →
          sets (.ringEnable f r v) (fun y => (y.ring r).enable = false ∧ (y.ring r).tail = g.tail))
      ∧ (∃ s', exec (.ringDropsRead f r) s = .next s' ∧ s'.dev.readData = leBytes 4 g.drops
          ∧ ((s'.dev.fn f).ring r).drops = 0)
      ∧ (g.modUs ≠ 0 → g.unsignalled ≠ 0 → g.unsignalledBc + 250 * g.modUs ≤ s.dev.time.bc → s.dev.canPost f r = true →
          sets (.interruptHoldoff f r) (fun y => (y.ring r).unsignalled = 0
            ∧ (x.vectorMasked g.vector = false →
                Sparse.get 0 y.messages g.vector = Sparse.get 0 x.messages g.vector + 1)
            ∧ (x.vectorMasked g.vector = true → bit y.pba g.vector = true)))
      ∧ (∀ (w : Waiting), s.dev.halted = false → s.dev.dump.state ≠ 1 → s.dev.canPost f r = true → x.window = [] →
          x.backlog.find? (·.ring == r.val) = some w → g.room (entryLength w.entry.2) = true →
          sets (.ringPost f r) (fun y => y.backlog = x.backlog.erase w
            ∧ (y.ring r).tail = g.tail + g.pad (entryLength w.entry.2) + entryLength w.entry.2)))
    ∧ (∀ v : Nat, sets (.registerWrite (.register f 0x000C v)) (fun y => y.err = x.err - (x.err &&& v)))
    ∧ (∀ v w : Nat, v < vectorCount f → sets (.registerWrite (.register f (0x8000 + 16 * v + 12) w)) (fun y =>
        bit y.masked v = bit w 0
        ∧ (bit w 0 = true ∨ x.msixOn = false ∨ x.allMasked = true → bit y.pba v = bit x.pba v)
        ∧ (bit w 0 = false → x.msixOn = true → x.allMasked = false → bit x.pba v = true →
            bit y.pba v = false ∧ Sparse.get 0 y.messages v = Sparse.get 0 x.messages v + 1)))
    ∧ (∀ (v : BitVec 32) (i : Instr) (kind : Nat), (i = .mbxObjectAccess f v ∧ kind = 1) ∨ (i = .mbxNotice f v ∧ kind = 2) →
        bits v.toNat 12 4 = kind → s.dev.fwRunning = true → x.mbxFrame = none → (kind = 2 → s.dev.router.fwInbox.length < 256) →
        ∃ s', exec i s = .next s' ∧ s'.dev.parts = s.dev.parts
          ∧ (kind = 1 → (s'.dev.fn f).mbxFrame
              = some (1, slice x.mbxIn 0 (if v.toNat % 4096 = 0 then 4096 else v.toNat % 4096)))
          ∧ (kind = 2 → (s'.dev.fn f).mbxFrame = none ∧ s'.dev.router.fwInbox.length = s.dev.router.fwInbox.length + 1))

/-- R580, R581, R602, R678: configuration and resets of the functions. A reset clears a function's registers, rings and backlog and
keeps the partitions, tiles and memory as they are. -/
def Obligations.FunctionResetResults : Prop :=
  ∀ (s : State),
    let cleared (d : Dev) (f : Nat) : Prop := (d.fn f).clearing = true ∧ (d.fn f).rings = HostFn.reset.rings
      ∧ (d.fn f).backlog = [] ∧ (d.fn f).proto = 0 ∧ (d.fn f).busMaster = false ∧ (d.fn f).gen = (s.dev.fn f).gen + 1
    let keeps (d : Dev) : Prop := d.parts = s.dev.parts ∧ d.tiles = s.dev.tiles ∧ d.memory = s.dev.memory
      ∧ d.commands = s.dev.commands
    (∀ f : Fin 17, s.dev.pcie.linkUp = true → s.dev.fnEnabled f = true →
      ∃ s', exec (.functionLevelReset f) s = .next s' ∧ cleared s'.dev f ∧ keeps s'.dev
        ∧ (∀ h : Nat, h ≠ f → s'.dev.fn h = s.dev.fn h))
    ∧ (∀ f : Fin 17, ∃ s', exec (.functionLevelResetDone f) s = .next s' ∧ (s'.dev.fn f).clearing = false ∧ keeps s'.dev)
    ∧ (s.dev.pcie.linkUp = true →
      (∃ s', exec .pcieLinkLoss s = .next s' ∧ (∀ f, f < 17 → cleared s'.dev f) ∧ keeps s'.dev
        ∧ s'.dev.pcie.linkUp = false)
      ∧ (∃ s', exec .pcieFundamentalReset s = .next s' ∧ (∀ f, f < 17 → cleared s'.dev f) ∧ keeps s'.dev
        ∧ s'.dev.pcie.perst = true))
    ∧ (s.dev.pcie.perst = true → ∃ s', exec .perstNRelease s = .next s' ∧ s'.dev.pcie.perst = false
        ∧ s'.dev.pcie.linkUp = decide (s.dev.stage ≠ 0) ∧ keeps s'.dev)
    ∧ (s.dev.stage ≠ 0 → s.dev.pcie.perst = false →
      (∀ (f : Fin 17) (e m : Bool), s.dev.fnEnabled f = true →
        ∃ s', exec (.configurationRequest (.msix f e m)) s = .next s' ∧ (s'.dev.fn f).msixOn = e ∧ (s'.dev.fn f).allMasked = m
          ∧ (s'.dev.fn f).masked = (s.dev.fn f).masked ∧ keeps s'.dev)
      ∧ (∀ (f : Fin 17) (b : Bool), s.dev.fnEnabled f = true →
        ∃ s', exec (.configurationRequest (.busMaster f b)) s = .next s' ∧ (s'.dev.fn f).busMaster = b ∧ keeps s'.dev)
      ∧ (∀ n : Fin 17, ∃ s', exec (.configurationRequest (.numVfs n)) s = .next s' ∧ s'.dev.pcie.numVfs = n ∧ keeps s'.dev
          ∧ (∀ f : Nat, f ≤ n → s'.dev.fn f = s.dev.fn f)))

/-- R341 to R344, R347, R349, R369, R373, Tables LK-1, LK-6: how a link goes from state to state. In TRAIN every frame time sends this end's
frame; a good frame moves the training on as Table LK-1b says, and after 16 further frames in CONFIRM the link measures. -/
def Obligations.LinkStateChanges : Prop :=
  ∀ (s : State) (l : Fin 64) (who : Principal),
    let x := s.dev.link l
    let bc := s.dev.time.bc
    let becomes (i : Instr) (ok : LinkState → Prop) : Prop := ∃ s', exec i s = .next s' ∧ ok (s'.dev.link l)
      ∧ s'.dev.tiles = s.dev.tiles ∧ s'.dev.memory = s.dev.memory
    let goesDown (i : Instr) (cause : Nat) : Prop := becomes i (fun y => y.st = 5 ∧ y.downCause = cause ∧ y.lastDownBc = bc
      ∧ y.downFlits = 16 ∧ y.held = [] ∧ y.plannedQ = [] ∧ y.cnt.linkDowns = x.cnt.linkDowns + 1)
    (s.dev.accepts who (0x4100 + l) 1 1 → s.dev.linkBusy l = false → becomes (.linkEnableWrite who l true)
        (fun y => y.enable = true ∧ y.written = true ∧ y.st = (if x.st = 0 then 1 else x.st)))
    ∧ (s.dev.accepts who (0x4100 + l) 1 0 → s.dev.linkBusy l = false → x.asm = [] →
        becomes (.linkEnableWrite who l false) (fun y => y.enable = false ∧ y.written = true ∧ y.st = 0))
    ∧ (s.dev.accepts who (0x4100 + l) 13 1 → s.dev.linkBusy l = false → x.st = 4 →
        becomes (.remeasure who l) (fun y => y.measuring = true ∧ y.probes = 0 ∧ y.latCount = 0 ∧ y.rttCount = 0 ∧ y.st = 4))
    ∧ (x.st = 1 → becomes (.detectLock l) (fun y => y.st = 2 ∧ y.phase = 1 ∧ y.goodRun = 0
        ∧ y.offers = s.dev.router.dlpAllow % 4 ∧ y.frames = 0 ∧ y.tail = none))
    ∧ (x.st = 2 → becomes (.trainTimeout l) (fun y => y.st = 5 ∧ y.downCause = 8 ∧ y.lastDownBc = bc))
    ∧ (∀ (f : Bytes) (rep : FrameReport), x.st = 2 →
        let r0 := rep.request0
        let r1 := rep.request1
        let good : Bool := f.length == 64 && leAt f 0 4 == 0x52545645 && leAt f 56 8 == crc64 (f.take 56)
        let tuned := eqDone r0 = true ∧ eqDone r1 = true ∧ eqDone (leAt f 20 2) = true ∧ eqDone (leAt f 22 2) = true
        let common := x.offers &&& byteAt f 5
        let sent (y : LinkState) : Prop := y.frames = x.frames + 1 ∧ y.lastTx = s.dev.ownFrame l r0 r1
        let trains (ok : LinkState → Prop) : Prop := becomes (.trainingFrame l f rep) (fun y => sent y ∧ y.st = 2 ∧ ok y)
        (x.tail = some 1 → becomes (.trainingFrame l f rep) (fun y => sent y ∧ y.st = 3 ∧ y.measuring = true ∧ y.nextSeq = 0
          ∧ y.expected = 0 ∧ y.credits = x.peerBuffers))
        ∧ (x.tail = none → good = false → trains (fun y => y.goodRun = 0 ∧ y.phase = x.phase))
        ∧ (x.tail = none → good = true → x.phase = 1 → 1 ≤ byteAt f 4 → tuned → 7 ≤ x.goodRun → trains (fun y =>
            y.phase = 2 ∧ y.goodRun = 0 ∧ y.eqStatus.length = 2))
        ∧ (x.tail = none → good = true → x.phase = 2 → common = 0 → becomes (.trainingFrame l f rep) (fun y =>
            sent y ∧ y.st = 5 ∧ y.downCause = 7 ∧ y.dlp = 0 ∧ y.lastDownBc = bc))
        ∧ (x.tail = none → good = true → x.phase = 2 → 2 ≤ byteAt f 4 → 7 ≤ x.goodRun →
          (bit common 1 = true → trains (fun y => y.dlp = 0x0201 ∧ y.phase = 3 ∧ y.rateAt = y.frames + 1024))
          ∧ (bit common 1 = false → bit common 0 = true → trains (fun y => y.dlp = 0x0103 ∧ y.phase = 4)))
        ∧ (x.tail = none → good = true → x.phase = 3 → 4 ≤ byteAt f 4 → tuned → 7 ≤ x.goodRun → x.rateAt ≤ x.frames →
            x.rateAt < leAt f 32 4 → trains (fun y => y.phase = 4 ∧ y.goodRun = 0))
        ∧ (x.tail = none → good = true → x.phase = 4 → 4 ≤ byteAt f 4 → 63 ≤ x.goodRun → trains (fun y => y.tail = some 16
            ∧ y.peerDev = leAt f 8 4 % 2 ^ 20 ∧ y.peerLink = byteAt f 12
            ∧ y.peerBuffers = (slice f 14 6).map (·.toNat))))
    ∧ (x.st = 3 → x.measuring = true → 1024 ≤ x.rttCount → ∀ far,
        let synced := s.dev.time.sync = 2 ∧ x.peerSync = 2
        let up (ok : LinkState → Prop) : Prop := becomes (.measureComplete l far) (fun y => y.st = 4 ∧ y.roundTrip = x.rttMax
          ∧ y.measuring = false ∧ y.timer = bc ∧ ok y)
        (synced → 1024 ≤ x.latCount → up (fun y => y.latValid = true ∧ y.latency = x.latMax))
        ∧ (¬ synced → up (fun y => y.latValid = false ∧ y.latency = 0)))
    ∧ (x.st = 5 → x.enable = true → s.dev.linkBusy l = false →
        becomes (.linkRetrain l) (fun y => y.st = 1 ∧ y.latValid = false ∧ y.dlp = 0))
    ∧ (x.st = 4 → x.asm = [] →
        goesDown (.laneLockLoss l) (if 63 ≤ x.badRun then 2 else 3)
        ∧ (∀ b, x.stall = some b → b + 65536 ≤ bc → goesDown (.stallTimeout l) 6))

/-- R340, R350, R351, R354, R356, R365, R386: what a flit time of an UP link sends. Every flit is 256 bytes with its CRC; in a
reserved slot the head of the planned queue goes out, in another one the head of a best-effort queue with a credit, each under the
next sequence number and held until it is acknowledged; with neither the flit carries no data. -/
def Obligations.FlitsSentInTurn : Prop :=
  ∀ (s : State) (l : Fin 64) (sub : Fin 25),
    let x := s.dev.link l
    x.st = 4 → x.replayAt = none → x.missed = 0 → x.held.length < 512 → x.measuring = false → x.freed.length = 6 →
    let resv := match s.dev.slotAt l sub with
      | some j => !s.dev.anchorWaits l && reservedSlot (s.dev.plannedSlots l) j | none => false
    let head := match s.dev.slotAt l sub with | some j => x.headroom j | none => false
    let sends (seq kind : Nat) (payload : Bytes) (ok : LinkState → Prop) : Prop := ∃ s', exec (.flitTransmit l sub) s = .next s'
      ∧ (s'.dev.link l).lastTx.length = 256
      ∧ leAt (s'.dev.link l).lastTx 248 8 = crc64 ((s'.dev.link l).lastTx.take 248)
      ∧ leAt (s'.dev.link l).lastTx 0 2 = seq % 2 ^ 16 ∧ byteAt (s'.dev.link l).lastTx 2 = kind % 256
      ∧ slice (s'.dev.link l).lastTx 32 216 = padTo 216 payload
      ∧ (s'.dev.link l).st = 4 ∧ ok (s'.dev.link l)
    let held (f : Flit) (y : LinkState) : Prop := y.held = x.held ++ [⟨x.nextSeq, f, 0, true⟩]
      ∧ y.nextSeq = (x.nextSeq + 1) % 2 ^ 16
    (∀ f rest, resv = true → x.plannedQ = f :: rest →
      sends x.nextSeq f.kind f.payload (fun y => held f y ∧ y.plannedQ = rest ∧ y.credits = x.credits))
    ∧ (∀ v f rest, resv = false → head = false → s.dev.anchorWaits l = false →
      (List.range 6).find? (fun u => !(x.beQ.getD u []).isEmpty && decide (0 < x.credits.getD u 0)) = some v →
      x.beQ.getD v [] = f :: rest →
      sends x.nextSeq f.kind f.payload (fun y => held f y ∧ y.beQ = x.beQ.set v rest
        ∧ y.credits = x.credits.set v (x.credits.getD v 0 - 1) ∧ y.plannedQ = x.plannedQ))
    ∧ ((resv = true ∧ x.plannedQ = [] ∨ resv = false ∧ (head = true ∨ s.dev.anchorWaits l = true
        ∨ (List.range 6).find? (fun u => !(x.beQ.getD u []).isEmpty && decide (0 < x.credits.getD u 0)) = none)) →
      sends 0 0 [] (fun y => y.held = x.held ∧ y.nextSeq = x.nextSeq ∧ y.plannedQ = x.plannedQ ∧ y.beQ = x.beQ
        ∧ y.credits = x.credits))

/-- R355, R357, R358, R361, R368, R370: what a flit time of the receiving direction of an UP link does, and the two timers. A flit
in error, or out of its order, is owed a NAK; the one that was expected is accepted; an older one is a duplicate; 64 in error take the
link down. Its codewords are counted: up to 15 symbol errors are corrected, more fail every flit with a bit in the codeword. An
unacknowledged flit is replayed after REPLAY_TIMEOUT, and a request without a response ends once RESP_TIMEOUT has passed: no
byte outside the landing space of a READ changes. -/
def Obligations.FlitsReceivedInOrder : Prop :=
  (∀ (s : State) (l : Fin 64) (sub : Fin 25) (f : Bytes) (shared : Bool) (errors : List Nat),
    let x := s.dev.link l
    let bad := (errors.filter (15 < ·)).length
    let hit : Bool := (shared && x.cwBad) || errors.any (15 < ·)
    let good : Bool := !hit && f.length == 256 && leAt f 248 8 == crc64 (f.take 248)
    let d := (leAt f 0 2 + 2 ^ 16 - x.expected) % 2 ^ 16
    let takes (ok : LinkState → Prop) : Prop := ∃ s', exec (.flitReceive l sub f shared errors) s = .next s'
      ∧ (s'.dev.link l).cnt.cwUncorrectable = x.cnt.cwUncorrectable + bad
      ∧ (s'.dev.link l).cnt.cwCorrected = x.cnt.cwCorrected + (errors.filter (fun e => decide (0 < e) && decide (e ≤ 15))).length
      ∧ s'.dev.router.uncorrectable = s.dev.router.uncorrectable + bad ∧ ok (s'.dev.link l)
    x.st = 4 →
    (good = false → x.badRun < 63 → takes (fun y => y.nakPending = true ∧ y.badRun = x.badRun + 1
      ∧ y.cnt.crcErrors = x.cnt.crcErrors + 1 ∧ y.expected = x.expected ∧ y.st = 4))
    ∧ (good = false → 63 ≤ x.badRun →
      takes (fun y => y.st = 5 ∧ y.downCause = 2))
    ∧ (good = true → byteAt f 2 % 4 = 1 → byteAt f 8 = 0 → byteAt f 16 = 0 →
      (d = 0 → takes (fun y => y.expected = (x.expected + 1) % 2 ^ 16 ∧ y.nakPending = false ∧ y.anyAccepted = true
          ∧ y.badRun = 0))
      ∧ (1 ≤ d → d ≤ 32767 → takes (fun y => y.expected = x.expected ∧ y.nakPending = true))
      ∧ (32768 ≤ d → takes (fun y => y.expected = x.expected ∧ y.nakPending = x.nakPending
          ∧ y.cnt.duplicates = x.cnt.duplicates + 1))))
  ∧ (∀ (s : State) (l : Fin 64) (h : HeldFlit) (rest : List HeldFlit), (s.dev.link l).held = h :: rest →
    (s.dev.link l).st = 4 → (s.dev.link l).timer + (s.dev.link l).replayTimeout ≤ s.dev.time.bc →
    ∃ s', exec (.replayTimeout l) s = .next s' ∧ (s'.dev.link l).replayAt = some h.seq
      ∧ (s'.dev.link l).held = h :: rest ∧ (s'.dev.link l).cnt.timeoutReplays = (s.dev.link l).cnt.timeoutReplays + 1
      ∧ s'.dev.router.replays = s.dev.router.replays + 1)
  ∧ (∀ (s : State) (die : Fin 2) (ix : Fin 2048) (e : OrtEntry) (k t j : Nat),
    s.dev.router.ort.find? (fun y => y.die == die.val && y.ix == ix.val) = some e → e.owner = .tile k t j →
    e.lost = none → e.opened + s.dev.router.respTimeout < s.dev.time.bc →
    s.dev.answered e (e.opened + s.dev.router.respTimeout) = false →
    ∃ s', exec (.respTimeout die ix) s = .next s' ∧ s'.dev.router.respTimeouts = s.dev.router.respTimeouts + 1
      ∧ s'.dev.router.remoteFails = s.dev.router.remoteFails + 1
      ∧ s'.dev.router.ort = s.dev.router.ort.filter (fun y => !(y.die == die.val && y.ix == ix.val))
      ∧ (∀ q, q < e.land ∨ e.land + e.len ≤ q → s'.dev.byte q = s.dev.byte q))

/-- R379, R384, R388, R389, R392, R395, R396, R399, R403: packets on their way. Each goes one place on, or is dropped and counted; a packet that crosses
between the network dies goes on as far as its flits have been 6 beats in the bridge. -/
def Obligations.PacketsGoOneHop : Prop :=
  ∀ (s : State),
    let r := s.dev.router
    let bc := s.dev.time.bc
    let gives (i : Instr) (ok : Dev → Prop) : Prop := ∃ s', exec i s = .next s' ∧ ok s'.dev
      ∧ s'.dev.tiles = s.dev.tiles ∧ s'.dev.memory = s.dev.memory
    (∀ id q, r.ingress.find? (·.id == id) = some q →
      let p := q.pkt
      let hop : Packet := if p.phase = 0 ∧ p.mid = s.dev.selfDev then
        { p with phase := 1, lastRank := 0, vc := if p.vc = 0 then 1 else if p.vc = 2 then 3 else p.vc } else p
      (s.dev.passes q = false → gives (.beForward id) (fun d =>
        d.router.ingress = r.ingress.filter (·.id != q.id) ∧ d.router.fenceDrops = r.fenceDrops + 1))
      ∧ (s.dev.passes q = true → kindOk p = false ∨ p.planned = true → gives (.beForward id) (fun d =>
        d.router.ingress = r.ingress.filter (·.id != q.id) ∧ d.router.badKind = r.badKind + 1))
      ∧ (s.dev.passes q = true → kindOk p = true → p.planned = false →
        (hop.dest = s.dev.selfDev → gives (.beForward id) (fun d =>
          d.router.ingress = r.ingress.filter (·.id != id) ∧ d.router.sink = r.sink ++ [{ q with pkt := hop }]))
        ∧ (∀ k rt rank, hop.dest ≠ s.dev.selfDev → s.dev.partOfTag p.fence = some k → (s.dev.part k).net.route = some rt →
          s.dev.rankOf k (if hop.phase = 0 then hop.mid else hop.dest) = some rank →
          let out := rt.next.getD rank 0xFF
          let rule := rt.linkRank.getD out 0
          (64 ≤ out ∨ s.dev.openFor k out = false → gives (.beForward id) (fun d => d.router.unroutable = r.unroutable + 1))
          ∧ (out < 64 → s.dev.openFor k out = true → rule ≤ hop.lastRank →
              gives (.beForward id) (fun d => d.router.rankDrops = r.rankDrops + 1))
          ∧ (out < 64 → s.dev.openFor k out = true → hop.lastRank < rule → gives (.beForward id) (fun d =>
              d.router.ingress = r.ingress.filter (·.id != id)
              ∧ d.router.out = r.out ++ [(out, { q with pkt := { hop with lastRank := rule } })])))))
    ∧ (∀ (l : Fin 64) (vc : Fin 6) q, r.out.find? (fun o => o.1 == l.val && o.2.pkt.vc == vc.val) = some (l.val, q) →
      (s.dev.link l).st = 4 → 0 < (s.dev.link l).credits.getD vc 0 → (s.dev.link l).beQ.length = 6 →
      let n := s.dev.flitsAtLink q (linkDie l)
      0 < n → gives (.creditSend l vc) (fun d =>
        (d.link l).beQ.getD vc [] = (s.dev.link l).beQ.getD vc [] ++ (q.pkt.flits.drop q.handed).take n
        ∧ (q.flits ≤ q.handed + n → d.router.out = r.out.filter (·.2.id != q.id))
        ∧ (q.handed + n < q.flits → d.router.out
            = r.out.map (fun o => if o.2.id = q.id then (o.1, { o.2 with handed := q.handed + n }) else o))))
    ∧ (∀ (l : Fin 64) x p, r.posted.find? (fun x => decide (x.due ≤ bc)
          && (match x.item with | .planned m _ => m == l.val | _ => false)) = some x → x.item = .planned l p →
      (s.dev.link l).st = 4 → (s.dev.link l).plannedQ.length + p.flits.length ≤ 256 →
      gives (.plannedEnqueue l) (fun d => d.router.posted = r.posted.erase x
        ∧ (d.link l).plannedQ = (s.dev.link l).plannedQ ++ p.flits))
    ∧ (∀ id q k, r.plannedIn.find? (fun q => q.id == id && q.pkt.dest != s.dev.selfDev) = some q →
      let out := bits q.pkt.route (6 * q.pkt.hop) 6
      let transit := if linkDie out = linkDie (q.link.getD 0) then 2 else 8
      (bc < q.since + transit → exec (.plannedForward id) s = .next s)
      ∧ (q.since + transit ≤ bc → s.dev.passes q = true → kindOk q.pkt = true → q.pkt.planned = true →
        s.dev.partOfTag q.pkt.fence = some k →
        (q.pkt.hop < 3 → bit (s.dev.part k).net.plannedLinks out = true → (s.dev.link out).st = 4 →
          (s.dev.link out).plannedQ.length + q.pkt.flits.length ≤ 256 →
          gives (.plannedForward id) (fun d => d.router.plannedIn = r.plannedIn.filter (·.id != id)
            ∧ (d.link out).plannedQ = (s.dev.link out).plannedQ ++ { q.pkt with hop := q.pkt.hop + 1 }.flits))
        ∧ (3 ≤ q.pkt.hop ∨ bit (s.dev.part k).net.plannedLinks out = false ∨ (s.dev.link out).st ≠ 4 →
          gives (.plannedForward id) (fun d => d.router.plannedIn = r.plannedIn.filter (·.id != id)
            ∧ d.router.plannedDrops = r.plannedDrops + 1))))
    ∧ (∀ id q k pl, r.plannedIn.find? (fun q => q.id == id && q.pkt.dest == s.dev.selfDev) = some q →
      s.dev.passes q = true → kindOk q.pkt = true → q.pkt.planned = true → s.dev.partOfTag q.pkt.fence = some k →
      s.dev.planOf k = some pl → q.pkt.xfer < pl.transfers.length → (s.dev.part k).time.mode ≠ .stopped →
      ∃ s', exec (.plannedPacketArrival id) s = .next s' ∧ s'.dev.router.plannedIn = r.plannedIn.filter (·.id != id)
        ∧ (s'.dev.part k).plan.arrivals
            = countArrival q.pkt.xfer q.pkt.payload.length (s.dev.part k).plan.arrivals ∧ s'.dev.memory = s.dev.memory)
    ∧ (∀ (t : Fin 672) x p j land, r.posted.find? (fun x => x.tile == t.val && decide (x.due ≤ bc)
          && (match x.item with | .packet _ _ _ => true | _ => false)) = some x → x.item = .packet p j land →
      (∀ e ∈ r.ort, e.die = tileNd t → e.ix ≠ 0) →
      gives (.bePacketInject t) (fun d => d.router.posted = r.posted.erase x
        ∧ d.router.ingress.length = r.ingress.length + 1
        ∧ d.router.ort.length = r.ort.length + (if p.kind = 2 ∨ p.kind = 3 ∨ p.kind = 5 then 1 else 0)))
    ∧ (∀ id q, (r.ingress ++ r.sink ++ r.out.map (·.2)).find? (·.id == id) = some q → q.buf < 6 → q.since + 65536 ≤ bc →
      gives (.staleDrop id) (fun d => d.router.staleDrops = r.staleDrops + 1
        ∧ d.router.ingress = r.ingress.filter (·.id != q.id) ∧ d.router.sink = r.sink.filter (·.id != q.id)))
    ∧ (∀ l : Fin 64, s.dev.anchorWaits l = true → bc % 64 = 0 → gives (.anchorChange l) (fun d =>
        (d.link l).anchorPbc = false ∧ (d.link l).plannedQ = []
        ∧ d.router.plannedDrops = r.plannedDrops + ((s.dev.link l).plannedQ.filter (fun f => bit f.kind 3)).length))

/-- R379, R381, R398, R423 to R426, R429, R430: packets at their sink. A request is performed or answered with the status that turns it away;
a response closes its entry; notices go into an inbox or are answered BUSY; signals wait for the data written before them. Each of WRITE,
WRITE_C, READ, RESPONSE, NOTICE, SIGNAL, MGMT, REMOTE_WRITE_COMPLETE, SIGNAL_RELEASE and NOTICE_RETRY completes with this effect in every
state that meets its premises. -/
def Obligations.PacketsServedAtSink : Prop :=
  ∀ (s : State) (id : Nat) (q : InPacket) (k : Nat),
    let r := s.dev.router
    let p := q.pkt
    let gives (i : Instr) (ok : Dev → Prop) : Prop := ∃ s', exec i s = .next s' ∧ ok s'.dev
      ∧ s'.dev.router.sink = r.sink.filter (·.id != q.id) ∧ s'.dev.memory = s.dev.memory
    let answered (status : Nat) (d : Dev) : Prop := ∃ y ∈ d.router.ingress, y.pkt.kind = 4 ∧ y.pkt.status = status
      ∧ y.pkt.dest = p.src ∧ y.pkt.rtag = p.rtag ∧ y.link = none
    (s.dev.partOfTag p.fence = some k →
      (∀ i kind, (i = .write id ∧ kind = 1) ∨ (i = .writeC id ∧ kind = 2) → s.dev.sunk id kind = some q →
        (s.dev.reach k p.addr p.payload.length = false → gives i (fun d => (kind = 2 → answered 3 d)
            ∧ d.memTotals.addressRejects = s.dev.memTotals.addressRejects + 1 ∧ d.cp = s.dev.cp))
        ∧ (s.dev.reach k p.addr p.payload.length = true → weightRefused s.dev k p.addr p.payload.length = false →
            s.dev.parkFits p.addr p.payload.length = true → receivingBatch s.dev k p.addr p.payload.length = none →
            partsOf p.addr p.payload.length = [(p.addr, p.payload.length)] → isHbm p.addr = true →
            gives i (fun d => d.router.writes = r.writes ++ [⟨s.dev.accessSeq, k, pathOf p, p.payload.length, 1,
                if kind = 2 then some p else none, q.buffers⟩]
              ∧ d.cp = s.dev.cp ++ [⟨s.dev.accessSeq + 1, true, p.addr, p.payload, p.payload.length,
                writeCost p.addr p.payload.length, false, .packet s.dev.accessSeq⟩])))
      ∧ (s.dev.sunk id 3 = some q → s.dev.reach k p.addr p.len = false → gives (.read id) (answered 3))
      ∧ (s.dev.sunk id 3 = some q → s.dev.reach k p.addr p.len = true →
          partsOf p.addr p.len = [(p.addr, p.len)] → isHbm p.addr = true →
          gives (.read id) (fun d => d.router.reads = r.reads ++ [⟨s.dev.accessSeq, p, 1, q.buffers⟩]
            ∧ d.cp = s.dev.cp ++ [⟨s.dev.accessSeq + 1, false, p.addr, [], p.len, readCost p.addr p.len, false,
                .packet s.dev.accessSeq⟩]))
      ∧ (s.dev.sunk id 5 = some q → p.addr % 2 ^ 16 = 0xFFFF → gives (.notice id) (fun d =>
          if r.fwInbox.length < 256 then answered 0 d ∧ d.router.fwInbox = r.fwInbox ++ [p.payload]
            ∧ d.sync.noticesDelivered = s.dev.sync.noticesDelivered + 1
          else answered 4 d ∧ d.router.fwInbox = r.fwInbox))
      ∧ (s.dev.sunk id 5 = some q → p.addr % 2 ^ 16 ≠ 0xFFFF → s.dev.partOfTile (p.addr % 2 ^ 16) = some k →
          s.dev.tileEnabled (p.addr % 2 ^ 16) = true → gives (.notice id) (fun d =>
          let inbox := (s.dev.tile (p.addr % 2 ^ 16)).core.inbox
          if inbox.length < 16 then answered 0 d ∧ (d.tile (p.addr % 2 ^ 16)).core.inbox = inbox ++ [padTo 16 p.payload]
          else answered 4 d ∧ (d.tile (p.addr % 2 ^ 16)).core.inbox = inbox))
      ∧ (s.dev.sunk id 6 = some q →
          let t := leAt p.payload 6 2
          let j := byteAt p.payload 8
          s.dev.partOfTile t = some k → s.dev.tileEnabled t = true → j < 16 → (s.dev.tile t).signals.length = 16 →
          (q.link = none → gives (.signal id) (fun d => (d.tile t).signals.getD j 0 = (s.dev.tile t).signals.getD j 0 + 1
            ∧ d.sync.signalsDelivered = s.dev.sync.signalsDelivered + 1))
          ∧ (∀ l, q.link = some l → (r.holds.filter (·.die == linkDie l)).length < 512 → gives (.signal id) (fun d =>
              d.router.holds = r.holds ++ [⟨q.id, linkDie l, k, pathOf p, leAt p.payload 0 6, t, j, s.dev.time.bc⟩]
              ∧ d.tiles = s.dev.tiles))))
    ∧ (∀ e t j, s.dev.sunk id 4 = some q → r.ort.find? (fun e => e.die * 2048 + e.ix == p.rtag) = some e →
      e.owner = .tile k t j → (s.dev.tile t).signals.length = 16 → j < 16 → p.payload = [] →
      gives (.response id) (fun d => d.router.ort = r.ort.filter (fun x => !(x.die == e.die && x.ix == e.ix))
        ∧ (p.status = 0 → (d.tile t).signals.getD j 0 = (s.dev.tile t).signals.getD j 0 + 1)
        ∧ (p.status ≠ 0 → d.router.remoteFails = r.remoteFails + 1)))
    ∧ (s.dev.sunk id 7 = some q → gives (.mgmt id) (fun d =>
        if r.fwInbox.length < 256 then d.router.fwInbox = r.fwInbox ++ [p.payload] ∧ d.router.mgmtDrops = r.mgmtDrops
        else d.router.fwInbox = r.fwInbox ∧ d.router.mgmtDrops = r.mgmtDrops + 1))
    ∧ (∀ (w : RemoteWrite) c, r.writes.find? (·.id == id) = some w → w.left = 0 →
      r.writes.find? (·.path == w.path) = some w → (s.dev.part w.part).net.recvPaths = [(w.path, c)] →
      ∃ s', exec (.remoteWriteComplete id) s = .next s' ∧ s'.dev.router.writes = r.writes.filter (·.id != id)
        ∧ (s'.dev.part w.part).net.recvPaths = [(w.path, (c + w.len) % 2 ^ 48)])
    ∧ (∀ (h : HeldSignal), r.holds.find? (·.id == id) = some h → (s.dev.tile h.tile).signals.length = 16 → h.j < 16 →
      (Sparse.get 0 (s.dev.part h.part).net.recvPaths h.path + 2 ^ 48 - h.s % 2 ^ 48) % 2 ^ 48 < 2 ^ 47 →
      ∃ s', exec (.signalRelease id) s = .next s' ∧ s'.dev.router.holds = r.holds.filter (·.id != id)
        ∧ (s'.dev.tile h.tile).signals.getD h.j 0 = (s.dev.tile h.tile).signals.getD h.j 0 + 1)
    ∧ (∀ (die : Fin 2) (ix : Fin 2048) (e : OrtEntry) (again : Packet) (b : Nat),
      r.ort.find? (fun y => y.die == die.val && y.ix == ix.val) = some e → e.again = some again → e.retryAt = some b →
      b ≤ s.dev.time.bc → ∃ s', exec (.noticeRetry die ix) s = .next s'
        ∧ s'.dev.router.ingress.map (·.pkt) = r.ingress.map (·.pkt) ++ [again]
        ∧ s'.dev.router.ort.length = r.ort.length)

/-- R401, R402, R405: fence tags and open links. Only a stopped partition's tag changes; a change cools the old one and drops what the partition
had posted; a tag that another partition holds, or that cools, is refused; a recheck opens a link to a partition exactly where its
route table names it with a rank and a peer of another rank. -/
def Obligations.FenceTagsGuardLinks : Prop :=
  ∀ (s : State) (k : Fin 16) (who : Principal) (tag : BitVec 16),
    let p := s.dev.part k
    let r := s.dev.router
    (p.time.mode ≠ .stopped → exec (.fenceTagWrite who k tag) s = .next s)
    ∧ (s.dev.accepts who (0x3040 + 0x100 * k) 1 tag.toNat → p.time.mode = .stopped → tag.toNat ≤ 0xFFFE →
      (tag.toNat ≠ 0 → (∃ j : Fin 16, j ≠ k ∧ (s.dev.part j).fenceTag = tag.toNat) ∨ (∃ e ∈ r.cooling, e.1 = tag.toNat) →
        exec (.fenceTagWrite who k tag) s = .next s)
      ∧ ((tag.toNat = 0 ∨ ((∀ j : Fin 16, j ≠ k → (s.dev.part j).fenceTag ≠ tag.toNat) ∧ ∀ e ∈ r.cooling, e.1 ≠ tag.toNat)) →
        tag.toNat ≠ p.fenceTag →
        ∃ s', exec (.fenceTagWrite who k tag) s = .next s' ∧ (s'.dev.part k).fenceTag = tag.toNat
          ∧ s'.dev.router.posted = r.posted.filter (·.part != k.val) ∧ s'.dev.router.ort = r.ort.filter (·.part != k.val)
          ∧ s'.dev.router.cooling = (if p.fenceTag = 0 then r.cooling else r.cooling ++ [(p.fenceTag, s.dev.time.bc)])
          ∧ (s'.dev.part k).weights.mirrors = []))
    ∧ (∃ s', exec (.tagCooldownExpiry tag) s = .next s' ∧ s'.dev.router.cooling = r.cooling.filter (fun e =>
          !(e.1 == tag.toNat && decide (e.2 + r.tagCooldown ≤ s.dev.time.bc)))
        ∧ s'.dev.parts = s.dev.parts)
    ∧ (∀ (l : Fin 64) (rt : RouteTable), (s.dev.link l).st = 4 → p.net.route = some rt →
      ∃ s', exec (.linkRecheck l) s = .next s' ∧ (bit (s'.dev.part k).net.openLinks l = true ↔
        bit rt.openLinks l = true ∧ rt.linkRank.getD l 0 ≠ 0
          ∧ ∃ rank, s.dev.rankOf k (s.dev.link l).peerDev = some rank ∧ rank ≠ rt.thisRank))

/-- R412 to R419, R433: barriers. An entry, of a tile or a host, counts in the slot of its round; one for neither the current round
nor the next is an overrun, one of another E, or past it, a mismatch, and neither counts. The last entry at a crown whose children
have all reported completes the round, as the last report does; at any other device BAR_DONE does. -/
def Obligations.BarriersCountAndComplete : Prop :=
  ∀ (s : State) (k id round : Nat),
    let b := s.dev.barrier k id
    let x := b.slot round
    let net := (s.dev.part k).net
    let ids := match s.dev.planOf k with | some q => q.header.barrierIds | none => 0
    let kept (d : Dev) : Prop := d.barrier k id = b
      ∧ (s.dev.halted = false → s.dev.dump.state ≠ 1 → (s.dev.part k).time.mode ≠ .stopped → (d.part k).time.stopPending = true)
    let completed (d : Dev) : Prop := (d.barrier k id).n = b.after ∧ (d.barrier k id).slot b.n = .reset
      ∧ d.sync.rounds = s.dev.sync.rounds + 1
    let enters (i : Instr) (e : Nat) (tile : Option (Nat × Nat)) (fn : Option Nat) (also done : Dev → Prop) : Prop :=
      let gives (ok : Dev → Prop) : Prop := ∃ s', exec i s = .next s' ∧ ok s'.dev
      (round ≠ b.n → round ≠ b.after → gives (fun d => also d ∧ kept d ∧ d.sync.overruns = s.dev.sync.overruns + 1))
      ∧ (round = b.n ∨ round = b.after → (∃ e0, x.e = some e0 ∧ (e0 ≠ e ∨ e ≤ x.count)) →
          gives (fun d => also d ∧ kept d ∧ d.sync.mismatches = s.dev.sync.mismatches + 1))
      ∧ (round = b.n → x.e = none ∨ (x.e = some e ∧ x.count < e) → (∀ t j, tile = some (t, j) → x.j = none ∨ x.j = some j) →
          (x.count + 1 ≠ e → gives (fun d => also d ∧
            let y := (d.barrier k id).slot round
            y.count = x.count + 1 ∧ y.e = some e ∧ (d.barrier k id).n = b.n
              ∧ (∀ t j, tile = some (t, j) → t ∈ y.entrants ∧ y.j = some j)
              ∧ (∀ f, fn = some f → y.hosts = x.hosts ++ [f])))
          ∧ (x.count + 1 = e → net.isCrown = true → (∀ l ∈ linksOf net.childLinks, l ∈ x.children) → (b.slot b.after).e = none →
              gives (fun d => done d ∧ completed d)))
    (∀ (t : Fin 672) (p : Posting) (e j : Nat), s.dev.router.posted.find? (fun x => x.tile == t.val
          && decide (x.due ≤ s.dev.time.bc) && (match x.item with | .barrier _ _ _ _ => true | _ => false)) = some p →
      p.item = .barrier id round e j → p.part = k →
      let taken (d : Dev) : Prop := d.router.posted = s.dev.router.posted.erase p
      enters (.barrierEntry t) e (some (t, j)) none taken taken)
    ∧ (∀ (f : Fin 17) (c : Cmd), s.dev.commandAt f 0x0221 c → c.len = 0 → c.target = k → c.arg0 % 256 = id →
      let e := bits c.arg0 16 11
      (ids ≤ id ∨ e = 0 ∨ 1024 < e → ∃ s', exec (.barrierEnter f) s = .next s' ∧ s.dev.answers s'.dev c 0 1 0
          ∧ s'.dev.parts = s.dev.parts)
      ∧ (id < ids → 1 ≤ e → e ≤ 1024 → bits c.arg0 8 8 = round →
          enters (.barrierEnter f) e none (some c.fn) (fun d => d.commands = s.dev.commands.filter (·.id != c.id))
            (fun d => d.commands = s.dev.commands.filter (·.id != c.id))))
    ∧ (∀ (f : Fin 17) (c : Cmd), s.dev.commandAt f 0x0222 c → c.len = 0 → c.target = k → c.arg0 % 256 = id → id < ids →
      ∃ s', exec (.barrierWatch f) s = .next s' ∧ s.dev.answers s'.dev c 0 0 0
        ∧ s'.dev.barrier k id = { b with watches := b.watches ++ [(bits c.arg0 8 8, c.fn)] })
    ∧ (∀ n, s.dev.treeIn 2 true n k → byteAt n.body 2 = id → byteAt n.body 3 = round →
      let right := (byteAt n.body 4 % 2 == 1) = net.parity ∧ (round = b.n ∨ round = b.after)
      (¬ right → ∃ s', exec .barReport s = .next s' ∧ s'.dev.noticesIn = s.dev.noticesIn.erase n
          ∧ s'.dev.sync.staleTree = s.dev.sync.staleTree + 1 ∧ s'.dev.parts = s.dev.parts)
      ∧ (right → round = b.n → x.e ≠ some x.count → ∃ s', exec .barReport s = .next s'
          ∧ n.link ∈ ((s'.dev.barrier k id).slot round).children ∧ ((s'.dev.barrier k id).slot round).count = x.count
          ∧ (s'.dev.barrier k id).n = b.n)
      ∧ (right → round = b.n → x.e = some x.count → net.isCrown = true →
          (∀ l ∈ linksOf net.childLinks, l = n.link ∨ l ∈ x.children) → (b.slot b.after).e = none →
          ∃ s', exec .barReport s = .next s' ∧ completed s'.dev))
    ∧ (∀ n, s.dev.treeIn 3 false n k → byteAt n.body 2 = id → byteAt n.body 3 = round → n.link < 64 →
      let right := (byteAt n.body 4 % 2 == 1) = net.parity ∧ round = b.n
      (¬ right → ∃ s', exec .barDone s = .next s' ∧ s'.dev.sync.staleTree = s.dev.sync.staleTree + 1 ∧ s'.dev.parts = s.dev.parts)
      ∧ (right → ∃ s', exec .barDone s = .next s' ∧ completed s'.dev))

/-- R435 to R440: the bow. BOW_START begins one at a ready crown and is answered with the cause where it is not; BOW, BOW_ACK, START
and ABORT act on the partition whose tree they come along, and at BC0 the plan of a device that has had START begins at PBC 0. -/
def Obligations.BowsStartOrAbort : Prop :=
  ∀ (s : State) (k : Nat),
    let p := s.dev.part k
    let w := p.net.bow
    let bc := s.dev.time.bc
    let gives (i : Instr) (ok : Dev → Prop) : Prop := ∃ s', exec i s = .next s' ∧ ok s'.dev
    let stale (i : Instr) (n : NoticeIn) : Prop := gives i (fun d => d.noticesIn = s.dev.noticesIn.erase n
      ∧ d.sync.staleTree = s.dev.sync.staleTree + 1 ∧ d.parts = s.dev.parts)
    (∀ (f : Fin 17) (c : Cmd), s.dev.commandAt f 0x0220 c → c.len = 0 → c.target = k →
      let busy := w.state = 1 ∨ w.state = 2
      let elsewhere := ∃ q, p.plan.plan = some q ∧ q.header.rank ≠ q.header.crownRank
      let cause := bowTest s.dev k
      let answers (status : Nat) : Prop := gives (.bowStart f) (fun d => s.dev.answers d c 0 status 0 ∧ d.parts = s.dev.parts)
      (busy → answers 10) ∧ (¬ busy → elsewhere → answers 9) ∧ (¬ busy → ¬ elsewhere → cause ≠ 0 → answers cause)
      ∧ (¬ busy → ¬ elsewhere → cause = 0 → linksOf p.net.childLinks ≠ [] → gives (.bowStart f) (fun d =>
          s.dev.answers d c 0 0 0
          ∧ (d.part k).net.bow = { Bow.reset with
              state := 1, serial := (w.serial + 1) % 256, ackBy := bc + s.dev.sync.bowWindow })))
    ∧ (∀ n, s.dev.treeIn 8 false n k → n.link < 64 →
      let a := leAt n.body 6 8
      let cause := if bowTest s.dev k ≠ 0 then bowTest s.dev k else if a < bc then 5 else 0
      let begun : Bow := { Bow.reset with state := 1, serial := byteAt n.body 2, ackBy := a }
      gives .bow (fun d => d.noticesIn = s.dev.noticesIn.erase n ∧ (d.part k).net.bow =
        (if cause ≠ 0 then { begun with failDev := s.dev.selfDev, failCause := cause, failed := true, fails := 1 }
         else if linksOf p.net.childLinks = [] then { begun with okSent := true, state := 2 } else begun)))
    ∧ (∀ n, s.dev.treeIn 9 true n k →
      let b := n.body.drop 2
      (s.dev.bowCurrent k b = false → stale .bowAck n)
      ∧ (s.dev.bowCurrent k b = true → byteAt b 1 % 2 = 0 → gives .bowAck (fun d => (d.part k).net.bow.oks =
          if w.oks.any (·.1 == n.link) then w.oks else w.oks ++ [(n.link, leAt b 2 2)]))
      ∧ (s.dev.bowCurrent k b = true → byteAt b 1 % 2 = 1 → w.failed = false → w.bc0 = none → gives .bowAck (fun d =>
          (d.part k).net.bow.failed = true ∧ (d.part k).time = p.time
          ∧ (if p.net.isCrown then (d.part k).net.bow.state = 4 ∧ d.sync.bowAborts = s.dev.sync.bowAborts + 1
             else (d.part k).net.bow.fails = w.fails + leAt b 8 2 ∧ (d.part k).net.bow.state = w.state))))
    ∧ (∀ (k' : Fin 16), k = k' → (∃ l ∈ linksOf p.net.childLinks, w.oks.any (·.1 == l) = false ∧ bit w.failLinks l = false) →
      w.state = 1 → w.failed = false → w.bc0 = none → w.ackBy ≤ bc → gives (.bowAckDeadline k') (fun d =>
        (d.part k).net.bow.failed = true ∧ (d.part k).net.bow.failCause = 6
        ∧ (∀ l ∈ linksOf p.net.childLinks, w.oks.any (·.1 == l) = false → bit (d.part k).net.bow.failLinks l = true)
        ∧ (p.net.isCrown = true → (d.part k).net.bow.state = 4)))
    ∧ (∀ n, s.dev.treeIn 10 false n k →
      let b := n.body.drop 2
      (s.dev.bowCurrent k b = false → stale .start n)
      ∧ (s.dev.bowCurrent k b = true → bc < leAt b 4 8 → gives .start (fun d =>
          (d.part k).net.bow = { w with bc0 := some (leAt b 4 8) } ∧ (d.part k).time = p.time))
      ∧ (s.dev.bowCurrent k b = true → leAt b 4 8 ≤ bc → s.dev.halted = false → s.dev.dump.state ≠ 1 → p.time.mode ≠ .stopped →
          gives .start (fun d => (d.part k).net.bow = w ∧ (d.part k).time.stopPending = true)))
    ∧ (∀ (k' : Fin 16) bc0, k = k' → w.bc0 = some bc0 → w.state ≠ 3 → w.state ≠ 4 → bc0 ≤ bc → p.plan.state = 2 → s.dev.selfDev ≠ 0xFFFFF →
      gives (.bowStartEdge k') (fun d => (d.part k).time.mode = .running ∧ (d.part k).time.pbc = 0 ∧ (d.part k).time.offset = bc
        ∧ (d.part k).plan.state = 3 ∧ (d.part k).plan.plan = p.plan.plan ∧ (d.part k).audit.step = p.audit.stepBase
        ∧ (d.part k).net.bow = { w with state := 3, startBc := bc0 } ∧ (∀ j : Nat, j ≠ k → d.part j = s.dev.part j)))
    ∧ (∀ n, s.dev.treeIn 11 false n k →
      let b := n.body.drop 2
      (s.dev.bowCurrent k b = false → stale .abort n)
      ∧ (s.dev.bowCurrent k b = true → gives .abort (fun d => (d.part k).net.bow = { w with
            state := 4, failed := true, failDev := leAt b 4 4 % 2 ^ 20, failCause := leAt b 4 4 / 2 ^ 20 % 256, bc0 := none }
          ∧ d.sync.bowAborts = s.dev.sync.bowAborts + 1 ∧ (d.part k).time = p.time)))

/-- R445 to R447, R464, R471, R473, R477: the serving commands. Each is answered with the first status of Table SV-4 that applies,
which LAST_STATUS keeps; only with status 0 does it change the unit. -/
def Obligations.ServingCommandResults : Prop :=
  ∀ (s : State) (f : Fin 17) (c : Cmd),
    let k := c.target
    let p := (s.dev.part k).plan
    let v := (s.dev.part k).serving
    let b := c.payload
    let h := leAt b 0 8
    let n := leAt b 16 4
    let answers (i : Instr) (status : Nat) (u : Serving) : Prop := ∃ s', exec i s = .next s'
      ∧ s.dev.answers s'.dev c 0 status 0 ∧ (s'.dev.part k).serving = { u with lastStatus := status }
      ∧ s'.dev.memory = s.dev.memory ∧ s'.dev.tiles = s.dev.tiles ∧ (∀ j : Nat, j ≠ k → s'.dev.part j = s.dev.part j)
    (s.dev.commandAt f 0x0300 c →
      let x := ServeConfig.parse b
      let bad := x.inRange b = false ∨ s.dev.configOk k x = false ∨ (∃ q, p.configPlan = some q ∧ x.fitsPlan q = false)
      168 ≤ c.len → c.len = 160 + 8 * x.slices →
        (p.state ≠ 2 → p.receiving = false → answers (.config f) 2 v)
        ∧ (p.state = 2 ∨ p.receiving = true → bad → answers (.config f) 1 v)
        ∧ (p.state = 2 → ¬ bad → answers (.config f) 0 { v with cfg := some x })
        ∧ (p.state ≠ 2 → p.receiving = true → ¬ bad → answers (.config f) 0 { v with staged := some x }))
    ∧ (s.dev.commandAt f 0x0301 c → 9 ≤ c.len → c.len ≤ 65480 →
      let off := leAt b 4 4
      let d := b.drop 8
      byteAt b 0 < 16 → leAt b 1 3 = 0 →
        (grammarStore < off + d.length → answers (.grammarWrite f) 6 v)
        ∧ (off + d.length ≤ grammarStore → v.touchesSlot off d.length none = true → answers (.grammarWrite f) 5 v)
        ∧ (off + d.length ≤ grammarStore → v.touchesSlot off d.length none = false →
            answers (.grammarWrite f) 0 { v with grammar := putBytes v.grammar off d }))
    ∧ (s.dev.commandAt f 0x0302 c → c.len = 12 →
      let slot := byteAt b 0
      let off := leAt b 4 4
      let len := leAt b 8 4
      let room := off + len ≤ grammarStore ∧ v.touchesSlot off len (some slot) = false
      slot < 16 → leAt b 1 3 = 0 →
        (v.slotInUse slot = true → answers (.grammarCommit f) 5 v)
        ∧ (v.slotInUse slot = false → len = 0 → answers (.grammarCommit f) 0 { v with slots := v.slots.set slot none })
        ∧ (v.slotInUse slot = false → len ≠ 0 → ¬ room → answers (.grammarCommit f) 6 v)
        ∧ (v.slotInUse slot = false → len ≠ 0 → room → (Gram.mk v off).wellFormed len = false → answers (.grammarCommit f) 1 v)
        ∧ (v.slotInUse slot = false → len ≠ 0 → room → (Gram.mk v off).wellFormed len = true →
            answers (.grammarCommit f) 0 { v with slots := v.slots.set slot (some (off, len)) }))
    ∧ (v.cfg = none → ∀ i, (i = .request f ∧ s.dev.commandAt f 0x0303 c ∧ c.len = 64)
        ∨ (i = .resume f ∧ s.dev.commandAt f 0x0304 c ∧ c.len = 64) ∨ (i = .park f ∧ s.dev.commandAt f 0x0305 c ∧ c.len = 16)
        ∨ (i = .cancel f ∧ s.dev.commandAt f 0x0306 c ∧ c.len = 8) → answers i 2 v)
    ∧ (∀ x, v.cfg = some x →
      (s.dev.commandAt f 0x0303 c → c.len = 64 →
        let good := s.dev.recordOk k x b false = true ∧ 0 < n ∧ n + 1 ≤ x.maxPos
        (¬ good → answers (.request f) 1 v)
        ∧ (good → v.handleUsed h = true → answers (.request f) 3 v)
        ∧ (good → v.handleUsed h = false → 256 ≤ v.queue.length → answers (.request f) 4 v)
        ∧ (good → v.handleUsed h = false → v.queue.length < 256 → answers (.request f) 0 { v with queue := v.queue
            ++ [.request h (leAt b 8 6) n (v.startGram (byteAt b 33)) (Sampling.parse b) c.accepted] }))
      ∧ (s.dev.commandAt f 0x0304 c → c.len = 64 → v.battOf h = none → answers (.resume f) 3 v)
      ∧ (∀ y, s.dev.commandAt f 0x0304 c → c.len = 64 → v.battOf h = some y →
        let good := s.dev.recordOk k x b true = true ∧ 2 + y.len + n ≤ x.maxPos
        let expired := ∃ e, y.expiry = some e ∧ e ≤ c.accepted
        (¬ good → answers (.resume f) 1 v)
        ∧ (good → expired → y.pinned = false → answers (.resume f) 7 v)
        ∧ (good → y.pinned = true → answers (.resume f) 8 v)
        ∧ (good → ¬ expired → y.pinned = false → 256 ≤ v.queue.length → answers (.resume f) 4 v)
        ∧ (good → ¬ expired → y.pinned = false → v.queue.length < 256 → answers (.resume f) 0 { v with
            batts := v.batts.map (fun z => if z.handle = h then { z with pinned := true } else z)
            queue := v.queue ++ [.resume h (leAt b 8 6) n
              (if byteAt b 33 = 0xFE then none else some (v.startGram (byteAt b 33))) (Sampling.parse b) c.accepted] }))
      ∧ (s.dev.commandAt f 0x0305 c → c.len = 16 →
        let ttl := leAt b 8 8
        (ttl = 0 ∨ 2 ^ 48 ≤ ttl → answers (.park f) 1 v)
        ∧ (0 < ttl → ttl < 2 ^ 48 → v.seqOf h = none → answers (.park f) 3 v)
        ∧ (∀ q, 0 < ttl → ttl < 2 ^ 48 → v.seqOf h = some q →
          (q.2.state ≠ .decode ∨ x.battSlots = 0 → answers (.park f) 2 v)
          ∧ (q.2.state = .decode → 0 < x.battSlots → v.queue.length < 256 →
              answers (.park f) 0 { v with queue := v.queue ++ [.park h ttl c.accepted] })))
      ∧ (s.dev.commandAt f 0x0306 c → c.len = 8 →
        (v.handleUsed h = false → answers (.cancel f) 3 v)
        ∧ (v.handleUsed h = true → v.queue.length < 256 →
            answers (.cancel f) 0 { v with queue := v.queue ++ [.cancel h c.accepted] })))

/-- R450, R451, R454, R471, R472, R474: passes and moves. At its trigger a pass starts, or waits for the one that runs and is counted;
when its requests have been served it completes, and the signals of the row-map tiles rise. A completed park leaves a batt with its digest and expiry and frees the
sequence; a completed resume goes on in PREFILL exactly where the digest of what was moved is the batt's. -/
def Obligations.ServingPassResults : Prop :=
  ∀ (s : State) (k : Fin 16) (x : ServeConfig),
    let p := s.dev.part k
    let v := p.serving
    v.cfg = some x →
    let serve (s' : State) : Serving := (s'.dev.part k).serving
    let triggers (i : Instr) (kind : PassKind) : Prop :=
      let pass : Pass := ⟨kind, s.dev.time.bc, p.audit.step, p.plan.stepIx⟩
      ∃ s', exec i s = .next s' ∧ p.time.pbc ∈ (serve s').fired ∧ (s'.dev.part k).time.pbc = p.time.pbc
        ∧ (v.running = none → (serve s').running = some pass ∧ (serve s').waiting = v.waiting
            ∧ s'.dev.serveTotals.passOverruns = s.dev.serveTotals.passOverruns)
        ∧ (∀ r, v.running = some r → (serve s').running = some r ∧ (serve s').waiting = v.waiting ++ [pass]
            ∧ s'.dev.serveTotals.passOverruns = s.dev.serveTotals.passOverruns + 1 ∧ (serve s').seqs = v.seqs)
    (s.dev.atTrigger k 0 = true → triggers (.initialPass k) .initial)
    ∧ (∀ n : Nat, 1 ≤ n → n ≤ x.g → s.dev.servingTrigger k (n - 1) = true → triggers (.draftPass k n) (.draft n))
    ∧ (s.dev.servingTrigger k x.g = true → triggers (.finalPass k) .final)
    ∧ (v.unitDone none = false → exec (.passComplete k) s = .next s)
    ∧ (∀ r, v.running = some r → v.unitDone none = true → v.waiting = [] → x.signalJ < 16 → r.kind ≠ .final →
      ∃ s', exec (.passComplete k) s = .next s' ∧ (serve s').running = none ∧ (serve s').results = v.results
        ∧ (serve s').lastPassBeats = s.dev.time.bc - r.bc ∧ s'.dev.memory = s.dev.memory
        ∧ (∀ t ∈ s.dev.mapTiles k x, (s.dev.tile t).signals.length = 16 →
            (s'.dev.tile t).signals.getD x.signalJ 0 = (s.dev.tile t).signals.getD x.signalJ 0 + 1)
        ∧ (∀ t : Nat, t ∉ s.dev.mapTiles k x → s'.dev.tile t = s.dev.tile t))
    ∧ (∀ (e : Fin 512) (q : Seq) (b : Batt), Sparse.find v.seqs e = some q → v.battOf q.handle = some b →
      let place (a : Nat × Nat) : Nat := x.pageAddr a.2 (q.pages.getD a.1 0)
      let block (a : Nat × Nat) : Nat := x.blockAddr (b.first + a.1) + a.2 * 64 * x.rowBytes
      v.unitDone (some e.val) = true →
      (q.state = .parking → ∃ s', exec (.parkComplete k e) s = .next s'
        ∧ Sparse.find (serve s').seqs e = none ∧ s'.dev.serveTotals.parks = s.dev.serveTotals.parks + 1
        ∧ s'.dev.memory = ((x.pieces q.len).foldl (fun d a => moveBytes d (place a) (block a) (x.committed q.len a.1)) s.dev).memory
        ∧ (if q.cancelled then (serve s').battOf q.handle = none
           else (serve s').battOf q.handle = some { b with
              expiry := some (s.dev.time.bc + q.ttl), digest := s.dev.kvDigest x q }))
      ∧ (q.state = .resuming → b.expiry ≠ none → ceilDiv q.len 64 ≤ q.pages.length → q.cancelled = false →
        let moved := (x.pieces q.len).foldl (fun d a => moveBytes d (block a) (place a) (x.committed q.len a.1)) s.dev
        ∃ s', exec (.resumeComplete k e) s = .next s' ∧ s'.dev.memory = moved.memory
          ∧ (if moved.kvDigest x q = b.digest then
              Sparse.find (serve s').seqs e = some { q with state := .prefill } ∧ (serve s').battOf q.handle = none
                ∧ s'.dev.serveTotals.digestFails = moved.serveTotals.digestFails
             else Sparse.find (serve s').seqs e = none ∧ (serve s').battOf q.handle = some { b with pinned := false }
                ∧ s'.dev.serveTotals.digestFails = moved.serveTotals.digestFails + 1)))
    ∧ (∀ (e : Fin 512) (q : Seq), Sparse.find v.seqs e = some q → q.state = .ending → v.unitDone (some e.val) = true →
      ∃ s', exec (.endDigestComplete k e) s = .next s' ∧ Sparse.find (serve s').seqs e = some { q with state := .ended }
        ∧ (serve s').events = v.events ++ [{ q.entry q.endCode with digest := s.dev.kvDigest x q }] ∧ s'.dev.memory = s.dev.memory)

/-- R482, R486, R487, R489 to R492, R494, R496 to R498, R502: weight batches. Each command is answered with its status, which
LAST_WSTATUS keeps: a manifest makes its batch RECEIVING only with the right layout, an installed key and a valid signature; data
extends the hash of its chunk, and the end of a chunk matches or is counted; WARM, WDISARM and WCLEAR move a batch between states. -/
def Obligations.WeightCommandResults : Prop :=
  ∀ (s : State) (f : Fin 17) (c : Cmd),
    let k := c.target
    let w := (s.dev.part k).weights
    let b := c.payload
    let n := byteAt b 0
    let x := w.batch n
    let running := (s.dev.part k).time.mode ≠ .stopped
    let answered (i : Instr) (status : Nat) (ok : Weights → Prop) : Prop := ∃ s', exec i s = .next s'
      ∧ s.dev.answers s'.dev c 0 status 0 ∧ (s'.dev.part k).weights.lastStatus = status ∧ ok (s'.dev.part k).weights
    let refused (i : Instr) (status : Nat) : Prop := answered i status (· = { w with lastStatus := status })
    w.batches.length = 2 →
    (s.dev.commandAt f 0x0400 c → c.len = 64 + 32 * n →
      let table := (List.range 2).map (configRegions b n)
      let cfg : WConfig := ⟨n, bit (byteAt b 1) 0, leAt b 4 4, leAt b 8 16, [leAt b 24 6, leAt b 32 6], table⟩
      let clean := byteAt b 1 ≤ 1 ∧ leAt b 2 2 = 0 ∧ leAt b 30 2 = 0 ∧ (∀ y ∈ slice b 38 26, y = 0)
        ∧ (∀ i, i < 2 * n → leAt b (64 + 16 * i + 6) 2 = 0)
      let areas := cfg.manifestAddr.map (fun a => (a, manifestArea))
      let fits := (∀ l ∈ table, ∀ r ∈ l, s.dev.ownMemory k r.1 r.2 false = true ∧ r.1 % 2048 = 0 ∧ r.2 % 2048 = 0)
        ∧ (∀ r ∈ areas, s.dev.ownMemory k r.1 r.2 true = true ∧ r.1 % 2048 = 0)
        ∧ disjointRanges (table.flatten ++ areas) = true ∧ cfg.wptrOffset % 8 = 0 ∧ cfg.wptrOffset + 8 ≤ 0x200000
      (n = 0 ∨ 32 < n ∨ ¬ clean → refused (.wconfig f) 1)
      ∧ (1 ≤ n → n ≤ 32 → clean → (∃ y ∈ w.batches, y.state = 1 ∨ y.state = 3) → refused (.wconfig f) 2)
      ∧ (1 ≤ n → n ≤ 32 → clean → (∀ y ∈ w.batches, y.state = 0) → ¬ fits → refused (.wconfig f) 9)
      ∧ (1 ≤ n → n ≤ 32 → clean → (∀ y ∈ w.batches, y.state = 0) → fits →
          answered (.wconfig f) 0 (· = { w with config := some cfg, lastStatus := 0 })))
    ∧ (s.dev.commandAt f 0x0401 c → 9 ≤ c.len →
      (w.config = none → refused (.wmanifest f) 9)
      ∧ (∀ cfg, w.config = some cfg → n ≤ 1 → leAt b 1 3 = 0 →
        let off := leAt b 4 4
        let m := (if off = 0 then [] else x.manifest) ++ b.drop 8
        let total := leAt m 12 4
        let inPlace := off = 0 ∨ off = x.manifest.length
        (x.state ≠ 0 → refused (.wmanifest f) 2)
        ∧ (x.state = 0 → ¬ inPlace → refused (.wmanifest f) 6)
        ∧ (x.state = 0 → inPlace → m.length ≤ manifestArea → 16 ≤ m.length → 224 ≤ total → m.length < total →
            answered (.wmanifest f) 0 (fun v => v.batch n = { x with manifest := m } ∧ v.batch (1 - n) = w.batch (1 - n)))
        ∧ (x.state = 0 → inPlace → m.length ≤ manifestArea → 224 ≤ total → m.length = total →
          let st := if manifestLayout cfg n m = false then 1 else match w.keyOf m with
            | none => 3
            | some key => if ecdsaVerify key (sha384 (m.take (total - 96))) (m.drop (total - 96)) then 0 else 4
          answered (.wmanifest f) st (fun v => v.batch (1 - n) = w.batch (1 - n) ∧ v.batch n = (if st = 0
            then { state := 1, manifest := m, digest := sha384 m, version := leAt m 32 8, matched := [], chunks := [] }
            else { x with manifest := [] })))))
    ∧ (s.dev.commandAt f 0x0402 c → 24 ≤ c.len → n ≤ 1 → leAt b 1 3 = 0 → leAt b 12 4 = 0 →
      let i := leAt b 4 4
      let off := leAt b 8 4
      let d := b.drop 16
      let e := manifestChunk x.manifest i
      let a := chunkAddr s.dev k n i + off
      (x.state ≠ 1 → ∃ s', exec (.wdata f) s = .next s' ∧ s.dev.answers s'.dev c 0 2 0 ∧ s'.dev.cp = s.dev.cp
          ∧ s'.dev.weightTotals.refusals = s.dev.weightTotals.refusals + (if 2 ≤ x.state then 1 else 0))
      ∧ (x.state = 1 → x.chunkCount ≤ i ∨ e.len < off + d.length → refused (.wdata f) 1)
      ∧ (∀ g, x.state = 1 → i < x.chunkCount → off + d.length ≤ e.len → x.chunks.find? (·.chunk == i) = some g → off ≠ 0 →
          g.next ≠ off → g.mirrored = false → refused (.wdata f) 6)
      ∧ (∀ g, x.state = 1 → i < x.chunkCount → x.chunks.find? (·.chunk == i) = some g → off ≠ 0 → g.next = off →
          partsOf a d.length = [(a, d.length)] → isStore a = false →
          off + d.length ≤ e.len →
          (∃ s', exec (.wdata f) s = .next s'
            ∧ s'.dev.cp = s.dev.cp ++ [⟨s.dev.accessSeq, true, a, d, d.length, writeCost a d.length, false, .host c.id⟩]
            ∧ s'.dev.weightTotals.bytesHashed = s.dev.weightTotals.bytesHashed + d.length
            ∧ (off + d.length < e.len → (s'.dev.part k).weights.lastStatus = 0
                ∧ { g with next := off + d.length, hash := shaAdd g.hash d } ∈ ((s'.dev.part k).weights.batch n).chunks)
            ∧ (off + d.length = e.len → shaEnd (shaAdd g.hash d) = e.hash → (s'.dev.part k).weights.lastStatus = 0
                ∧ i ∈ ((s'.dev.part k).weights.batch n).matched)
            ∧ (off + d.length = e.len → shaEnd (shaAdd g.hash d) ≠ e.hash → (s'.dev.part k).weights.lastStatus = 5
                ∧ i ∉ ((s'.dev.part k).weights.batch n).matched
                ∧ s'.dev.weightTotals.mismatches = s.dev.weightTotals.mismatches + 1))))
    ∧ (s.dev.commandAt f 0x0403 c → c.len = 64 + 16 * byteAt b 3 → n ≤ 1 → byteAt b 1 ≤ 1 →
      let dest := leAt b 4 4
      let count := leAt b 12 4
      let regions := (List.range (byteAt b 3)).map (fun i => (leAt b (64 + 16 * i) 6, leAt b (64 + 16 * i + 8) 8))
      1 ≤ byteAt b 2 → byteAt b 2 ≤ 16 → dest < 2 ^ 20 → 1 ≤ byteAt b 3 → byteAt b 3 ≤ 32 →
      (x.state ≠ 2 → x.state ≠ 4 → refused (.wmirror f) 2)
      ∧ (x.state = 2 ∨ x.state = 4 → slice b 16 48 ≠ x.digest → refused (.wmirror f) 1)
      ∧ (x.state = 2 ∨ x.state = 4 → slice b 16 48 = x.digest → 0 < count → leAt b 8 4 + count ≤ x.chunkCount →
          (∀ i, i < count → let e := manifestChunk x.manifest (leAt b 8 4 + i)
            e.region < byteAt b 3 ∧ e.off + e.len ≤ (regions.getD e.region (0, 0)).2) →
          (maySend s.dev k dest = false → refused (.wmirror f) 9)
          ∧ (maySend s.dev k dest = true → (∀ m ∈ w.mirrors, m.id ≠ s.dev.accessSeq) →
              ∃ s', exec (.wmirror f) s = .next s' ∧ (s'.dev.part k).weights.batches = w.batches
                ∧ ∃ m ∈ (s'.dev.part k).weights.mirrors, m.id = s.dev.accessSeq ∧ m.batch = n ∧ m.dest = dest
                  ∧ m.regions = regions ∧ m.flows = byteAt b 2)))
    ∧ (s.dev.commandAt f 0x0404 c → c.len = 1 → n ≤ 1 →
      (x.state = 1 ∨ x.state = 2 → answered (.wclear f) 0 (fun v => v.batch n = .reset ∧ v.batch (1 - n) = w.batch (1 - n)))
      ∧ (x.state ≠ 1 → x.state ≠ 2 → refused (.wclear f) 2))
    ∧ (s.dev.commandAt f 0x0405 c → c.len = 16 → n ≤ 1 → leAt b 1 7 = 0 →
      let pw := leAt b 8 8
      let lead := (s.dev.part k).time.pbc + s.dev.weightTotals.warmLead
      (x.state ≠ 2 ∨ (w.batch (1 - n)).state = 3 → refused (.warm f) 2)
      ∧ (x.state = 2 → (w.batch (1 - n)).state ≠ 3 → w.keyOf x.manifest = none → refused (.warm f) 3)
      ∧ (x.state = 2 → (w.batch (1 - n)).state ≠ 3 → w.keyOf x.manifest ≠ none →
          (running → pw < lead → refused (.warm f) 8)
          ∧ (running → lead ≤ pw → answered (.warm f) 0 (fun v => v.armPbc = pw ∧ v.batch n = { x with state := 3 }
              ∧ v.batch (1 - n) = w.batch (1 - n)))
          ∧ (¬ running → ∃ s', exec (.warm f) s = .next s' ∧ (s'.dev.part k).weights.lastStatus = 0
              ∧ ((s'.dev.part k).weights.batch n).state = 4 ∧ ((s'.dev.part k).weights.batch (1 - n)).state ≠ 4
              ∧ s'.dev.weightTotals.switches = s.dev.weightTotals.switches + 1)))
    ∧ (s.dev.commandAt f 0x0406 c → c.len = 1 → n ≤ 1 →
      (x.state = 3 → w.switching = false → answered (.wdisarm f) 0 (fun v => v.batch n = { x with state := 2 }))
      ∧ (x.state ≠ 3 ∨ w.switching = true → refused (.wdisarm f) 2))
    ∧ (∀ (who : Principal) (j m : Fin 16) (key : BitVec 768), s.dev.accepts who (0x3080 + 0x100 * j) (m + 1) key.toNat →
      let u := (s.dev.part j).weights
      u.keys.length = 16 → u.batches.length = 2 → ∃ s', exec (.pubKeyWrite who j m key) s = .next s'
        ∧ (s'.dev.part j).weights.keys = u.keys.set m (leBytes 96 key.toNat)
        ∧ (∀ q : Fin 2, (u.batch q).state = 1 → (u.batch q).matched.length = (u.batch q).chunkCount → key ≠ 0 →
            sha384 (leBytes 96 key.toNat) = slice (u.batch q).manifest 40 48 →
            ((s'.dev.part j).weights.batch q).state = 2))

/-- R274, R278, R561, R565, R574, R575: assignment and clearing of resources, fuses. A stopped partition takes groups and channels that
no other holds; what is new to it is marked until its memory reads zeros; a group named for fusing leaves its stopped partition, and
its bit, once programmed, stays. A refused write changes nothing. -/
def Obligations.AssignmentResults : Prop :=
  ∀ (s : State) (who : Principal) (k : Fin 16),
    let p := s.dev.part k
    let w := s.dev.power
    let gives (i : Instr) (ok : Dev → Prop) : Prop := ∃ s', exec i s = .next s' ∧ ok s'.dev
      ∧ s'.dev.memory = s.dev.memory ∧ s'.dev.tiles = s.dev.tiles ∧ (∀ j : Nat, j ≠ k → s'.dev.part j = s.dev.part j)
    let marks (old new old' : Nat) (m : Nat) : Prop := ∀ i : Nat, bit new i = true ↔ bit old i = true ∨ (bit m i = true ∧ bit old' i = false)
    (∀ m : BitVec 88, s.dev.accepts who (0x30B0 + 0x100 * k) 1 m.toNat → m.toNat < 2 ^ 84 → p.time.mode = .stopped →
      let free (g : Nat) : Prop := s.dev.groupEnabled g = true ∧ g ∉ s.dev.fusing
        ∧ ∀ j : Fin 16, j ≠ k → bit (s.dev.part j).groups g = false
      let cut := ∃ g q, g < 84 ∧ bit p.groups g = true ∧ bit m.toNat g = false ∧ p.plan.plan = some q ∧ bit q.groups g = true
      ((∃ g, g < 84 ∧ bit m.toNat g = true ∧ ¬ free g) → exec (.partGroupsWrite who k m) s = .next s)
      ∧ ((∀ g, g < 84 → bit m.toNat g = true → free g) → gives (.partGroupsWrite who k m) (fun d =>
          (d.part k).groups = m.toNat ∧ marks w.clearingGroups d.power.clearingGroups p.groups m.toNat
          ∧ (cut → (d.part k).plan.plan = none ∧ (d.part k).plan.state = 0)
          ∧ (¬ cut → (d.part k).plan = p.plan))))
    ∧ (∀ m : BitVec 256, s.dev.accepts who (0x3020 + 0x100 * k) 1 m.toNat → p.time.mode = .stopped →
      let bad := (∃ c j, c < 256 ∧ bit m.toNat c = true ∧ j < 16 ∧ j ≠ k.val ∧ bit (s.dev.part j).hbm c = true)
        ∨ (∃ c, c < 256 ∧ bit p.hbm c = true ∧ bit m.toNat c = false ∧ s.dev.channelInUse k c = true)
      (bad → exec (.hbmChannelsWrite who k m) s = .next s)
      ∧ (¬ bad → gives (.hbmChannelsWrite who k m) (fun d => d.part k = { p with hbm := m.toNat }
          ∧ marks w.clearingHbm d.power.clearingHbm p.hbm m.toNat)))
    ∧ (∀ m : BitVec 16, s.dev.accepts who (0x3020 + 0x100 * k) 2 m.toNat → p.time.mode = .stopped →
      let bad := (∃ c j, c < 16 ∧ bit m.toNat c = true ∧ j < 16 ∧ j ≠ k.val ∧ bit (s.dev.part j).cap c = true)
        ∨ (∃ c, c < 16 ∧ bit p.cap c = true ∧ bit m.toNat c = false ∧ s.dev.channelInUse k (256 + c) = true)
      (bad → exec (.capChannelsWrite who k m) s = .next s)
      ∧ (¬ bad → gives (.capChannelsWrite who k m) (fun d => d.part k = { p with cap := m.toNat }
          ∧ marks w.clearingCap d.power.clearingCap p.cap m.toNat)))
    ∧ (∀ r : Resource,
      let x : Nat × Nat × Nat := match r with
        | .group g => (0, g, w.clearingGroups) | .hbm c => (1, c, w.clearingHbm) | .cap c => (2, c, w.clearingCap)
      let zone (a : Nat) : Prop := ∃ z ∈ s.dev.resourceRanges x.1 x.2.1, z.1 ≤ a ∧ a < z.1 + z.2
      let mark (d : Dev) : Nat := match r with
        | .group _ => d.power.clearingGroups | .hbm _ => d.power.clearingHbm | .cap _ => d.power.clearingCap
      (bit x.2.2 x.2.1 = false → exec (.clearingComplete r) s = .next s)
      ∧ (bit x.2.2 x.2.1 = true → ∃ s', exec (.clearingComplete r) s = .next s'
          ∧ (∀ a, zone a → s'.dev.byte a = 0)
          ∧ (∀ a, ¬ zone a → s'.dev.byte a = s.dev.byte a)
          ∧ (∀ i : Nat, bit (mark s'.dev) i = (bit x.2.2 i && i != x.2.1)) ∧ s'.dev.parts = s.dev.parts))
    ∧ (∀ g : BitVec 8, s.dev.accepts who 0x1030 10 g.toNat → g.toNat < 84 →
      bit s.dev.fuses.fieldFused g.toNat = false → bit s.dev.fuses.factoryBad g.toNat = false → g.toNat ∉ s.dev.fusing →
      let named (d : Dev) : Prop := d.fusing = s.dev.fusing ++ [g.toNat] ∧ d.power.fuseCandidates = w.fuseCandidates + 1
      (s.dev.partOfGroup g.toNat = none → ∃ s', exec (.fuseRequest who g) s = .next s' ∧ named s'.dev ∧ s'.dev.parts = s.dev.parts)
      ∧ (∀ j, s.dev.partOfGroup g.toNat = some j → (s.dev.part j).time.mode ≠ .stopped → exec (.fuseRequest who g) s = .next s)
      ∧ (∀ j, s.dev.partOfGroup g.toNat = some j → (s.dev.part j).time.mode = .stopped →
          ∃ s', exec (.fuseRequest who g) s = .next s' ∧ named s'.dev ∧ bit (s'.dev.part j).groups g.toNat = false))
    ∧ (∀ g : Fin 84, (g.val ∉ s.dev.fusing → exec (.fieldFuseProgram g) s = .next s)
      ∧ (g.val ∈ s.dev.fusing → ∃ s', exec (.fieldFuseProgram g) s = .next s' ∧ s'.dev.parts = s.dev.parts
          ∧ (∀ i : Nat, bit s'.otp.fieldFused i = (bit s.otp.fieldFused i || i == g.val))
          ∧ s'.dev.fuses = { s.dev.fuses with fieldFused := setBit s.dev.fuses.fieldFused g true }))

/-- R523, R527, R568 to R570, R572, R573, R681: grants, thermal state and run records. An evaluation withdraws every grant where the
device is warm or draws too much, and otherwise grants only what the pool pays for, to eligible partitions; a grant bit falls 64 beats
after its withdrawal. A due run record is posted and counted, and CBG_OUTPUT is the generator's block for the reader's inputs. -/
def Obligations.GrantAndRecordResults : Prop :=
  ∀ (s : State) (who : Principal) (k : Fin 16),
    let p := s.dev.part k
    let bc := s.dev.time.bc
    let held (d : Dev) (j : Fin 16) : PartPower := (d.part j).power
    (∀ v : Bool, s.dev.accepts who (0x30B0 + 0x100 * k) 2 (boolNat v) → ∃ s', exec (.boostEnableWrite who k v) s = .next s'
      ∧ (s'.dev.part k).time = p.time ∧ (∀ j : Fin 16, j ≠ k → s'.dev.part j = s.dev.part j)
      ∧ (if v || !(p.power.inForce || p.power.grantBit) then held s'.dev k = { p.power with boostEnable := v }
         else held s'.dev k = { p.power with
          boostEnable := false, inForce := false, withdrawnAt := none, fallNext := p.power.grantBit, grantState := 3 }))
    ∧ (∀ (pm : Nat) (tj th : Int) (sensor : Fin 92), bc % 4096 = 0 → s.dev.power.evaluatedAt ≠ some bc → s.dev.halted = false →
      s.dev.fwRunning = true → (∀ j : Fin 16, (held s.dev j).boostPriority < 16) →
      let next := s.dev.power.thermal tj sensor th
      ∃ s', exec (.powerEvaluation pm tj sensor th) s = .next s'
        ∧ s'.dev.power.packagePower = pm ∧ s'.dev.power.evaluatedAt = some bc ∧ s'.dev.power.tjHottest = tj
        ∧ s'.dev.power.thermalState = next.thermalState
        ∧ (next.thermalState = 3 → s.dev.power.thermalState ≠ 3 → s'.dev.power.thermalStops = s.dev.power.thermalStops + 1)
        ∧ (2800 < pm → s'.dev.power.powerPacing = true) ∧ (pm ≤ s.dev.power.powerLimit → pm ≤ 2800 → s'.dev.power.powerPacing = false)
        ∧ (next.thermalState ≠ 0 ∨ 2800 < pm → ∀ j : Fin 16, (held s'.dev j).inForce = false
            ∧ ((held s.dev j).inForce = true → (held s'.dev j).withdrawnAt = some bc
                ∧ (held s'.dev j).withdrawals = (held s.dev j).withdrawals + 1))
        ∧ (next.thermalState = 0 → pm ≤ 2800 → ∀ j : Fin 16,
            ((held s.dev j).inForce = true → 0 ≤ s.dev.pool pm → (held s'.dev j).inForce = true)
            ∧ ((held s'.dev j).inForce = true → (held s.dev j).inForce = true ∨
                ((held s.dev j).grantBit = false ∧ (held s.dev j).boostEnable = true ∧ s.dev.planRuns j = true))))
    ∧ (∀ b, p.power.withdrawnAt = some b → b + 64 ≤ bc → ∃ s', exec (.grantBitFall k) s = .next s'
      ∧ (held s'.dev k).grantBit = false ∧ (held s'.dev k).withdrawnAt = none ∧ (held s'.dev k).inForce = p.power.inForce
      ∧ (∀ j : Fin 16, j ≠ k → s'.dev.part j = s.dev.part j))
    ∧ (∀ tj : Option Int, ∃ s', exec (.thermtrip tj) s = .next s'
      ∧ s'.dev.power.thermtrip = (s.dev.power.thermtrip || (match tj with | some x => decide (115 ≤ x) | none => true))
      ∧ s'.dev.parts = s.dev.parts)
    ∧ (∀ r rest, p.audit.due = r :: rest →
      let body := runRecordBody s.dev k r
      ∃ s', exec (.runRecord k) s = .next s' ∧ (s'.dev.part k).audit = { p.audit with
          due := rest, recordsPosted := p.audit.recordsPosted + 1, lastRecordStep := r.step }
        ∧ s'.dev.opTotals.runRecords = s.dev.opTotals.runRecords + 1 ∧ s'.dev.memory = s.dev.memory ∧ s'.dev.tiles = s.dev.tiles
        ∧ (s.dev.fnEnabled (k + 1) = true → (s.dev.fn (k + 1)).backlogBytes + entryLength body ≤ 2 ^ 20 →
            let x := s.dev.fn (k + 1)
            let y := s'.dev.fn (k + 1)
            y.backlog = x.backlog ++ [⟨3, 0x31, body, 0, 0, 0⟩]
              ∨ (y.ring 3).tail = (x.ring 3).tail + (x.ring 3).pad (entryLength body) + entryLength body))
    ∧ (s.dev.served = true → s.dev.entryRight who 15 0x9080 0 5 = true →
      let x := s.dev.selected who
      let y := cbgBlock x.cbgSeed x.cbgStep x.cbgTensor x.cbgCounter
      ∃ s', exec (.cbgOutputRead who) s = .next s' ∧ s'.dev.parts = s.dev.parts
        ∧ s'.dev.readData = leBytes 4 y.x0.toNat ++ leBytes 4 y.x1.toNat ++ leBytes 4 y.x2.toNat ++ leBytes 4 y.x3.toNat)

/-- R610 to R613, R617 to R621, R625, R626, R631 to R635, R662: management. A request frame is served item by item, a write until its
first refusal, and answered on its path; a repeated request gets the kept response and has no second
effect; a frame on the port that cannot be served at once takes one of its 32 places, or is discarded and counted. The health score and advice follow
from the penalties, which a restore never lowers. -/
def Obligations.ManagementAnswers : Prop :=
  ∀ (s : State) (who : Principal),
    let m := s.dev.mgmt
    let bc := s.dev.time.bc
    let keeps (d : Dev) : Prop := d.parts = s.dev.parts ∧ d.tiles = s.dev.tiles ∧ d.memory = s.dev.memory
    (∀ (p : OapPath) (d : Bytes) (i : Instr), s.dev.served = true → pathFrame s.dev p = some d →
      (i = .oapWrite p ∧ frameOpcode d = 2) ∨ (i = .oapDiscover p ∧ frameOpcode d = 3)
        ∨ (i = .oapRead p ∧ frameOpcode d ≠ 2 ∧ frameOpcode d ≠ 3) →
      pathDiscards p d = false → (∀ a b, p = .port a true b → frameOpcode d = 3) → (∀ a m b, p = .port a m b → linkLocalSource a = true ∧ s.dev.mgmt.waiting = []) →
      let replied (e : Dev) (items : List Bytes) (status vmin vmax : Nat) : Prop :=
        let frame := oapFrame (0x80 + frameOpcode d % 128) (leAt d 4 4) items status vmin vmax bc
        (∀ f, p = .mailbox f → (e.fn f).mbxFrame = none)
          ∧ (∀ source x y, p = .port source x y → e.mgmt.sent = some (source.take 16 ++ oapPort, frame)
              ∧ (⟨source, leAt d 4 4, bc, frame⟩ : Kept) ∈ e.mgmt.kept)
      (∀ k source x y, p = .port source x y → s.dev.keptFor p d = some k → ∃ s', exec i s = .next s' ∧ keeps s'.dev
        ∧ s'.dev.mgmt = { m with duplicates := m.duplicates + 1, sent := some (source.take 16 ++ oapPort, k.frame) })
      ∧ (s.dev.keptFor p d = none →
        (byteAt d 2 / 16 ≠ 1 → ∃ s', exec i s = .next s' ∧ keeps s'.dev ∧ replied s'.dev [] 2 0x10 0x10)
        ∧ (byteAt d 2 / 16 = 1 → frameItems d = none → ∃ s', exec i s = .next s' ∧ keeps s'.dev ∧ replied s'.dev [] 1 0 0
            ∧ s'.dev.mgmt.malformed = m.malformed + 1)
        ∧ (∀ items, byteAt d 2 / 16 = 1 → frameItems d = some items →
            (frameOpcode d ≠ 2 →
              let r := serveRead s.dev (pathPrincipal p) (if frameOpcode d = 3 then discoverItems else items) (pathLimit p - 24)
              ∃ s', exec i s = .next s' ∧ keeps s'.dev ∧ replied s'.dev r.1 0 0 0
                ∧ s'.dev.mgmt.requests = m.requests + 1 ∧ s'.dev.mgmt.refusals = m.refusals + r.2)
            ∧ (∀ q rest, frameOpcode d = 2 → items = q :: rest →
                (writeItem s.dev (pathPrincipal p) q.ix q.sub q.ty q.value).1 ≠ 0 →
                ∃ s', exec i s = .next s' ∧ s'.dev.parts = (writeItem s.dev (pathPrincipal p) q.ix q.sub q.ty q.value).2.2.parts
                  ∧ s'.dev.mgmt.refusals
                      = (writeItem s.dev (pathPrincipal p) q.ix q.sub q.ty q.value).2.2.mgmt.refusals + items.length)
            ∧ (∀ q, frameOpcode d = 2 → items = [q] →
                (writeItem s.dev (pathPrincipal p) q.ix q.sub q.ty q.value).1 = 0 →
                ∃ s', exec i s = .next s' ∧ s'.dev.memory = (writeItem s.dev (pathPrincipal p) q.ix q.sub q.ty q.value).2.2.memory
                  ∧ s'.dev.parts = (writeItem s.dev (pathPrincipal p) q.ix q.sub q.ty q.value).2.2.parts))))
    ∧ (∀ (source d : Bytes) (y : Bool), frameOpcode d = 2 → (s.dev.served = false ∨ m.waiting ≠ []) → s.dev.stage ≠ 0 → m.enable = true →
        linkLocalSource source = true →
        ∃ s', exec (.oapWrite (.port source y d)) s = .next s' ∧ s'.dev = { s.dev with mgmt :=
          if m.waiting.length < 32 then { m with waiting := m.waiting ++ [(source, y, d)] } else { m with discards := m.discards + 1 } })
    ∧ (∀ (source d : Bytes) (y : Bool) (i : Instr), linkLocalSource source = false →
        i = .oapRead (.port source y d) ∨ i = .oapWrite (.port source y d) ∨ i = .oapDiscover (.port source y d) → exec i s = .next s)
    ∧ (∃ s', exec .oapResponseExpiry s = .next s' ∧ keeps s'.dev
        ∧ s'.dev.mgmt = { m with kept := m.kept.filter (fun k => decide (bc < k.sent + 2 ^ 28)) })
    ∧ (∀ v : BitVec 32, s.dev.accepts who 0x2000 1 v.toNat → v.toNat ≤ 0xFFFFF →
      (∀ j : Fin 16, (s.dev.part j).time.mode = .stopped) → ∃ s', exec (.deviceIdWrite who v) s = .next s'
        ∧ s'.dev.deviceId = v.toNat ∧ s'.dev.mgmt.idConflict = false ∧ s'.dev.tiles = s.dev.tiles
        ∧ ((∀ j : Nat, j < 16 → (s.dev.part j).net.bow.state ≠ 1 ∧ (s.dev.part j).net.bow.state ≠ 2) → s'.dev.links = s.dev.links))
    ∧ (bc % 2 ^ 28 = 0 → m.lastEval ≠ bc → s.dev.fwRunning = true → s.dev.halted = false →
      let n := if 2 ≤ s.dev.power.thermalState then m.penalise 6 else m
      let recent := m.incidents.filter (fun b => decide (bc < b + m.window * 2 ^ 28))
      ∃ s', exec .healthEvaluation s = .next s' ∧ keeps s'.dev
        ∧ s'.dev.mgmt.raw = 1000 - (n.penalties.foldl (· + ·) 0 + sparePenalty s.dev.boot.spare)
        ∧ s'.dev.mgmt.penalties = n.penalties.map (· - 1) ∧ s'.dev.mgmt.inWindow = recent.length
        ∧ s'.dev.mgmt.score = (if m.minIncidents ≤ recent.length then s'.dev.mgmt.raw else max s'.dev.mgmt.raw m.expel)
        ∧ (s'.dev.mgmt.score < m.expel → s'.dev.mgmt.advice = 2)
        ∧ (m.advice = 0 → m.expel ≤ s'.dev.mgmt.score → s'.dev.mgmt.advice = if s'.dev.mgmt.score < m.watch then 1 else 0))
    ∧ (∀ v : BitVec 144, s.dev.accepts who 0x6001 10 v.toNat → ∃ s', exec (.healthRestore who v) s = .next s' ∧ keeps s'.dev
        ∧ (∀ i, i < 8 → s'.dev.mgmt.penalties.getD i 0 = max (m.penalties.getD i 0) (bits v.toNat (16 * i) 16))
        ∧ s'.dev.mgmt.incidents.length = m.incidents.length + bits v.toNat 128 16)
    ∧ (∀ ix : BitVec 16, clearSub (dictBase ix.toNat).1 ≠ 0 →
      s.dev.accepts who ix.toNat (clearSub (dictBase ix.toNat).1) 1 →
      ∃ s', exec (.countersClear who ix) s = .next s' ∧ s'.dev.memory = s.dev.memory ∧ s'.dev.cp = s.dev.cp ∧ s'.dev.time = s.dev.time
        ∧ (∀ j : Fin 16, (s'.dev.part j).plan = (s.dev.part j).plan ∧ (s'.dev.part j).net = (s.dev.part j).net)
        ∧ (ix = 0x6010 → s'.dev.log = { s.dev.log with
            overflows := 0, nestedErrors := 0, escalations := 0, correctedLogged := 0, contained := 0, jobFatal := 0, deviceFatal := 0 })
        ∧ (ix = 0x6041 → s'.dev.opTotals = { s.dev.opTotals with windowExceptions := 0, accOverflows := 0, exactDots := 0, fastDots := 0 })
        ∧ (ix = 0x6040 → s'.dev.opTotals.saturations = 0 ∧ s'.dev.opTotals.windowExceptions = s.dev.opTotals.windowExceptions))

/-- R640, R644, R647, R650, R652 to R655: errors. Firmware retires the entry in handling once it has been posted; a device-fatal one
begins the dump, which when complete names its trigger and carries the digest of its sections; the links are disabled. -/
def Obligations.ErrorsLeadToDump : Prop :=
  ∀ (s : State) (who : Principal) (f : Fin 17) (l : Fin 64),
    let g := s.dev.log
    let u := s.dev.dump
    (∀ e, s.dev.served = true → u.state ≠ 1 → g.headerEntry = none → g.handling = some e →
      (e.cls ≠ 3 ∨ u.state ≠ 0 ∨ s.dev.memTrained = false → ∃ s', exec .errorHandling s = .next s'
        ∧ s'.dev.log = { g with queue := g.queue.drop 1 } ∧ s'.dev.parts = s.dev.parts ∧ s'.dev.memory = s.dev.memory ∧ s'.dev.dump = u
        ∧ (e.cls = 0 → s.dev.fnEnabled 0 = true → (s.dev.fn 0).backlogBytes + entryLength e.toBytes ≤ 2 ^ 20 →
            (s'.dev.fn 0).backlog = (s.dev.fn 0).backlog ++ [⟨1, 0x11, e.toBytes, 0, 0, 0⟩]
              ∨ ((s'.dev.fn 0).ring 1).tail = ((s.dev.fn 0).ring 1).tail
                  + ((s.dev.fn 0).ring 1).pad (entryLength e.toBytes) + entryLength e.toBytes))
      ∧ (e.cls = 3 → u.state = 0 → s.dev.memTrained = true → ∃ s', exec .errorHandling s = .next s'
        ∧ s'.dev.log = g ∧ s'.dev.dump = { u with state := 1 } ∧ s'.dev.parts = s.dev.parts ∧ s'.dev.memory = s.dev.memory))
    ∧ (s.dev.deviceFatal = true → s.dev.fwRunning = true → s.dev.halted = false →
      ∃ s', exec (.fatalLinkDisable l) s = .next s' ∧ (s'.dev.link l).enable = false ∧ (s'.dev.link l).st = 0)
    ∧ (u.state = 1 → s.dev.served = true →
      let body := (dumpSections s.dev).flatMap (fun x => x.2.2)
      ∃ s', exec .dumpComplete s = .next s' ∧ s'.dev.dump.state = 2 ∧ s'.dev.dump.bytes = 4096 + body.length
        ∧ s'.dev.dump.digest = sha384 body ∧ s'.dev.dump.trigger = u.trigger
        ∧ (∀ e, u.trigger = some e → u.fromHeader = false → s'.dev.dump.triggerSeq = e.seq
            ∧ s'.dev.log = { g with queue := g.queue.filter (· != e.seq) }))
    ∧ (∀ c, s.dev.commandAt f 0x0600 c →
      let source := c.arg0 % 256
      let n := 4096 * bits c.arg0 8 32
      let shape := c.len = 0 ∧ source ≤ 1 ∧ 0 < n ∧ n ≤ 16777216 ∧ c.arg1 % 4096 = 0 ∧ s.dev.windowFits c.fn c.arg2 n = true
      let answers (transport status : Nat) : Prop := ∃ s', exec (.dumpFetch f) s = .next s'
        ∧ s.dev.answers s'.dev c transport status 0 ∧ s'.dev.memory = s.dev.memory ∧ s'.dev.dump = u ∧ s'.dev.gasp = s.dev.gasp
      (¬ shape → answers 4 0)
      ∧ (shape → source = 0 → answers 0 (if u.state = 1 then 2 else if u.state = 0 then 1 else if u.bytes < c.arg1 + n then 3 else 0))
      ∧ (shape → source = 1 → answers 0 (if s.dev.gasp.valid = false then 1 else if 4096 < c.arg1 + n then 3 else 0)))
    ∧ (s.dev.accepts who 0x6013 0x23 1 → ∃ s', exec (.lgClear who) s = .next s' ∧ s'.dev.gasp.valid = false
      ∧ s'.dev.gasp.area = [] ∧ s'.dev.dump = u ∧ s'.dev.log = g)

/-- R276, R341, R576, R602 to R607, R673, R677, R681, R682: resets, start-up and pins. A device reset leaves only the fuses, the last-gasp
area and the always-on domain; the boot ROM fixes the grade and the groups from the fuses; the image is verified before its firmware runs;
each stage ends in the next or in FAILED with its cause. The end of MEM_TRAIN enables the links whose LINK_ENABLE nothing has written. -/
def Obligations.StartUpAndResetResults : Prop :=
  ∀ (s : State),
    let d := s.dev
    let gives (i : Instr) (ok : Dev → Prop) : Prop := ∃ s', exec i s = .next s' ∧ s'.otp = s.otp ∧ ok s'.dev
    let cold (e : Dev) : Prop := e.stage = 0 ∧ e.parts = [] ∧ e.tiles = [] ∧ e.mem = [] ∧ e.lost = [] ∧ e.links = [] ∧ e.fns = [] ∧ e.commands = []
      ∧ e.fwRunning = false ∧ e.deviceFatal = false ∧ e.halted = false ∧ e.fuses = d.fuses
      ∧ e.gasp.area = d.gasp.area ∧ e.gasp.valid = false ∧ e.power.thermtrip = d.power.thermtrip
    let failed (e : Dev) (cause : Nat) : Prop := e.stage = 9 ∧ e.failCause = cause ∧ e.memory = d.memory ∧ e.parts = d.parts
    (d.registersOpen 0 = true → gives (.deviceResetKey 0 0xD2A7) cold)
    ∧ (∀ (f : Fin 17) (v : BitVec 32), f ≠ 0 ∨ v ≠ 0xD2A7 → exec (.deviceResetKey f v) s = .next s)
    ∧ (∀ p r : Bool, if p && r then exec (.deviceReset p r) s = .next s
        else gives (.deviceReset p r) (fun e => cold e ∧ e.boot.pwrgd = p ∧ e.boot.resetN = r))
    ∧ (∀ (f : Fin 17) (c : Cmd),
      (d.commandAt f 0x0010 c → streamTake d c.target c = none → gives (.fwSegment f) (fun e => d.answers e c 8 0 0
          ∧ e.boot = d.boot))
      ∧ (∀ m, d.commandAt f 0x0010 c → streamTake d c.target c = some m → gives (.fwSegment f) (fun e => d.answers e c 0 0 0
          ∧ e.boot = { d.boot with image := m, closed := c.last } ∧ e.stage = d.stage))
      ∧ (d.commandAt f 0x0011 c → c.len = 0 → gives (.fwStart f) (fun e => e.stage = 3 ∧ e.boot.starting = some c.id
          ∧ e.boot.image = d.boot.image))
      ∧ (d.commandAt f 0x0011 c → c.len ≠ 0 → gives (.fwStart f) (fun e => d.answers e c 4 0 0 ∧ e.stage = d.stage)))
    ∧ (d.stage = 3 →
      let cause := imageCause d.fuses d.boot.closed d.boot.image
      gives .verifyDone (fun e => (cause ≠ 0 → e.stage = 2 ∧ e.failCause = cause ∧ e.fwRunning = d.fwRunning ∧ e.boot.image = [])
        ∧ (cause = 0 → e.stage = 4 ∧ e.fwRunning = true ∧ e.fwVersion = leAt d.boot.image 12 4)))
    ∧ (∀ slot : Fin 8, (d.stage ≠ 0 → exec (.bootRom slot) s = .next s)
      ∧ (d.stage = 0 → gives (.bootRom slot) (fun e => e.fuses = s.otp ∧ e.time.bc = 0 ∧ e.grade = s.otp.grade
          ∧ e.enabledGroups = s.otp.enabled ∧ e.boot.spare = s.otp.spare ∧ e.boot.sledSlot = slot
          ∧ (s.otp.grade ≠ 0xFF → e.stage = 2) ∧ (s.otp.grade = 0xFF → e.stage = 9 ∧ e.failCause = 1)
          ∧ e.parts = d.parts ∧ e.memory = d.memory)))
    ∧ (d.stage = 4 → gives .fwInitDone (fun e => e.stage = 5 ∧ e.parts = d.parts ∧ e.memory = d.memory))
    ∧ (d.stage = 5 → ∀ (cap : List (Option Nat)) (hbmStacks : List (Nat × Bytes)),
      gives (.memTrainDone false cap hbmStacks) (failed · 6)
      ∧ (∀ n, (∃ x ∈ cap, x = none) ∨ (∃ x ∈ cap, x = some n ∧ n ∉ [16, 32, 64, 128]) →
          gives (.memTrainDone true cap hbmStacks) (failed · 7))
      ∧ (∀ n, cap ≠ [] → n ∈ [16, 32, 64, 128] → (∀ x ∈ cap, x = some n) → gives (.memTrainDone true cap hbmStacks) (fun e =>
          e.stage = 6 ∧ e.capGib = n ∧ e.memory = d.memory
          ∧ ∀ l : Fin 64, (e.link l).enable = if (d.link l).written then (d.link l).enable else true)))
    ∧ (d.stage = 6 → (∀ l : Fin 64, (d.link l).enable = false ∨ (d.link l).st = 4 ∨ (d.link l).st = 5)
        ∨ d.boot.since + 12500000 ≤ d.time.bc → gives .linkTrainDone (fun e => e.stage = 7 ∧ e.integrity.selftestState = 1))
    ∧ (d.stage = 7 → gives (.selftestDone []) (fun e => e.stage = 8 ∧ e.integrity.selftestState = 2 ∧ e.hostTotals.readyBc = d.time.bc
          ∧ e.memory = d.memory ∧ e.parts = d.parts)
      ∧ (∀ x t, gives (.selftestDone (x :: t)) (fun e => failed e 8 ∧ e.integrity.selftestState = 3
          ∧ e.integrity.selftestFails = t.length + 1 ∧ e.integrity.firstFailChecker = x.1 ∧ e.integrity.firstFailUnit = x.2)))
    ∧ (gives (.tapInstruction .bypass) (fun e => e.boot.tap = .bypass ∧ e.readData = d.readData)
      ∧ gives (.tapInstruction .idcode) (fun e => e.boot.tap = .idcode ∧ e.readData = leBytes 4 0x2D7A1C3B ∧ e.parts = d.parts)
      ∧ ∀ n, gives (.tapInstruction (.other n)) (fun e => e.boot.tap = (if d.boot.resetN then .bypass else .other n)
          ∧ e.readData = d.readData))
    ∧ (∀ tj : Int, gives (.thermtripRelease tj) (fun e => e.parts = d.parts
        ∧ e.power.thermtrip = (d.power.thermtrip && !(!d.boot.pwrgd && decide (tj < 95)))))
    ∧ gives .vddAuxLoss (fun e => e.boot.vddAux = false ∧ e.gasp = .reset ∧ e.power.thermtrip = false ∧ e.fuses = d.fuses)
end

