-- ==== Sys2Proof/Laws/Bytes.lean ====
section
/-!
SUPPORT. Laws of byte strings: little-endian fields, lengths, and the range of the CRC.
-/
namespace Sys2Proof.Machine

@[simp] theorem length_leBytes (n v : Nat) : (leBytes n v).length = n := by
  induction n generalizing v with
  | zero => rfl
  | succ n ih => simp [leBytes, ih]

@[simp] theorem length_slice (l : Bytes) (o n : Nat) : (slice l o n).length = n := by
  simp only [slice, List.length_append, List.length_take, List.length_drop, List.length_replicate]
  omega

@[simp] theorem length_padTo (n : Nat) (l : Bytes) : (padTo n l).length = n := length_slice l 0 n

@[simp] theorem length_zeros (n : Nat) : (zeros n).length = n := List.length_replicate

/-- The bytes of a number spell it, modulo their range (R5). -/
theorem leNat_leBytes (n v : Nat) : leNat (leBytes n v) = v % 256 ^ n := by
  induction n generalizing v with
  | zero => simp [leBytes, leNat, Nat.mod_one]
  | succ n ih =>
    have h8 : (BitVec.ofNat 8 v).toNat = v % 256 := BitVec.toNat_ofNat ..
    simp only [leBytes, leNat, ih, h8]
    rw [Nat.pow_succ, Nat.mul_comm (256 ^ n) 256, Nat.mod_mul]

/-- A field that stands at the end of what comes before it. -/
theorem leAt_append (b : Bytes) (n v : Nat) (rest : Bytes) : leAt (b ++ (leBytes n v ++ rest)) b.length n = v % 256 ^ n := by
  have h : ((b ++ (leBytes n v ++ rest)).drop b.length).take n = leBytes n v := by
    rw [List.drop_left]
    exact List.take_left' (length_leBytes n v)
  rw [leAt, h, leNat_leBytes]

theorem gfTimesX_lt (r : Nat) (h : r < 2 ^ 64) : gfTimesX r < 2 ^ 64 := by
  unfold gfTimesX
  split
  · exact Nat.xor_lt_two_pow (Nat.mod_lt _ (by decide)) (by unfold crcPoly; decide)
  · rename_i hb
    have : r / 2 ^ 63 % 2 ≠ 1 := by simpa [bit] using hb
    omega

theorem iter_gfTimesX_lt (n r : Nat) (h : r < 2 ^ 64) : iter n gfTimesX r < 2 ^ 64 := by
  induction n generalizing r with
  | zero => exact h
  | succ n ih => exact ih _ (gfTimesX_lt r h)

theorem crcRun_lt (l : Bytes) (r : Nat) (h : r < 2 ^ 64) : crcRun r l < 2 ^ 64 := by
  induction l generalizing r with
  | nil => exact h
  | cons b l ih =>
    refine ih _ (iter_gfTimesX_lt 8 _ (Nat.xor_lt_two_pow h ?_))
    have := b.isLt
    omega

/-- The CRC fits its 8 bytes (R351). -/
theorem crc64_lt (l : Bytes) : crc64 l < 2 ^ 64 :=
  Nat.xor_lt_two_pow (crcRun_lt l _ (by decide)) (by decide)

/-- A string closed by its CRC: the field after it holds the CRC of what comes before. -/
theorem leAt_crc (b rest : Bytes) : leAt (b ++ (leBytes 8 (crc64 b) ++ rest)) b.length 8 = crc64 b := by
  rw [leAt_append]
  exact Nat.mod_eq_of_lt (Nat.lt_of_lt_of_eq (crc64_lt b) (by decide))

end Sys2Proof.Machine
end

