-- ==== Sys2Proof/Laws/Sparse.lean ====
section
/-!
SUPPORT. Laws of the sparse tables and of memory: what a read sees after a write, and that writes keep the canonical form.
-/
namespace Sys2Proof

variable {α : Type}

theorem Sparse.get_erase (d : α) (m : Sparse α) (k q : Nat) :
    Sparse.get d (Sparse.erase m k) q = if q = k then d else Sparse.get d m q := by
  unfold Sparse.erase
  induction m with
  | nil => simp [Sparse.get]
  | cons p t ih =>
    obtain ⟨a, v⟩ := p
    by_cases h : a = k
    · subst h
      simp only [List.filter_cons, bne_self_eq_false, Bool.false_eq_true, if_false, ih, Sparse.get]
      split <;> simp_all
    · simp only [List.filter_cons, bne_iff_ne, ne_eq, h, not_false_eq_true, if_true, Sparse.get, ih]
      split <;> simp_all

theorem Sparse.get_insert (d : α) (m : Sparse α) (k q : Nat) (v : α) :
    Sparse.get d (Sparse.insert m k v) q = if q = k then v else Sparse.get d m q := by
  induction m with
  | nil => rfl
  | cons p t ih =>
    obtain ⟨a, w⟩ := p
    unfold Sparse.insert
    split
    · rfl
    · split
      · subst_vars
        simp only [Sparse.get]
        split <;> simp_all
      · simp only [Sparse.get, ih]
        split
        · split <;> simp_all
        · rfl

theorem Sparse.mem_insert (m : Sparse α) (k : Nat) (v : α) (q : Nat × α) (h : q ∈ Sparse.insert m k v) :
    q = (k, v) ∨ q ∈ m := by
  induction m with
  | nil => simpa [Sparse.insert] using h
  | cons a t ih =>
    obtain ⟨a, w⟩ := a
    unfold Sparse.insert at h
    split at h
    · simpa using h
    · split at h
      · rcases List.mem_cons.1 h with h | h
        · exact .inl h
        · exact .inr (List.mem_cons_of_mem _ h)
      · rcases List.mem_cons.1 h with h | h
        · exact .inr (h ▸ List.mem_cons_self)
        · rcases ih h with h | h
          · exact .inl h
          · exact .inr (List.mem_cons_of_mem _ h)

variable [DecidableEq α]

/-- A read after a write: the value written where it was written, and what was there before everywhere else. -/
@[simp] theorem Sparse.get_set (d : α) (m : Sparse α) (k q : Nat) (v : α) :
    Sparse.get d (Sparse.set d m k v) q = if q = k then v else Sparse.get d m q := by
  unfold Sparse.set
  split
  · rw [Sparse.get_erase]; simp_all
  · exact Sparse.get_insert ..

@[simp] theorem Sparse.get_update (d : α) (m : Sparse α) (k q : Nat) (f : α → α) :
    Sparse.get d (Sparse.update d m k f) q = if q = k then f (Sparse.get d m k) else Sparse.get d m q :=
  Sparse.get_set ..

/-- The canonical form, as a bound on the first number and a form of the rest. -/
theorem Sparse.wf_cons (d : α) (k : Nat) (v : α) (m : Sparse α) :
    Sparse.wf d ((k, v) :: m) = true ↔
      v ≠ d ∧ Sparse.wf d m = true ∧ ∀ p ∈ m, k < p.1 := by
  induction m generalizing k v with
  | nil => simp [Sparse.wf]
  | cons p t ih =>
    obtain ⟨a, w⟩ := p
    have step : Sparse.wf d ((k, v) :: (a, w) :: t) = true ↔
        k < a ∧ v ≠ d ∧ Sparse.wf d ((a, w) :: t) = true := by
      simp [Sparse.wf, and_assoc]
    rw [step]
    constructor
    · rintro ⟨h, hv, hw⟩
      refine ⟨hv, hw, ?_⟩
      have := (ih a w).1 hw
      intro q hq
      rcases List.mem_cons.1 hq with rfl | hq
      · exact h
      · exact Nat.lt_trans h (this.2.2 q hq)
    · rintro ⟨hv, hw, h⟩
      exact ⟨h (a, w) List.mem_cons_self, hv, hw⟩

theorem Sparse.wf_filter (d : α) (m : Sparse α) (p : Nat × α → Bool) (h : Sparse.wf d m = true) :
    Sparse.wf d (m.filter p) = true := by
  induction m with
  | nil => rfl
  | cons a t ih =>
    obtain ⟨k, v⟩ := a
    obtain ⟨hv, hw, hl⟩ := (Sparse.wf_cons d k v t).1 h
    rw [List.filter_cons]
    split
    · exact (Sparse.wf_cons ..).2 ⟨hv, ih hw, fun q hq => hl q (List.mem_filter.1 hq).1⟩
    · exact ih hw

theorem Sparse.wf_insert (d : α) (m : Sparse α) (k : Nat) (v : α) (hv : v ≠ d) (h : Sparse.wf d m = true) :
    Sparse.wf d (Sparse.insert m k v) = true := by
  induction m with
  | nil => simpa [Sparse.insert, Sparse.wf] using hv
  | cons a t ih =>
    obtain ⟨a, w⟩ := a
    obtain ⟨hw, ht, hl⟩ := (Sparse.wf_cons d a w t).1 h
    unfold Sparse.insert
    split
    · rename_i hlt
      refine (Sparse.wf_cons ..).2 ⟨hv, h, ?_⟩
      intro q hq
      rcases List.mem_cons.1 hq with rfl | hq
      · exact hlt
      · exact Nat.lt_trans hlt (hl q hq)
    · split
      · rename_i heq
        subst heq
        exact (Sparse.wf_cons ..).2 ⟨hv, ht, hl⟩
      · refine (Sparse.wf_cons ..).2 ⟨hw, ih ht, ?_⟩
        intro q hq
        rcases Sparse.mem_insert t k v q hq with rfl | hq
        · exact by omega
        · exact hl q hq

/-- A write keeps the canonical form. -/
theorem Sparse.wf_set (d : α) (m : Sparse α) (k : Nat) (v : α) (h : Sparse.wf d m = true) :
    Sparse.wf d (Sparse.set d m k v) = true := by
  unfold Sparse.set
  split
  · exact Sparse.wf_filter d m _ h
  · exact Sparse.wf_insert d m k v ‹_› h

end Sys2Proof

namespace Sys2Proof.Machine

/-! ### Memory -/

/-- Writing bytes keeps memory's canonical form. -/
theorem Memory.wf_putBytes (m : List Host.Cell) (a : Nat) (b : Bytes) (h : Memory.wf m = true) :
    Memory.wf (putBytes m a b) = true := by
  induction b generalizing m a with
  | nil => exact h
  | cons x t ih => exact ih _ _ (Sparse.wf_set 0 m a x h)

/-- Dropping entries keeps memory's canonical form. -/
theorem Memory.wf_filter (m : List Host.Cell) (p : Host.Cell → Bool) (h : Memory.wf m = true) :
    Memory.wf (m.filter p) = true := Sparse.wf_filter 0 m p h

/-- The memory of the block in reset has the canonical form. -/
theorem Memory.wf_reset : Memory.wf State.reset.dev.mem = true := rfl

/-- A byte after a write: the byte written where the write went, and the byte before everywhere else. -/
theorem get_putBytes (m : List Host.Cell) (a q : Nat) (b : Bytes) :
    Sparse.get 0 (putBytes m a b) q = if a ≤ q ∧ q < a + b.length then b.getD (q - a) 0 else Sparse.get 0 m q := by
  induction b generalizing m a with
  | nil => rw [if_neg (by simp only [List.length_nil]; omega)]; rfl
  | cons x t ih =>
    rw [putBytes, ih, Sparse.get_set]
    by_cases h : a + 1 ≤ q ∧ q < a + 1 + t.length
    · rw [if_pos h, if_pos (by simp only [List.length_cons]; omega)]
      obtain ⟨n, rfl⟩ : ∃ n, q = a + 1 + n := ⟨q - (a + 1), by omega⟩
      rw [show a + 1 + n - a = n + 1 by omega, show a + 1 + n - (a + 1) = n by omega]
      rfl
    · rw [if_neg h]
      by_cases hq : q = a
      · subst hq
        rw [if_pos rfl, if_pos (by simp only [List.length_cons]; omega)]
        simp
      · rw [if_neg hq, if_neg (by simp only [List.length_cons]; omega)]

/-- A lost range that holds an address, after `n` bytes from `a` are no longer lost: none where the address is one of them, and
one of the same number as before elsewhere. -/
theorem cutLost_find (l : List LostRange) (a n q : Nat) :
    ((cutLost l a n).find? (fun r => decide (r.lo ≤ q) && decide (q < r.hi))).map (·.key) =
      if a ≤ q ∧ q < a + n then none else (l.find? (fun r => decide (r.lo ≤ q) && decide (q < r.hi))).map (·.key) := by
  induction l with
  | nil => simp [cutLost]
  | cons r t ih =>
    unfold cutLost at ih ⊢
    rw [List.flatMap_cons, List.find?_append, Option.map_or, ih]
    simp only [List.filter_cons, List.filter_nil, List.find?_cons]
    by_cases h : a ≤ q ∧ q < a + n
    · have h1 : ¬ q < min r.hi a := by omega
      have h2 : ¬ max r.lo (a + n) ≤ q := by omega
      simp only [if_pos h, Option.or_none]
      split <;> split <;> simp [h1, h2]
    · simp only [if_neg h]
      by_cases hr : r.lo ≤ q ∧ q < r.hi
      · rcases Nat.lt_or_ge q a with h1 | h1
        · have : r.lo < min r.hi a := by omega
          have h3 : q < min r.hi a := by omega
          simp [this, hr.1, hr.2, h3]
        · have h2 : max r.lo (a + n) < r.hi := by omega
          have h3 : ¬ q < min r.hi a := by omega
          have h4 : max r.lo (a + n) ≤ q := by omega
          simp only [h2, decide_true, if_true]
          split <;> simp [h3, h4, hr.1, hr.2]
      · have h1 : ¬ (r.lo ≤ q ∧ q < min r.hi a) := by omega
        have h2 : ¬ (max r.lo (a + n) ≤ q ∧ q < r.hi) := by omega
        have e1 : (decide (r.lo ≤ q) && decide (q < min r.hi a)) = false := by simpa using h1
        have e2 : (decide (max r.lo (a + n) ≤ q) && decide (q < r.hi)) = false := by simpa using h2
        have e3 : (decide (r.lo ≤ q) && decide (q < r.hi)) = false := by simpa using hr
        split <;> split <;> simp only [List.find?_cons, List.find?_nil, e1, e2, e3, Option.map_none, Option.none_or]

/-- A byte of a device: a free value where it is lost, else what the list says. -/
theorem Dev.byte_eq (d : Dev) (q : Nat) : d.byte q =
    match (d.lost.find? (fun r => decide (r.lo ≤ q) && decide (q < r.hi))).map (·.key) with
    | some k => Config.lostByte k q
    | none => Sparse.get 0 d.mem q := by
  unfold Dev.byte
  cases d.lost.find? (fun r => decide (r.lo ≤ q) && decide (q < r.hi)) <;> rfl

/-- A byte after bytes are stored: the byte stored where they went, and the byte before everywhere else. -/
theorem Dev.byte_store (d : Dev) (a q : Nat) (b : Bytes) :
    (d.store a b).byte q = if a ≤ q ∧ q < a + b.length then b.getD (q - a) 0 else d.byte q := by
  rw [Dev.byte_eq, Dev.byte_eq, Dev.store, cutLost_find, get_putBytes]
  by_cases h : a ≤ q ∧ q < a + b.length
  · simp only [if_pos h]
  · simp only [if_neg h]

/-- A byte after a range is zeroed: 0 within the range, and the byte before everywhere else. -/
theorem Dev.byte_zeroRange (d : Dev) (a n q : Nat) :
    (zeroRange d a n).byte q = if a ≤ q ∧ q < a + n then 0 else d.byte q := by
  have h : ∀ m : List Host.Cell, Sparse.get 0 (m.filter (fun p => decide (p.1 < a) || decide (a + n ≤ p.1))) q
      = if a ≤ q ∧ q < a + n then 0 else Sparse.get 0 m q := by
    intro m
    induction m with
    | nil => simp [Sparse.get]
    | cons x t ih =>
      obtain ⟨k, v⟩ := x
      rw [List.filter_cons]
      split
      · rename_i hk
        simp only [Sparse.get]
        by_cases e : q = k
        · subst e
          have : ¬ (a ≤ q ∧ q < a + n) := by simp at hk; omega
          simp [this]
        · simp only [if_neg e]; exact ih
      · rename_i hk
        rw [ih]
        by_cases e : q = k
        · subst e
          have : a ≤ q ∧ q < a + n := by simp at hk; omega
          simp [this]
        · simp [Sparse.get, e]
  rw [Dev.byte_eq, Dev.byte_eq, zeroRange, cutLost_find]
  simp only
  rw [h]
  by_cases hq : a ≤ q ∧ q < a + n
  · simp only [if_pos hq]
  · simp only [if_neg hq]

/-- Zeroing a range keeps memory's canonical form. -/
theorem Memory.wf_zeroRange (d : Dev) (a n : Nat) (h : Memory.wf d.mem = true) :
    Memory.wf (zeroRange d a n).mem = true := Sparse.wf_filter 0 d.mem _ h

/-- Storing bytes keeps memory's canonical form. -/
theorem Memory.wf_store (d : Dev) (a : Nat) (b : Bytes) (h : Memory.wf d.mem = true) : Memory.wf (d.store a b).mem = true :=
  Memory.wf_putBytes d.mem a b h

/-- Losing a range leaves the list alone. -/
@[simp] theorem loseRange_mem (d : Dev) (a n : Nat) : (loseRange d a n).mem = d.mem := rfl

/-- Storing one word keeps memory's canonical form. -/
theorem Memory.wf_writeWord (d : Dev) (w v : Nat) (f : WordFault) (h : Memory.wf d.mem = true) :
    Memory.wf (writeWord d w v f).mem = true := by
  unfold writeWord
  simp only
  split
  · exact Memory.wf_putBytes d.mem _ _ h
  · exact Memory.wf_putBytes d.mem _ _ h

end Sys2Proof.Machine
end

