-- ==== Sys2Proof/Laws/State.lean ====
section
/-!
SUPPORT. One lemma per field of the device and per update: which field an update changes, and that it leaves the others.
-/
namespace Sys2Proof.Machine

variable (d : Dev)

/-! A command that acts on the device alone. -/

@[simp] theorem State.act_eq (s : State) (f : Dev → Dev) : s.act f = .next { s with dev := f s.dev } := rfl

/-! What an update puts into its own place. -/

@[simp] theorem Dev.tile_updTile (t u : Nat) (f : Tile → Tile) :
    (d.updTile t f).tile u = if u = t then f (d.tile t) else d.tile u := Sparse.get_update ..
@[simp] theorem Dev.part_updPart (k j : Nat) (f : Part → Part) :
    (d.updPart k f).part j = if j = k then f (d.part k) else d.part j := Sparse.get_update ..
@[simp] theorem Dev.channel_updChannel (c e : Nat) (f : Channel → Channel) :
    (d.updChannel c f).channel e = if e = c then f (d.channel c) else d.channel e := Sparse.get_update ..
@[simp] theorem Dev.link_updLink (l m : Nat) (f : LinkState → LinkState) :
    (d.updLink l f).link m = if m = l then f (d.link l) else d.link m := Sparse.get_update ..
@[simp] theorem Dev.fn_updFn (n m : Nat) (f : HostFn → HostFn) :
    (d.updFn n f).fn m = if m = n then f (d.fn n) else d.fn m := Sparse.get_update ..
@[simp] theorem Dev.tile_updCore (t u : Nat) (f : Core → Core) :
    (d.updCore t f).tile u = if u = t then { d.tile t with core := f (d.tile t).core } else d.tile u := d.tile_updTile t u _
@[simp] theorem Dev.part_updTime (k j : Nat) (f : PartTime → PartTime) :
    (d.updTime k f).part j = if j = k then { d.part k with time := f (d.part k).time } else d.part j := d.part_updPart k j _
@[simp] theorem Dev.part_updPlan (k j : Nat) (f : PlanState → PlanState) :
    (d.updPlan k f).part j = if j = k then { d.part k with plan := f (d.part k).plan } else d.part j := d.part_updPart k j _
@[simp] theorem Dev.part_updNet (k j : Nat) (f : Net → Net) :
    (d.updNet k f).part j = if j = k then { d.part k with net := f (d.part k).net } else d.part j := d.part_updPart k j _
@[simp] theorem Dev.updBase_time (f : Timebase → Timebase) : (d.updBase f).time = f d.time := rfl
@[simp] theorem Dev.updRouter_router (f : Router → Router) : (d.updRouter f).router = f d.router := rfl
@[simp] theorem Dev.updSync_sync (f : SyncTotals → SyncTotals) : (d.updSync f).sync = f d.sync := rfl
@[simp] theorem Dev.updIn_integrity (f : Integrity → Integrity) : (d.updIn f).integrity = f d.integrity := rfl
@[simp] theorem Dev.updOps_opTotals (f : OpTotals → OpTotals) : (d.updOps f).opTotals = f d.opTotals := rfl
@[simp] theorem Dev.updTileTotals_tileTotals (f : TileTotals → TileTotals) : (d.updTileTotals f).tileTotals = f d.tileTotals := rfl
@[simp] theorem Dev.updMemTotals_memTotals (f : MemTotals → MemTotals) : (d.updMemTotals f).memTotals = f d.memTotals := rfl
@[simp] theorem Dev.updClockTotals_clockTotals (f : ClockTotals → ClockTotals) : (d.updClockTotals f).clockTotals = f d.clockTotals := rfl
@[simp] theorem Dev.updPower_power (f : Power → Power) : (d.updPower f).power = f d.power := rfl
@[simp] theorem Dev.updMgmt_mgmt (f : Mgmt → Mgmt) : (d.updMgmt f).mgmt = f d.mgmt := rfl
@[simp] theorem Dev.updBoot_boot (f : Boot → Boot) : (d.updBoot f).boot = f d.boot := rfl
@[simp] theorem Dev.updWt_weightTotals (f : WeightTotals → WeightTotals) : (d.updWt f).weightTotals = f d.weightTotals := rfl
@[simp] theorem Dev.updSt_serveTotals (f : ServeTotals → ServeTotals) : (d.updSt f).serveTotals = f d.serveTotals := rfl

/-! What `updTile` leaves. -/

@[simp] theorem Dev.updTile_time (t : Nat) (f : Tile → Tile) : (d.updTile t f).time = d.time := rfl
@[simp] theorem Dev.updTile_stage (t : Nat) (f : Tile → Tile) : (d.updTile t f).stage = d.stage := rfl
@[simp] theorem Dev.updTile_failCause (t : Nat) (f : Tile → Tile) : (d.updTile t f).failCause = d.failCause := rfl
@[simp] theorem Dev.updTile_deviceId (t : Nat) (f : Tile → Tile) : (d.updTile t f).deviceId = d.deviceId := rfl
@[simp] theorem Dev.updTile_deviceFatal (t : Nat) (f : Tile → Tile) : (d.updTile t f).deviceFatal = d.deviceFatal := rfl
@[simp] theorem Dev.updTile_halted (t : Nat) (f : Tile → Tile) : (d.updTile t f).halted = d.halted := rfl
@[simp] theorem Dev.updTile_faultN (t : Nat) (f : Tile → Tile) : (d.updTile t f).faultN = d.faultN := rfl
@[simp] theorem Dev.updTile_enabledGroups (t : Nat) (f : Tile → Tile) : (d.updTile t f).enabledGroups = d.enabledGroups := rfl
@[simp] theorem Dev.updTile_clockCfg (t : Nat) (f : Tile → Tile) : (d.updTile t f).clockCfg = d.clockCfg := rfl
@[simp] theorem Dev.updTile_clockTotals (t : Nat) (f : Tile → Tile) : (d.updTile t f).clockTotals = d.clockTotals := rfl
@[simp] theorem Dev.updTile_tileTotals (t : Nat) (f : Tile → Tile) : (d.updTile t f).tileTotals = d.tileTotals := rfl
@[simp] theorem Dev.updTile_opTotals (t : Nat) (f : Tile → Tile) : (d.updTile t f).opTotals = d.opTotals := rfl
@[simp] theorem Dev.updTile_select (t : Nat) (f : Tile → Tile) : (d.updTile t f).select = d.select := rfl
@[simp] theorem Dev.updTile_log (t : Nat) (f : Tile → Tile) : (d.updTile t f).log = d.log := rfl
@[simp] theorem Dev.updTile_dump (t : Nat) (f : Tile → Tile) : (d.updTile t f).dump = d.dump := rfl
@[simp] theorem Dev.updTile_gasp (t : Nat) (f : Tile → Tile) : (d.updTile t f).gasp = d.gasp := rfl
@[simp] theorem Dev.updTile_crossings (t : Nat) (f : Tile → Tile) : (d.updTile t f).crossings = d.crossings := rfl
@[simp] theorem Dev.updTile_parts (t : Nat) (f : Tile → Tile) : (d.updTile t f).parts = d.parts := rfl
@[simp] theorem Dev.updTile_mem (t : Nat) (f : Tile → Tile) : (d.updTile t f).mem = d.mem := rfl
@[simp] theorem Dev.updTile_lost (t : Nat) (f : Tile → Tile) : (d.updTile t f).lost = d.lost := rfl
@[simp] theorem Dev.updTile_faults (t : Nat) (f : Tile → Tile) : (d.updTile t f).faults = d.faults := rfl
@[simp] theorem Dev.updTile_channels (t : Nat) (f : Tile → Tile) : (d.updTile t f).channels = d.channels := rfl
@[simp] theorem Dev.updTile_cp (t : Nat) (f : Tile → Tile) : (d.updTile t f).cp = d.cp := rfl
@[simp] theorem Dev.updTile_plannedLandings (t : Nat) (f : Tile → Tile) : (d.updTile t f).plannedLandings = d.plannedLandings := rfl
@[simp] theorem Dev.updTile_scrubs (t : Nat) (f : Tile → Tile) : (d.updTile t f).scrubs = d.scrubs := rfl
@[simp] theorem Dev.updTile_accessSeq (t : Nat) (f : Tile → Tile) : (d.updTile t f).accessSeq = d.accessSeq := rfl
@[simp] theorem Dev.updTile_memTotals (t : Nat) (f : Tile → Tile) : (d.updTile t f).memTotals = d.memTotals := rfl
@[simp] theorem Dev.updTile_integrity (t : Nat) (f : Tile → Tile) : (d.updTile t f).integrity = d.integrity := rfl
@[simp] theorem Dev.updTile_links (t : Nat) (f : Tile → Tile) : (d.updTile t f).links = d.links := rfl
@[simp] theorem Dev.updTile_router (t : Nat) (f : Tile → Tile) : (d.updTile t f).router = d.router := rfl
@[simp] theorem Dev.updTile_noticesIn (t : Nat) (f : Tile → Tile) : (d.updTile t f).noticesIn = d.noticesIn := rfl
@[simp] theorem Dev.updTile_sync (t : Nat) (f : Tile → Tile) : (d.updTile t f).sync = d.sync := rfl
@[simp] theorem Dev.updTile_fns (t : Nat) (f : Tile → Tile) : (d.updTile t f).fns = d.fns := rfl
@[simp] theorem Dev.updTile_commands (t : Nat) (f : Tile → Tile) : (d.updTile t f).commands = d.commands := rfl
@[simp] theorem Dev.updTile_hostTotals (t : Nat) (f : Tile → Tile) : (d.updTile t f).hostTotals = d.hostTotals := rfl
@[simp] theorem Dev.updTile_pcie (t : Nat) (f : Tile → Tile) : (d.updTile t f).pcie = d.pcie := rfl
@[simp] theorem Dev.updTile_hostMem (t : Nat) (f : Tile → Tile) : (d.updTile t f).hostMem = d.hostMem := rfl
@[simp] theorem Dev.updTile_weightTotals (t : Nat) (f : Tile → Tile) : (d.updTile t f).weightTotals = d.weightTotals := rfl
@[simp] theorem Dev.updTile_serveTotals (t : Nat) (f : Tile → Tile) : (d.updTile t f).serveTotals = d.serveTotals := rfl
@[simp] theorem Dev.updTile_power (t : Nat) (f : Tile → Tile) : (d.updTile t f).power = d.power := rfl
@[simp] theorem Dev.updTile_fuses (t : Nat) (f : Tile → Tile) : (d.updTile t f).fuses = d.fuses := rfl
@[simp] theorem Dev.updTile_mgmt (t : Nat) (f : Tile → Tile) : (d.updTile t f).mgmt = d.mgmt := rfl
@[simp] theorem Dev.updTile_boot (t : Nat) (f : Tile → Tile) : (d.updTile t f).boot = d.boot := rfl
@[simp] theorem Dev.updTile_capGib (t : Nat) (f : Tile → Tile) : (d.updTile t f).capGib = d.capGib := rfl
@[simp] theorem Dev.updTile_fusing (t : Nat) (f : Tile → Tile) : (d.updTile t f).fusing = d.fusing := rfl
@[simp] theorem Dev.updTile_grade (t : Nat) (f : Tile → Tile) : (d.updTile t f).grade = d.grade := rfl
@[simp] theorem Dev.updTile_fwVersion (t : Nat) (f : Tile → Tile) : (d.updTile t f).fwVersion = d.fwVersion := rfl
@[simp] theorem Dev.updTile_fwRunning (t : Nat) (f : Tile → Tile) : (d.updTile t f).fwRunning = d.fwRunning := rfl
@[simp] theorem Dev.updTile_free (t : Nat) (f : Tile → Tile) : (d.updTile t f).free = d.free := rfl
@[simp] theorem Dev.updTile_readData (t : Nat) (f : Tile → Tile) : (d.updTile t f).readData = d.readData := rfl
@[simp] theorem Dev.updTile_part_at (t : Nat) (f : Tile → Tile) (i : Nat) : (d.updTile t f).part i = d.part i := rfl
@[simp] theorem Dev.updTile_channel_at (t : Nat) (f : Tile → Tile) (i : Nat) : (d.updTile t f).channel i = d.channel i := rfl
@[simp] theorem Dev.updTile_link_at (t : Nat) (f : Tile → Tile) (i : Nat) : (d.updTile t f).link i = d.link i := rfl
@[simp] theorem Dev.updTile_fn_at (t : Nat) (f : Tile → Tile) (i : Nat) : (d.updTile t f).fn i = d.fn i := rfl

/-! What `updPart` leaves. -/

@[simp] theorem Dev.updPart_time (k : Nat) (f : Part → Part) : (d.updPart k f).time = d.time := rfl
@[simp] theorem Dev.updPart_stage (k : Nat) (f : Part → Part) : (d.updPart k f).stage = d.stage := rfl
@[simp] theorem Dev.updPart_failCause (k : Nat) (f : Part → Part) : (d.updPart k f).failCause = d.failCause := rfl
@[simp] theorem Dev.updPart_deviceId (k : Nat) (f : Part → Part) : (d.updPart k f).deviceId = d.deviceId := rfl
@[simp] theorem Dev.updPart_deviceFatal (k : Nat) (f : Part → Part) : (d.updPart k f).deviceFatal = d.deviceFatal := rfl
@[simp] theorem Dev.updPart_halted (k : Nat) (f : Part → Part) : (d.updPart k f).halted = d.halted := rfl
@[simp] theorem Dev.updPart_faultN (k : Nat) (f : Part → Part) : (d.updPart k f).faultN = d.faultN := rfl
@[simp] theorem Dev.updPart_enabledGroups (k : Nat) (f : Part → Part) : (d.updPart k f).enabledGroups = d.enabledGroups := rfl
@[simp] theorem Dev.updPart_clockCfg (k : Nat) (f : Part → Part) : (d.updPart k f).clockCfg = d.clockCfg := rfl
@[simp] theorem Dev.updPart_clockTotals (k : Nat) (f : Part → Part) : (d.updPart k f).clockTotals = d.clockTotals := rfl
@[simp] theorem Dev.updPart_tileTotals (k : Nat) (f : Part → Part) : (d.updPart k f).tileTotals = d.tileTotals := rfl
@[simp] theorem Dev.updPart_opTotals (k : Nat) (f : Part → Part) : (d.updPart k f).opTotals = d.opTotals := rfl
@[simp] theorem Dev.updPart_select (k : Nat) (f : Part → Part) : (d.updPart k f).select = d.select := rfl
@[simp] theorem Dev.updPart_log (k : Nat) (f : Part → Part) : (d.updPart k f).log = d.log := rfl
@[simp] theorem Dev.updPart_dump (k : Nat) (f : Part → Part) : (d.updPart k f).dump = d.dump := rfl
@[simp] theorem Dev.updPart_gasp (k : Nat) (f : Part → Part) : (d.updPart k f).gasp = d.gasp := rfl
@[simp] theorem Dev.updPart_tiles (k : Nat) (f : Part → Part) : (d.updPart k f).tiles = d.tiles := rfl
@[simp] theorem Dev.updPart_crossings (k : Nat) (f : Part → Part) : (d.updPart k f).crossings = d.crossings := rfl
@[simp] theorem Dev.updPart_mem (k : Nat) (f : Part → Part) : (d.updPart k f).mem = d.mem := rfl
@[simp] theorem Dev.updPart_lost (k : Nat) (f : Part → Part) : (d.updPart k f).lost = d.lost := rfl
@[simp] theorem Dev.updPart_faults (k : Nat) (f : Part → Part) : (d.updPart k f).faults = d.faults := rfl
@[simp] theorem Dev.updPart_channels (k : Nat) (f : Part → Part) : (d.updPart k f).channels = d.channels := rfl
@[simp] theorem Dev.updPart_cp (k : Nat) (f : Part → Part) : (d.updPart k f).cp = d.cp := rfl
@[simp] theorem Dev.updPart_plannedLandings (k : Nat) (f : Part → Part) : (d.updPart k f).plannedLandings = d.plannedLandings := rfl
@[simp] theorem Dev.updPart_scrubs (k : Nat) (f : Part → Part) : (d.updPart k f).scrubs = d.scrubs := rfl
@[simp] theorem Dev.updPart_accessSeq (k : Nat) (f : Part → Part) : (d.updPart k f).accessSeq = d.accessSeq := rfl
@[simp] theorem Dev.updPart_memTotals (k : Nat) (f : Part → Part) : (d.updPart k f).memTotals = d.memTotals := rfl
@[simp] theorem Dev.updPart_integrity (k : Nat) (f : Part → Part) : (d.updPart k f).integrity = d.integrity := rfl
@[simp] theorem Dev.updPart_links (k : Nat) (f : Part → Part) : (d.updPart k f).links = d.links := rfl
@[simp] theorem Dev.updPart_router (k : Nat) (f : Part → Part) : (d.updPart k f).router = d.router := rfl
@[simp] theorem Dev.updPart_noticesIn (k : Nat) (f : Part → Part) : (d.updPart k f).noticesIn = d.noticesIn := rfl
@[simp] theorem Dev.updPart_sync (k : Nat) (f : Part → Part) : (d.updPart k f).sync = d.sync := rfl
@[simp] theorem Dev.updPart_fns (k : Nat) (f : Part → Part) : (d.updPart k f).fns = d.fns := rfl
@[simp] theorem Dev.updPart_commands (k : Nat) (f : Part → Part) : (d.updPart k f).commands = d.commands := rfl
@[simp] theorem Dev.updPart_hostTotals (k : Nat) (f : Part → Part) : (d.updPart k f).hostTotals = d.hostTotals := rfl
@[simp] theorem Dev.updPart_pcie (k : Nat) (f : Part → Part) : (d.updPart k f).pcie = d.pcie := rfl
@[simp] theorem Dev.updPart_hostMem (k : Nat) (f : Part → Part) : (d.updPart k f).hostMem = d.hostMem := rfl
@[simp] theorem Dev.updPart_weightTotals (k : Nat) (f : Part → Part) : (d.updPart k f).weightTotals = d.weightTotals := rfl
@[simp] theorem Dev.updPart_serveTotals (k : Nat) (f : Part → Part) : (d.updPart k f).serveTotals = d.serveTotals := rfl
@[simp] theorem Dev.updPart_power (k : Nat) (f : Part → Part) : (d.updPart k f).power = d.power := rfl
@[simp] theorem Dev.updPart_fuses (k : Nat) (f : Part → Part) : (d.updPart k f).fuses = d.fuses := rfl
@[simp] theorem Dev.updPart_mgmt (k : Nat) (f : Part → Part) : (d.updPart k f).mgmt = d.mgmt := rfl
@[simp] theorem Dev.updPart_boot (k : Nat) (f : Part → Part) : (d.updPart k f).boot = d.boot := rfl
@[simp] theorem Dev.updPart_capGib (k : Nat) (f : Part → Part) : (d.updPart k f).capGib = d.capGib := rfl
@[simp] theorem Dev.updPart_fusing (k : Nat) (f : Part → Part) : (d.updPart k f).fusing = d.fusing := rfl
@[simp] theorem Dev.updPart_grade (k : Nat) (f : Part → Part) : (d.updPart k f).grade = d.grade := rfl
@[simp] theorem Dev.updPart_fwVersion (k : Nat) (f : Part → Part) : (d.updPart k f).fwVersion = d.fwVersion := rfl
@[simp] theorem Dev.updPart_fwRunning (k : Nat) (f : Part → Part) : (d.updPart k f).fwRunning = d.fwRunning := rfl
@[simp] theorem Dev.updPart_free (k : Nat) (f : Part → Part) : (d.updPart k f).free = d.free := rfl
@[simp] theorem Dev.updPart_readData (k : Nat) (f : Part → Part) : (d.updPart k f).readData = d.readData := rfl
@[simp] theorem Dev.updPart_tile_at (k : Nat) (f : Part → Part) (i : Nat) : (d.updPart k f).tile i = d.tile i := rfl
@[simp] theorem Dev.updPart_channel_at (k : Nat) (f : Part → Part) (i : Nat) : (d.updPart k f).channel i = d.channel i := rfl
@[simp] theorem Dev.updPart_link_at (k : Nat) (f : Part → Part) (i : Nat) : (d.updPart k f).link i = d.link i := rfl
@[simp] theorem Dev.updPart_fn_at (k : Nat) (f : Part → Part) (i : Nat) : (d.updPart k f).fn i = d.fn i := rfl

/-! What `updChannel` leaves. -/

@[simp] theorem Dev.updChannel_time (c : Nat) (f : Channel → Channel) : (d.updChannel c f).time = d.time := rfl
@[simp] theorem Dev.updChannel_stage (c : Nat) (f : Channel → Channel) : (d.updChannel c f).stage = d.stage := rfl
@[simp] theorem Dev.updChannel_failCause (c : Nat) (f : Channel → Channel) : (d.updChannel c f).failCause = d.failCause := rfl
@[simp] theorem Dev.updChannel_deviceId (c : Nat) (f : Channel → Channel) : (d.updChannel c f).deviceId = d.deviceId := rfl
@[simp] theorem Dev.updChannel_deviceFatal (c : Nat) (f : Channel → Channel) : (d.updChannel c f).deviceFatal = d.deviceFatal := rfl
@[simp] theorem Dev.updChannel_halted (c : Nat) (f : Channel → Channel) : (d.updChannel c f).halted = d.halted := rfl
@[simp] theorem Dev.updChannel_faultN (c : Nat) (f : Channel → Channel) : (d.updChannel c f).faultN = d.faultN := rfl
@[simp] theorem Dev.updChannel_enabledGroups (c : Nat) (f : Channel → Channel) : (d.updChannel c f).enabledGroups = d.enabledGroups := rfl
@[simp] theorem Dev.updChannel_clockCfg (c : Nat) (f : Channel → Channel) : (d.updChannel c f).clockCfg = d.clockCfg := rfl
@[simp] theorem Dev.updChannel_clockTotals (c : Nat) (f : Channel → Channel) : (d.updChannel c f).clockTotals = d.clockTotals := rfl
@[simp] theorem Dev.updChannel_tileTotals (c : Nat) (f : Channel → Channel) : (d.updChannel c f).tileTotals = d.tileTotals := rfl
@[simp] theorem Dev.updChannel_opTotals (c : Nat) (f : Channel → Channel) : (d.updChannel c f).opTotals = d.opTotals := rfl
@[simp] theorem Dev.updChannel_select (c : Nat) (f : Channel → Channel) : (d.updChannel c f).select = d.select := rfl
@[simp] theorem Dev.updChannel_log (c : Nat) (f : Channel → Channel) : (d.updChannel c f).log = d.log := rfl
@[simp] theorem Dev.updChannel_dump (c : Nat) (f : Channel → Channel) : (d.updChannel c f).dump = d.dump := rfl
@[simp] theorem Dev.updChannel_gasp (c : Nat) (f : Channel → Channel) : (d.updChannel c f).gasp = d.gasp := rfl
@[simp] theorem Dev.updChannel_tiles (c : Nat) (f : Channel → Channel) : (d.updChannel c f).tiles = d.tiles := rfl
@[simp] theorem Dev.updChannel_crossings (c : Nat) (f : Channel → Channel) : (d.updChannel c f).crossings = d.crossings := rfl
@[simp] theorem Dev.updChannel_parts (c : Nat) (f : Channel → Channel) : (d.updChannel c f).parts = d.parts := rfl
@[simp] theorem Dev.updChannel_mem (c : Nat) (f : Channel → Channel) : (d.updChannel c f).mem = d.mem := rfl
@[simp] theorem Dev.updChannel_lost (c : Nat) (f : Channel → Channel) : (d.updChannel c f).lost = d.lost := rfl
@[simp] theorem Dev.updChannel_faults (c : Nat) (f : Channel → Channel) : (d.updChannel c f).faults = d.faults := rfl
@[simp] theorem Dev.updChannel_cp (c : Nat) (f : Channel → Channel) : (d.updChannel c f).cp = d.cp := rfl
@[simp] theorem Dev.updChannel_plannedLandings (c : Nat) (f : Channel → Channel) : (d.updChannel c f).plannedLandings = d.plannedLandings := rfl
@[simp] theorem Dev.updChannel_scrubs (c : Nat) (f : Channel → Channel) : (d.updChannel c f).scrubs = d.scrubs := rfl
@[simp] theorem Dev.updChannel_accessSeq (c : Nat) (f : Channel → Channel) : (d.updChannel c f).accessSeq = d.accessSeq := rfl
@[simp] theorem Dev.updChannel_memTotals (c : Nat) (f : Channel → Channel) : (d.updChannel c f).memTotals = d.memTotals := rfl
@[simp] theorem Dev.updChannel_integrity (c : Nat) (f : Channel → Channel) : (d.updChannel c f).integrity = d.integrity := rfl
@[simp] theorem Dev.updChannel_links (c : Nat) (f : Channel → Channel) : (d.updChannel c f).links = d.links := rfl
@[simp] theorem Dev.updChannel_router (c : Nat) (f : Channel → Channel) : (d.updChannel c f).router = d.router := rfl
@[simp] theorem Dev.updChannel_noticesIn (c : Nat) (f : Channel → Channel) : (d.updChannel c f).noticesIn = d.noticesIn := rfl
@[simp] theorem Dev.updChannel_sync (c : Nat) (f : Channel → Channel) : (d.updChannel c f).sync = d.sync := rfl
@[simp] theorem Dev.updChannel_fns (c : Nat) (f : Channel → Channel) : (d.updChannel c f).fns = d.fns := rfl
@[simp] theorem Dev.updChannel_commands (c : Nat) (f : Channel → Channel) : (d.updChannel c f).commands = d.commands := rfl
@[simp] theorem Dev.updChannel_hostTotals (c : Nat) (f : Channel → Channel) : (d.updChannel c f).hostTotals = d.hostTotals := rfl
@[simp] theorem Dev.updChannel_pcie (c : Nat) (f : Channel → Channel) : (d.updChannel c f).pcie = d.pcie := rfl
@[simp] theorem Dev.updChannel_hostMem (c : Nat) (f : Channel → Channel) : (d.updChannel c f).hostMem = d.hostMem := rfl
@[simp] theorem Dev.updChannel_weightTotals (c : Nat) (f : Channel → Channel) : (d.updChannel c f).weightTotals = d.weightTotals := rfl
@[simp] theorem Dev.updChannel_serveTotals (c : Nat) (f : Channel → Channel) : (d.updChannel c f).serveTotals = d.serveTotals := rfl
@[simp] theorem Dev.updChannel_power (c : Nat) (f : Channel → Channel) : (d.updChannel c f).power = d.power := rfl
@[simp] theorem Dev.updChannel_fuses (c : Nat) (f : Channel → Channel) : (d.updChannel c f).fuses = d.fuses := rfl
@[simp] theorem Dev.updChannel_mgmt (c : Nat) (f : Channel → Channel) : (d.updChannel c f).mgmt = d.mgmt := rfl
@[simp] theorem Dev.updChannel_boot (c : Nat) (f : Channel → Channel) : (d.updChannel c f).boot = d.boot := rfl
@[simp] theorem Dev.updChannel_capGib (c : Nat) (f : Channel → Channel) : (d.updChannel c f).capGib = d.capGib := rfl
@[simp] theorem Dev.updChannel_fusing (c : Nat) (f : Channel → Channel) : (d.updChannel c f).fusing = d.fusing := rfl
@[simp] theorem Dev.updChannel_grade (c : Nat) (f : Channel → Channel) : (d.updChannel c f).grade = d.grade := rfl
@[simp] theorem Dev.updChannel_fwVersion (c : Nat) (f : Channel → Channel) : (d.updChannel c f).fwVersion = d.fwVersion := rfl
@[simp] theorem Dev.updChannel_fwRunning (c : Nat) (f : Channel → Channel) : (d.updChannel c f).fwRunning = d.fwRunning := rfl
@[simp] theorem Dev.updChannel_free (c : Nat) (f : Channel → Channel) : (d.updChannel c f).free = d.free := rfl
@[simp] theorem Dev.updChannel_readData (c : Nat) (f : Channel → Channel) : (d.updChannel c f).readData = d.readData := rfl
@[simp] theorem Dev.updChannel_tile_at (c : Nat) (f : Channel → Channel) (i : Nat) : (d.updChannel c f).tile i = d.tile i := rfl
@[simp] theorem Dev.updChannel_part_at (c : Nat) (f : Channel → Channel) (i : Nat) : (d.updChannel c f).part i = d.part i := rfl
@[simp] theorem Dev.updChannel_link_at (c : Nat) (f : Channel → Channel) (i : Nat) : (d.updChannel c f).link i = d.link i := rfl
@[simp] theorem Dev.updChannel_fn_at (c : Nat) (f : Channel → Channel) (i : Nat) : (d.updChannel c f).fn i = d.fn i := rfl

/-! What `updLink` leaves. -/

@[simp] theorem Dev.updLink_time (l : Nat) (f : LinkState → LinkState) : (d.updLink l f).time = d.time := rfl
@[simp] theorem Dev.updLink_stage (l : Nat) (f : LinkState → LinkState) : (d.updLink l f).stage = d.stage := rfl
@[simp] theorem Dev.updLink_failCause (l : Nat) (f : LinkState → LinkState) : (d.updLink l f).failCause = d.failCause := rfl
@[simp] theorem Dev.updLink_deviceId (l : Nat) (f : LinkState → LinkState) : (d.updLink l f).deviceId = d.deviceId := rfl
@[simp] theorem Dev.updLink_deviceFatal (l : Nat) (f : LinkState → LinkState) : (d.updLink l f).deviceFatal = d.deviceFatal := rfl
@[simp] theorem Dev.updLink_halted (l : Nat) (f : LinkState → LinkState) : (d.updLink l f).halted = d.halted := rfl
@[simp] theorem Dev.updLink_faultN (l : Nat) (f : LinkState → LinkState) : (d.updLink l f).faultN = d.faultN := rfl
@[simp] theorem Dev.updLink_enabledGroups (l : Nat) (f : LinkState → LinkState) : (d.updLink l f).enabledGroups = d.enabledGroups := rfl
@[simp] theorem Dev.updLink_clockCfg (l : Nat) (f : LinkState → LinkState) : (d.updLink l f).clockCfg = d.clockCfg := rfl
@[simp] theorem Dev.updLink_clockTotals (l : Nat) (f : LinkState → LinkState) : (d.updLink l f).clockTotals = d.clockTotals := rfl
@[simp] theorem Dev.updLink_tileTotals (l : Nat) (f : LinkState → LinkState) : (d.updLink l f).tileTotals = d.tileTotals := rfl
@[simp] theorem Dev.updLink_opTotals (l : Nat) (f : LinkState → LinkState) : (d.updLink l f).opTotals = d.opTotals := rfl
@[simp] theorem Dev.updLink_select (l : Nat) (f : LinkState → LinkState) : (d.updLink l f).select = d.select := rfl
@[simp] theorem Dev.updLink_log (l : Nat) (f : LinkState → LinkState) : (d.updLink l f).log = d.log := rfl
@[simp] theorem Dev.updLink_dump (l : Nat) (f : LinkState → LinkState) : (d.updLink l f).dump = d.dump := rfl
@[simp] theorem Dev.updLink_gasp (l : Nat) (f : LinkState → LinkState) : (d.updLink l f).gasp = d.gasp := rfl
@[simp] theorem Dev.updLink_tiles (l : Nat) (f : LinkState → LinkState) : (d.updLink l f).tiles = d.tiles := rfl
@[simp] theorem Dev.updLink_crossings (l : Nat) (f : LinkState → LinkState) : (d.updLink l f).crossings = d.crossings := rfl
@[simp] theorem Dev.updLink_parts (l : Nat) (f : LinkState → LinkState) : (d.updLink l f).parts = d.parts := rfl
@[simp] theorem Dev.updLink_mem (l : Nat) (f : LinkState → LinkState) : (d.updLink l f).mem = d.mem := rfl
@[simp] theorem Dev.updLink_lost (l : Nat) (f : LinkState → LinkState) : (d.updLink l f).lost = d.lost := rfl
@[simp] theorem Dev.updLink_faults (l : Nat) (f : LinkState → LinkState) : (d.updLink l f).faults = d.faults := rfl
@[simp] theorem Dev.updLink_channels (l : Nat) (f : LinkState → LinkState) : (d.updLink l f).channels = d.channels := rfl
@[simp] theorem Dev.updLink_cp (l : Nat) (f : LinkState → LinkState) : (d.updLink l f).cp = d.cp := rfl
@[simp] theorem Dev.updLink_plannedLandings (l : Nat) (f : LinkState → LinkState) : (d.updLink l f).plannedLandings = d.plannedLandings := rfl
@[simp] theorem Dev.updLink_scrubs (l : Nat) (f : LinkState → LinkState) : (d.updLink l f).scrubs = d.scrubs := rfl
@[simp] theorem Dev.updLink_accessSeq (l : Nat) (f : LinkState → LinkState) : (d.updLink l f).accessSeq = d.accessSeq := rfl
@[simp] theorem Dev.updLink_memTotals (l : Nat) (f : LinkState → LinkState) : (d.updLink l f).memTotals = d.memTotals := rfl
@[simp] theorem Dev.updLink_integrity (l : Nat) (f : LinkState → LinkState) : (d.updLink l f).integrity = d.integrity := rfl
@[simp] theorem Dev.updLink_router (l : Nat) (f : LinkState → LinkState) : (d.updLink l f).router = d.router := rfl
@[simp] theorem Dev.updLink_noticesIn (l : Nat) (f : LinkState → LinkState) : (d.updLink l f).noticesIn = d.noticesIn := rfl
@[simp] theorem Dev.updLink_sync (l : Nat) (f : LinkState → LinkState) : (d.updLink l f).sync = d.sync := rfl
@[simp] theorem Dev.updLink_fns (l : Nat) (f : LinkState → LinkState) : (d.updLink l f).fns = d.fns := rfl
@[simp] theorem Dev.updLink_commands (l : Nat) (f : LinkState → LinkState) : (d.updLink l f).commands = d.commands := rfl
@[simp] theorem Dev.updLink_hostTotals (l : Nat) (f : LinkState → LinkState) : (d.updLink l f).hostTotals = d.hostTotals := rfl
@[simp] theorem Dev.updLink_pcie (l : Nat) (f : LinkState → LinkState) : (d.updLink l f).pcie = d.pcie := rfl
@[simp] theorem Dev.updLink_hostMem (l : Nat) (f : LinkState → LinkState) : (d.updLink l f).hostMem = d.hostMem := rfl
@[simp] theorem Dev.updLink_weightTotals (l : Nat) (f : LinkState → LinkState) : (d.updLink l f).weightTotals = d.weightTotals := rfl
@[simp] theorem Dev.updLink_serveTotals (l : Nat) (f : LinkState → LinkState) : (d.updLink l f).serveTotals = d.serveTotals := rfl
@[simp] theorem Dev.updLink_power (l : Nat) (f : LinkState → LinkState) : (d.updLink l f).power = d.power := rfl
@[simp] theorem Dev.updLink_fuses (l : Nat) (f : LinkState → LinkState) : (d.updLink l f).fuses = d.fuses := rfl
@[simp] theorem Dev.updLink_mgmt (l : Nat) (f : LinkState → LinkState) : (d.updLink l f).mgmt = d.mgmt := rfl
@[simp] theorem Dev.updLink_boot (l : Nat) (f : LinkState → LinkState) : (d.updLink l f).boot = d.boot := rfl
@[simp] theorem Dev.updLink_capGib (l : Nat) (f : LinkState → LinkState) : (d.updLink l f).capGib = d.capGib := rfl
@[simp] theorem Dev.updLink_fusing (l : Nat) (f : LinkState → LinkState) : (d.updLink l f).fusing = d.fusing := rfl
@[simp] theorem Dev.updLink_grade (l : Nat) (f : LinkState → LinkState) : (d.updLink l f).grade = d.grade := rfl
@[simp] theorem Dev.updLink_fwVersion (l : Nat) (f : LinkState → LinkState) : (d.updLink l f).fwVersion = d.fwVersion := rfl
@[simp] theorem Dev.updLink_fwRunning (l : Nat) (f : LinkState → LinkState) : (d.updLink l f).fwRunning = d.fwRunning := rfl
@[simp] theorem Dev.updLink_free (l : Nat) (f : LinkState → LinkState) : (d.updLink l f).free = d.free := rfl
@[simp] theorem Dev.updLink_readData (l : Nat) (f : LinkState → LinkState) : (d.updLink l f).readData = d.readData := rfl
@[simp] theorem Dev.updLink_tile_at (l : Nat) (f : LinkState → LinkState) (i : Nat) : (d.updLink l f).tile i = d.tile i := rfl
@[simp] theorem Dev.updLink_part_at (l : Nat) (f : LinkState → LinkState) (i : Nat) : (d.updLink l f).part i = d.part i := rfl
@[simp] theorem Dev.updLink_channel_at (l : Nat) (f : LinkState → LinkState) (i : Nat) : (d.updLink l f).channel i = d.channel i := rfl
@[simp] theorem Dev.updLink_fn_at (l : Nat) (f : LinkState → LinkState) (i : Nat) : (d.updLink l f).fn i = d.fn i := rfl

/-! What `updFn` leaves. -/

@[simp] theorem Dev.updFn_time (n : Nat) (f : HostFn → HostFn) : (d.updFn n f).time = d.time := rfl
@[simp] theorem Dev.updFn_stage (n : Nat) (f : HostFn → HostFn) : (d.updFn n f).stage = d.stage := rfl
@[simp] theorem Dev.updFn_failCause (n : Nat) (f : HostFn → HostFn) : (d.updFn n f).failCause = d.failCause := rfl
@[simp] theorem Dev.updFn_deviceId (n : Nat) (f : HostFn → HostFn) : (d.updFn n f).deviceId = d.deviceId := rfl
@[simp] theorem Dev.updFn_deviceFatal (n : Nat) (f : HostFn → HostFn) : (d.updFn n f).deviceFatal = d.deviceFatal := rfl
@[simp] theorem Dev.updFn_halted (n : Nat) (f : HostFn → HostFn) : (d.updFn n f).halted = d.halted := rfl
@[simp] theorem Dev.updFn_faultN (n : Nat) (f : HostFn → HostFn) : (d.updFn n f).faultN = d.faultN := rfl
@[simp] theorem Dev.updFn_enabledGroups (n : Nat) (f : HostFn → HostFn) : (d.updFn n f).enabledGroups = d.enabledGroups := rfl
@[simp] theorem Dev.updFn_clockCfg (n : Nat) (f : HostFn → HostFn) : (d.updFn n f).clockCfg = d.clockCfg := rfl
@[simp] theorem Dev.updFn_clockTotals (n : Nat) (f : HostFn → HostFn) : (d.updFn n f).clockTotals = d.clockTotals := rfl
@[simp] theorem Dev.updFn_tileTotals (n : Nat) (f : HostFn → HostFn) : (d.updFn n f).tileTotals = d.tileTotals := rfl
@[simp] theorem Dev.updFn_opTotals (n : Nat) (f : HostFn → HostFn) : (d.updFn n f).opTotals = d.opTotals := rfl
@[simp] theorem Dev.updFn_select (n : Nat) (f : HostFn → HostFn) : (d.updFn n f).select = d.select := rfl
@[simp] theorem Dev.updFn_log (n : Nat) (f : HostFn → HostFn) : (d.updFn n f).log = d.log := rfl
@[simp] theorem Dev.updFn_dump (n : Nat) (f : HostFn → HostFn) : (d.updFn n f).dump = d.dump := rfl
@[simp] theorem Dev.updFn_gasp (n : Nat) (f : HostFn → HostFn) : (d.updFn n f).gasp = d.gasp := rfl
@[simp] theorem Dev.updFn_tiles (n : Nat) (f : HostFn → HostFn) : (d.updFn n f).tiles = d.tiles := rfl
@[simp] theorem Dev.updFn_crossings (n : Nat) (f : HostFn → HostFn) : (d.updFn n f).crossings = d.crossings := rfl
@[simp] theorem Dev.updFn_parts (n : Nat) (f : HostFn → HostFn) : (d.updFn n f).parts = d.parts := rfl
@[simp] theorem Dev.updFn_mem (n : Nat) (f : HostFn → HostFn) : (d.updFn n f).mem = d.mem := rfl
@[simp] theorem Dev.updFn_lost (n : Nat) (f : HostFn → HostFn) : (d.updFn n f).lost = d.lost := rfl
@[simp] theorem Dev.updFn_faults (n : Nat) (f : HostFn → HostFn) : (d.updFn n f).faults = d.faults := rfl
@[simp] theorem Dev.updFn_channels (n : Nat) (f : HostFn → HostFn) : (d.updFn n f).channels = d.channels := rfl
@[simp] theorem Dev.updFn_cp (n : Nat) (f : HostFn → HostFn) : (d.updFn n f).cp = d.cp := rfl
@[simp] theorem Dev.updFn_plannedLandings (n : Nat) (f : HostFn → HostFn) : (d.updFn n f).plannedLandings = d.plannedLandings := rfl
@[simp] theorem Dev.updFn_scrubs (n : Nat) (f : HostFn → HostFn) : (d.updFn n f).scrubs = d.scrubs := rfl
@[simp] theorem Dev.updFn_accessSeq (n : Nat) (f : HostFn → HostFn) : (d.updFn n f).accessSeq = d.accessSeq := rfl
@[simp] theorem Dev.updFn_memTotals (n : Nat) (f : HostFn → HostFn) : (d.updFn n f).memTotals = d.memTotals := rfl
@[simp] theorem Dev.updFn_integrity (n : Nat) (f : HostFn → HostFn) : (d.updFn n f).integrity = d.integrity := rfl
@[simp] theorem Dev.updFn_links (n : Nat) (f : HostFn → HostFn) : (d.updFn n f).links = d.links := rfl
@[simp] theorem Dev.updFn_router (n : Nat) (f : HostFn → HostFn) : (d.updFn n f).router = d.router := rfl
@[simp] theorem Dev.updFn_noticesIn (n : Nat) (f : HostFn → HostFn) : (d.updFn n f).noticesIn = d.noticesIn := rfl
@[simp] theorem Dev.updFn_sync (n : Nat) (f : HostFn → HostFn) : (d.updFn n f).sync = d.sync := rfl
@[simp] theorem Dev.updFn_commands (n : Nat) (f : HostFn → HostFn) : (d.updFn n f).commands = d.commands := rfl
@[simp] theorem Dev.updFn_hostTotals (n : Nat) (f : HostFn → HostFn) : (d.updFn n f).hostTotals = d.hostTotals := rfl
@[simp] theorem Dev.updFn_pcie (n : Nat) (f : HostFn → HostFn) : (d.updFn n f).pcie = d.pcie := rfl
@[simp] theorem Dev.updFn_hostMem (n : Nat) (f : HostFn → HostFn) : (d.updFn n f).hostMem = d.hostMem := rfl
@[simp] theorem Dev.updFn_weightTotals (n : Nat) (f : HostFn → HostFn) : (d.updFn n f).weightTotals = d.weightTotals := rfl
@[simp] theorem Dev.updFn_serveTotals (n : Nat) (f : HostFn → HostFn) : (d.updFn n f).serveTotals = d.serveTotals := rfl
@[simp] theorem Dev.updFn_power (n : Nat) (f : HostFn → HostFn) : (d.updFn n f).power = d.power := rfl
@[simp] theorem Dev.updFn_fuses (n : Nat) (f : HostFn → HostFn) : (d.updFn n f).fuses = d.fuses := rfl
@[simp] theorem Dev.updFn_mgmt (n : Nat) (f : HostFn → HostFn) : (d.updFn n f).mgmt = d.mgmt := rfl
@[simp] theorem Dev.updFn_boot (n : Nat) (f : HostFn → HostFn) : (d.updFn n f).boot = d.boot := rfl
@[simp] theorem Dev.updFn_capGib (n : Nat) (f : HostFn → HostFn) : (d.updFn n f).capGib = d.capGib := rfl
@[simp] theorem Dev.updFn_fusing (n : Nat) (f : HostFn → HostFn) : (d.updFn n f).fusing = d.fusing := rfl
@[simp] theorem Dev.updFn_grade (n : Nat) (f : HostFn → HostFn) : (d.updFn n f).grade = d.grade := rfl
@[simp] theorem Dev.updFn_fwVersion (n : Nat) (f : HostFn → HostFn) : (d.updFn n f).fwVersion = d.fwVersion := rfl
@[simp] theorem Dev.updFn_fwRunning (n : Nat) (f : HostFn → HostFn) : (d.updFn n f).fwRunning = d.fwRunning := rfl
@[simp] theorem Dev.updFn_free (n : Nat) (f : HostFn → HostFn) : (d.updFn n f).free = d.free := rfl
@[simp] theorem Dev.updFn_readData (n : Nat) (f : HostFn → HostFn) : (d.updFn n f).readData = d.readData := rfl
@[simp] theorem Dev.updFn_tile_at (n : Nat) (f : HostFn → HostFn) (i : Nat) : (d.updFn n f).tile i = d.tile i := rfl
@[simp] theorem Dev.updFn_part_at (n : Nat) (f : HostFn → HostFn) (i : Nat) : (d.updFn n f).part i = d.part i := rfl
@[simp] theorem Dev.updFn_channel_at (n : Nat) (f : HostFn → HostFn) (i : Nat) : (d.updFn n f).channel i = d.channel i := rfl
@[simp] theorem Dev.updFn_link_at (n : Nat) (f : HostFn → HostFn) (i : Nat) : (d.updFn n f).link i = d.link i := rfl

/-! What `updBase` leaves. -/

@[simp] theorem Dev.updBase_stage (f : Timebase → Timebase) : (d.updBase f).stage = d.stage := rfl
@[simp] theorem Dev.updBase_failCause (f : Timebase → Timebase) : (d.updBase f).failCause = d.failCause := rfl
@[simp] theorem Dev.updBase_deviceId (f : Timebase → Timebase) : (d.updBase f).deviceId = d.deviceId := rfl
@[simp] theorem Dev.updBase_deviceFatal (f : Timebase → Timebase) : (d.updBase f).deviceFatal = d.deviceFatal := rfl
@[simp] theorem Dev.updBase_halted (f : Timebase → Timebase) : (d.updBase f).halted = d.halted := rfl
@[simp] theorem Dev.updBase_faultN (f : Timebase → Timebase) : (d.updBase f).faultN = d.faultN := rfl
@[simp] theorem Dev.updBase_enabledGroups (f : Timebase → Timebase) : (d.updBase f).enabledGroups = d.enabledGroups := rfl
@[simp] theorem Dev.updBase_clockCfg (f : Timebase → Timebase) : (d.updBase f).clockCfg = d.clockCfg := rfl
@[simp] theorem Dev.updBase_clockTotals (f : Timebase → Timebase) : (d.updBase f).clockTotals = d.clockTotals := rfl
@[simp] theorem Dev.updBase_tileTotals (f : Timebase → Timebase) : (d.updBase f).tileTotals = d.tileTotals := rfl
@[simp] theorem Dev.updBase_opTotals (f : Timebase → Timebase) : (d.updBase f).opTotals = d.opTotals := rfl
@[simp] theorem Dev.updBase_select (f : Timebase → Timebase) : (d.updBase f).select = d.select := rfl
@[simp] theorem Dev.updBase_log (f : Timebase → Timebase) : (d.updBase f).log = d.log := rfl
@[simp] theorem Dev.updBase_dump (f : Timebase → Timebase) : (d.updBase f).dump = d.dump := rfl
@[simp] theorem Dev.updBase_gasp (f : Timebase → Timebase) : (d.updBase f).gasp = d.gasp := rfl
@[simp] theorem Dev.updBase_tiles (f : Timebase → Timebase) : (d.updBase f).tiles = d.tiles := rfl
@[simp] theorem Dev.updBase_crossings (f : Timebase → Timebase) : (d.updBase f).crossings = d.crossings := rfl
@[simp] theorem Dev.updBase_parts (f : Timebase → Timebase) : (d.updBase f).parts = d.parts := rfl
@[simp] theorem Dev.updBase_mem (f : Timebase → Timebase) : (d.updBase f).mem = d.mem := rfl
@[simp] theorem Dev.updBase_lost (f : Timebase → Timebase) : (d.updBase f).lost = d.lost := rfl
@[simp] theorem Dev.updBase_faults (f : Timebase → Timebase) : (d.updBase f).faults = d.faults := rfl
@[simp] theorem Dev.updBase_channels (f : Timebase → Timebase) : (d.updBase f).channels = d.channels := rfl
@[simp] theorem Dev.updBase_cp (f : Timebase → Timebase) : (d.updBase f).cp = d.cp := rfl
@[simp] theorem Dev.updBase_plannedLandings (f : Timebase → Timebase) : (d.updBase f).plannedLandings = d.plannedLandings := rfl
@[simp] theorem Dev.updBase_scrubs (f : Timebase → Timebase) : (d.updBase f).scrubs = d.scrubs := rfl
@[simp] theorem Dev.updBase_accessSeq (f : Timebase → Timebase) : (d.updBase f).accessSeq = d.accessSeq := rfl
@[simp] theorem Dev.updBase_memTotals (f : Timebase → Timebase) : (d.updBase f).memTotals = d.memTotals := rfl
@[simp] theorem Dev.updBase_integrity (f : Timebase → Timebase) : (d.updBase f).integrity = d.integrity := rfl
@[simp] theorem Dev.updBase_links (f : Timebase → Timebase) : (d.updBase f).links = d.links := rfl
@[simp] theorem Dev.updBase_router (f : Timebase → Timebase) : (d.updBase f).router = d.router := rfl
@[simp] theorem Dev.updBase_noticesIn (f : Timebase → Timebase) : (d.updBase f).noticesIn = d.noticesIn := rfl
@[simp] theorem Dev.updBase_sync (f : Timebase → Timebase) : (d.updBase f).sync = d.sync := rfl
@[simp] theorem Dev.updBase_fns (f : Timebase → Timebase) : (d.updBase f).fns = d.fns := rfl
@[simp] theorem Dev.updBase_commands (f : Timebase → Timebase) : (d.updBase f).commands = d.commands := rfl
@[simp] theorem Dev.updBase_hostTotals (f : Timebase → Timebase) : (d.updBase f).hostTotals = d.hostTotals := rfl
@[simp] theorem Dev.updBase_pcie (f : Timebase → Timebase) : (d.updBase f).pcie = d.pcie := rfl
@[simp] theorem Dev.updBase_hostMem (f : Timebase → Timebase) : (d.updBase f).hostMem = d.hostMem := rfl
@[simp] theorem Dev.updBase_weightTotals (f : Timebase → Timebase) : (d.updBase f).weightTotals = d.weightTotals := rfl
@[simp] theorem Dev.updBase_serveTotals (f : Timebase → Timebase) : (d.updBase f).serveTotals = d.serveTotals := rfl
@[simp] theorem Dev.updBase_power (f : Timebase → Timebase) : (d.updBase f).power = d.power := rfl
@[simp] theorem Dev.updBase_fuses (f : Timebase → Timebase) : (d.updBase f).fuses = d.fuses := rfl
@[simp] theorem Dev.updBase_mgmt (f : Timebase → Timebase) : (d.updBase f).mgmt = d.mgmt := rfl
@[simp] theorem Dev.updBase_boot (f : Timebase → Timebase) : (d.updBase f).boot = d.boot := rfl
@[simp] theorem Dev.updBase_capGib (f : Timebase → Timebase) : (d.updBase f).capGib = d.capGib := rfl
@[simp] theorem Dev.updBase_fusing (f : Timebase → Timebase) : (d.updBase f).fusing = d.fusing := rfl
@[simp] theorem Dev.updBase_grade (f : Timebase → Timebase) : (d.updBase f).grade = d.grade := rfl
@[simp] theorem Dev.updBase_fwVersion (f : Timebase → Timebase) : (d.updBase f).fwVersion = d.fwVersion := rfl
@[simp] theorem Dev.updBase_fwRunning (f : Timebase → Timebase) : (d.updBase f).fwRunning = d.fwRunning := rfl
@[simp] theorem Dev.updBase_free (f : Timebase → Timebase) : (d.updBase f).free = d.free := rfl
@[simp] theorem Dev.updBase_readData (f : Timebase → Timebase) : (d.updBase f).readData = d.readData := rfl
@[simp] theorem Dev.updBase_tile_at (f : Timebase → Timebase) (i : Nat) : (d.updBase f).tile i = d.tile i := rfl
@[simp] theorem Dev.updBase_part_at (f : Timebase → Timebase) (i : Nat) : (d.updBase f).part i = d.part i := rfl
@[simp] theorem Dev.updBase_channel_at (f : Timebase → Timebase) (i : Nat) : (d.updBase f).channel i = d.channel i := rfl
@[simp] theorem Dev.updBase_link_at (f : Timebase → Timebase) (i : Nat) : (d.updBase f).link i = d.link i := rfl
@[simp] theorem Dev.updBase_fn_at (f : Timebase → Timebase) (i : Nat) : (d.updBase f).fn i = d.fn i := rfl

/-! What `updRouter` leaves. -/

@[simp] theorem Dev.updRouter_time (f : Router → Router) : (d.updRouter f).time = d.time := rfl
@[simp] theorem Dev.updRouter_stage (f : Router → Router) : (d.updRouter f).stage = d.stage := rfl
@[simp] theorem Dev.updRouter_failCause (f : Router → Router) : (d.updRouter f).failCause = d.failCause := rfl
@[simp] theorem Dev.updRouter_deviceId (f : Router → Router) : (d.updRouter f).deviceId = d.deviceId := rfl
@[simp] theorem Dev.updRouter_deviceFatal (f : Router → Router) : (d.updRouter f).deviceFatal = d.deviceFatal := rfl
@[simp] theorem Dev.updRouter_halted (f : Router → Router) : (d.updRouter f).halted = d.halted := rfl
@[simp] theorem Dev.updRouter_faultN (f : Router → Router) : (d.updRouter f).faultN = d.faultN := rfl
@[simp] theorem Dev.updRouter_enabledGroups (f : Router → Router) : (d.updRouter f).enabledGroups = d.enabledGroups := rfl
@[simp] theorem Dev.updRouter_clockCfg (f : Router → Router) : (d.updRouter f).clockCfg = d.clockCfg := rfl
@[simp] theorem Dev.updRouter_clockTotals (f : Router → Router) : (d.updRouter f).clockTotals = d.clockTotals := rfl
@[simp] theorem Dev.updRouter_tileTotals (f : Router → Router) : (d.updRouter f).tileTotals = d.tileTotals := rfl
@[simp] theorem Dev.updRouter_opTotals (f : Router → Router) : (d.updRouter f).opTotals = d.opTotals := rfl
@[simp] theorem Dev.updRouter_select (f : Router → Router) : (d.updRouter f).select = d.select := rfl
@[simp] theorem Dev.updRouter_log (f : Router → Router) : (d.updRouter f).log = d.log := rfl
@[simp] theorem Dev.updRouter_dump (f : Router → Router) : (d.updRouter f).dump = d.dump := rfl
@[simp] theorem Dev.updRouter_gasp (f : Router → Router) : (d.updRouter f).gasp = d.gasp := rfl
@[simp] theorem Dev.updRouter_tiles (f : Router → Router) : (d.updRouter f).tiles = d.tiles := rfl
@[simp] theorem Dev.updRouter_crossings (f : Router → Router) : (d.updRouter f).crossings = d.crossings := rfl
@[simp] theorem Dev.updRouter_parts (f : Router → Router) : (d.updRouter f).parts = d.parts := rfl
@[simp] theorem Dev.updRouter_mem (f : Router → Router) : (d.updRouter f).mem = d.mem := rfl
@[simp] theorem Dev.updRouter_lost (f : Router → Router) : (d.updRouter f).lost = d.lost := rfl
@[simp] theorem Dev.updRouter_faults (f : Router → Router) : (d.updRouter f).faults = d.faults := rfl
@[simp] theorem Dev.updRouter_channels (f : Router → Router) : (d.updRouter f).channels = d.channels := rfl
@[simp] theorem Dev.updRouter_cp (f : Router → Router) : (d.updRouter f).cp = d.cp := rfl
@[simp] theorem Dev.updRouter_plannedLandings (f : Router → Router) : (d.updRouter f).plannedLandings = d.plannedLandings := rfl
@[simp] theorem Dev.updRouter_scrubs (f : Router → Router) : (d.updRouter f).scrubs = d.scrubs := rfl
@[simp] theorem Dev.updRouter_accessSeq (f : Router → Router) : (d.updRouter f).accessSeq = d.accessSeq := rfl
@[simp] theorem Dev.updRouter_memTotals (f : Router → Router) : (d.updRouter f).memTotals = d.memTotals := rfl
@[simp] theorem Dev.updRouter_integrity (f : Router → Router) : (d.updRouter f).integrity = d.integrity := rfl
@[simp] theorem Dev.updRouter_links (f : Router → Router) : (d.updRouter f).links = d.links := rfl
@[simp] theorem Dev.updRouter_noticesIn (f : Router → Router) : (d.updRouter f).noticesIn = d.noticesIn := rfl
@[simp] theorem Dev.updRouter_sync (f : Router → Router) : (d.updRouter f).sync = d.sync := rfl
@[simp] theorem Dev.updRouter_fns (f : Router → Router) : (d.updRouter f).fns = d.fns := rfl
@[simp] theorem Dev.updRouter_commands (f : Router → Router) : (d.updRouter f).commands = d.commands := rfl
@[simp] theorem Dev.updRouter_hostTotals (f : Router → Router) : (d.updRouter f).hostTotals = d.hostTotals := rfl
@[simp] theorem Dev.updRouter_pcie (f : Router → Router) : (d.updRouter f).pcie = d.pcie := rfl
@[simp] theorem Dev.updRouter_hostMem (f : Router → Router) : (d.updRouter f).hostMem = d.hostMem := rfl
@[simp] theorem Dev.updRouter_weightTotals (f : Router → Router) : (d.updRouter f).weightTotals = d.weightTotals := rfl
@[simp] theorem Dev.updRouter_serveTotals (f : Router → Router) : (d.updRouter f).serveTotals = d.serveTotals := rfl
@[simp] theorem Dev.updRouter_power (f : Router → Router) : (d.updRouter f).power = d.power := rfl
@[simp] theorem Dev.updRouter_fuses (f : Router → Router) : (d.updRouter f).fuses = d.fuses := rfl
@[simp] theorem Dev.updRouter_mgmt (f : Router → Router) : (d.updRouter f).mgmt = d.mgmt := rfl
@[simp] theorem Dev.updRouter_boot (f : Router → Router) : (d.updRouter f).boot = d.boot := rfl
@[simp] theorem Dev.updRouter_capGib (f : Router → Router) : (d.updRouter f).capGib = d.capGib := rfl
@[simp] theorem Dev.updRouter_fusing (f : Router → Router) : (d.updRouter f).fusing = d.fusing := rfl
@[simp] theorem Dev.updRouter_grade (f : Router → Router) : (d.updRouter f).grade = d.grade := rfl
@[simp] theorem Dev.updRouter_fwVersion (f : Router → Router) : (d.updRouter f).fwVersion = d.fwVersion := rfl
@[simp] theorem Dev.updRouter_fwRunning (f : Router → Router) : (d.updRouter f).fwRunning = d.fwRunning := rfl
@[simp] theorem Dev.updRouter_free (f : Router → Router) : (d.updRouter f).free = d.free := rfl
@[simp] theorem Dev.updRouter_readData (f : Router → Router) : (d.updRouter f).readData = d.readData := rfl
@[simp] theorem Dev.updRouter_tile_at (f : Router → Router) (i : Nat) : (d.updRouter f).tile i = d.tile i := rfl
@[simp] theorem Dev.updRouter_part_at (f : Router → Router) (i : Nat) : (d.updRouter f).part i = d.part i := rfl
@[simp] theorem Dev.updRouter_channel_at (f : Router → Router) (i : Nat) : (d.updRouter f).channel i = d.channel i := rfl
@[simp] theorem Dev.updRouter_link_at (f : Router → Router) (i : Nat) : (d.updRouter f).link i = d.link i := rfl
@[simp] theorem Dev.updRouter_fn_at (f : Router → Router) (i : Nat) : (d.updRouter f).fn i = d.fn i := rfl

/-! What `updSync` leaves. -/

@[simp] theorem Dev.updSync_time (f : SyncTotals → SyncTotals) : (d.updSync f).time = d.time := rfl
@[simp] theorem Dev.updSync_stage (f : SyncTotals → SyncTotals) : (d.updSync f).stage = d.stage := rfl
@[simp] theorem Dev.updSync_failCause (f : SyncTotals → SyncTotals) : (d.updSync f).failCause = d.failCause := rfl
@[simp] theorem Dev.updSync_deviceId (f : SyncTotals → SyncTotals) : (d.updSync f).deviceId = d.deviceId := rfl
@[simp] theorem Dev.updSync_deviceFatal (f : SyncTotals → SyncTotals) : (d.updSync f).deviceFatal = d.deviceFatal := rfl
@[simp] theorem Dev.updSync_halted (f : SyncTotals → SyncTotals) : (d.updSync f).halted = d.halted := rfl
@[simp] theorem Dev.updSync_faultN (f : SyncTotals → SyncTotals) : (d.updSync f).faultN = d.faultN := rfl
@[simp] theorem Dev.updSync_enabledGroups (f : SyncTotals → SyncTotals) : (d.updSync f).enabledGroups = d.enabledGroups := rfl
@[simp] theorem Dev.updSync_clockCfg (f : SyncTotals → SyncTotals) : (d.updSync f).clockCfg = d.clockCfg := rfl
@[simp] theorem Dev.updSync_clockTotals (f : SyncTotals → SyncTotals) : (d.updSync f).clockTotals = d.clockTotals := rfl
@[simp] theorem Dev.updSync_tileTotals (f : SyncTotals → SyncTotals) : (d.updSync f).tileTotals = d.tileTotals := rfl
@[simp] theorem Dev.updSync_opTotals (f : SyncTotals → SyncTotals) : (d.updSync f).opTotals = d.opTotals := rfl
@[simp] theorem Dev.updSync_select (f : SyncTotals → SyncTotals) : (d.updSync f).select = d.select := rfl
@[simp] theorem Dev.updSync_log (f : SyncTotals → SyncTotals) : (d.updSync f).log = d.log := rfl
@[simp] theorem Dev.updSync_dump (f : SyncTotals → SyncTotals) : (d.updSync f).dump = d.dump := rfl
@[simp] theorem Dev.updSync_gasp (f : SyncTotals → SyncTotals) : (d.updSync f).gasp = d.gasp := rfl
@[simp] theorem Dev.updSync_tiles (f : SyncTotals → SyncTotals) : (d.updSync f).tiles = d.tiles := rfl
@[simp] theorem Dev.updSync_crossings (f : SyncTotals → SyncTotals) : (d.updSync f).crossings = d.crossings := rfl
@[simp] theorem Dev.updSync_parts (f : SyncTotals → SyncTotals) : (d.updSync f).parts = d.parts := rfl
@[simp] theorem Dev.updSync_mem (f : SyncTotals → SyncTotals) : (d.updSync f).mem = d.mem := rfl
@[simp] theorem Dev.updSync_lost (f : SyncTotals → SyncTotals) : (d.updSync f).lost = d.lost := rfl
@[simp] theorem Dev.updSync_faults (f : SyncTotals → SyncTotals) : (d.updSync f).faults = d.faults := rfl
@[simp] theorem Dev.updSync_channels (f : SyncTotals → SyncTotals) : (d.updSync f).channels = d.channels := rfl
@[simp] theorem Dev.updSync_cp (f : SyncTotals → SyncTotals) : (d.updSync f).cp = d.cp := rfl
@[simp] theorem Dev.updSync_plannedLandings (f : SyncTotals → SyncTotals) : (d.updSync f).plannedLandings = d.plannedLandings := rfl
@[simp] theorem Dev.updSync_scrubs (f : SyncTotals → SyncTotals) : (d.updSync f).scrubs = d.scrubs := rfl
@[simp] theorem Dev.updSync_accessSeq (f : SyncTotals → SyncTotals) : (d.updSync f).accessSeq = d.accessSeq := rfl
@[simp] theorem Dev.updSync_memTotals (f : SyncTotals → SyncTotals) : (d.updSync f).memTotals = d.memTotals := rfl
@[simp] theorem Dev.updSync_integrity (f : SyncTotals → SyncTotals) : (d.updSync f).integrity = d.integrity := rfl
@[simp] theorem Dev.updSync_links (f : SyncTotals → SyncTotals) : (d.updSync f).links = d.links := rfl
@[simp] theorem Dev.updSync_router (f : SyncTotals → SyncTotals) : (d.updSync f).router = d.router := rfl
@[simp] theorem Dev.updSync_noticesIn (f : SyncTotals → SyncTotals) : (d.updSync f).noticesIn = d.noticesIn := rfl
@[simp] theorem Dev.updSync_fns (f : SyncTotals → SyncTotals) : (d.updSync f).fns = d.fns := rfl
@[simp] theorem Dev.updSync_commands (f : SyncTotals → SyncTotals) : (d.updSync f).commands = d.commands := rfl
@[simp] theorem Dev.updSync_hostTotals (f : SyncTotals → SyncTotals) : (d.updSync f).hostTotals = d.hostTotals := rfl
@[simp] theorem Dev.updSync_pcie (f : SyncTotals → SyncTotals) : (d.updSync f).pcie = d.pcie := rfl
@[simp] theorem Dev.updSync_hostMem (f : SyncTotals → SyncTotals) : (d.updSync f).hostMem = d.hostMem := rfl
@[simp] theorem Dev.updSync_weightTotals (f : SyncTotals → SyncTotals) : (d.updSync f).weightTotals = d.weightTotals := rfl
@[simp] theorem Dev.updSync_serveTotals (f : SyncTotals → SyncTotals) : (d.updSync f).serveTotals = d.serveTotals := rfl
@[simp] theorem Dev.updSync_power (f : SyncTotals → SyncTotals) : (d.updSync f).power = d.power := rfl
@[simp] theorem Dev.updSync_fuses (f : SyncTotals → SyncTotals) : (d.updSync f).fuses = d.fuses := rfl
@[simp] theorem Dev.updSync_mgmt (f : SyncTotals → SyncTotals) : (d.updSync f).mgmt = d.mgmt := rfl
@[simp] theorem Dev.updSync_boot (f : SyncTotals → SyncTotals) : (d.updSync f).boot = d.boot := rfl
@[simp] theorem Dev.updSync_capGib (f : SyncTotals → SyncTotals) : (d.updSync f).capGib = d.capGib := rfl
@[simp] theorem Dev.updSync_fusing (f : SyncTotals → SyncTotals) : (d.updSync f).fusing = d.fusing := rfl
@[simp] theorem Dev.updSync_grade (f : SyncTotals → SyncTotals) : (d.updSync f).grade = d.grade := rfl
@[simp] theorem Dev.updSync_fwVersion (f : SyncTotals → SyncTotals) : (d.updSync f).fwVersion = d.fwVersion := rfl
@[simp] theorem Dev.updSync_fwRunning (f : SyncTotals → SyncTotals) : (d.updSync f).fwRunning = d.fwRunning := rfl
@[simp] theorem Dev.updSync_free (f : SyncTotals → SyncTotals) : (d.updSync f).free = d.free := rfl
@[simp] theorem Dev.updSync_readData (f : SyncTotals → SyncTotals) : (d.updSync f).readData = d.readData := rfl
@[simp] theorem Dev.updSync_tile_at (f : SyncTotals → SyncTotals) (i : Nat) : (d.updSync f).tile i = d.tile i := rfl
@[simp] theorem Dev.updSync_part_at (f : SyncTotals → SyncTotals) (i : Nat) : (d.updSync f).part i = d.part i := rfl
@[simp] theorem Dev.updSync_channel_at (f : SyncTotals → SyncTotals) (i : Nat) : (d.updSync f).channel i = d.channel i := rfl
@[simp] theorem Dev.updSync_link_at (f : SyncTotals → SyncTotals) (i : Nat) : (d.updSync f).link i = d.link i := rfl
@[simp] theorem Dev.updSync_fn_at (f : SyncTotals → SyncTotals) (i : Nat) : (d.updSync f).fn i = d.fn i := rfl

/-! What `updIn` leaves. -/

@[simp] theorem Dev.updIn_time (f : Integrity → Integrity) : (d.updIn f).time = d.time := rfl
@[simp] theorem Dev.updIn_stage (f : Integrity → Integrity) : (d.updIn f).stage = d.stage := rfl
@[simp] theorem Dev.updIn_failCause (f : Integrity → Integrity) : (d.updIn f).failCause = d.failCause := rfl
@[simp] theorem Dev.updIn_deviceId (f : Integrity → Integrity) : (d.updIn f).deviceId = d.deviceId := rfl
@[simp] theorem Dev.updIn_deviceFatal (f : Integrity → Integrity) : (d.updIn f).deviceFatal = d.deviceFatal := rfl
@[simp] theorem Dev.updIn_halted (f : Integrity → Integrity) : (d.updIn f).halted = d.halted := rfl
@[simp] theorem Dev.updIn_faultN (f : Integrity → Integrity) : (d.updIn f).faultN = d.faultN := rfl
@[simp] theorem Dev.updIn_enabledGroups (f : Integrity → Integrity) : (d.updIn f).enabledGroups = d.enabledGroups := rfl
@[simp] theorem Dev.updIn_clockCfg (f : Integrity → Integrity) : (d.updIn f).clockCfg = d.clockCfg := rfl
@[simp] theorem Dev.updIn_clockTotals (f : Integrity → Integrity) : (d.updIn f).clockTotals = d.clockTotals := rfl
@[simp] theorem Dev.updIn_tileTotals (f : Integrity → Integrity) : (d.updIn f).tileTotals = d.tileTotals := rfl
@[simp] theorem Dev.updIn_opTotals (f : Integrity → Integrity) : (d.updIn f).opTotals = d.opTotals := rfl
@[simp] theorem Dev.updIn_select (f : Integrity → Integrity) : (d.updIn f).select = d.select := rfl
@[simp] theorem Dev.updIn_log (f : Integrity → Integrity) : (d.updIn f).log = d.log := rfl
@[simp] theorem Dev.updIn_dump (f : Integrity → Integrity) : (d.updIn f).dump = d.dump := rfl
@[simp] theorem Dev.updIn_gasp (f : Integrity → Integrity) : (d.updIn f).gasp = d.gasp := rfl
@[simp] theorem Dev.updIn_tiles (f : Integrity → Integrity) : (d.updIn f).tiles = d.tiles := rfl
@[simp] theorem Dev.updIn_crossings (f : Integrity → Integrity) : (d.updIn f).crossings = d.crossings := rfl
@[simp] theorem Dev.updIn_parts (f : Integrity → Integrity) : (d.updIn f).parts = d.parts := rfl
@[simp] theorem Dev.updIn_mem (f : Integrity → Integrity) : (d.updIn f).mem = d.mem := rfl
@[simp] theorem Dev.updIn_lost (f : Integrity → Integrity) : (d.updIn f).lost = d.lost := rfl
@[simp] theorem Dev.updIn_faults (f : Integrity → Integrity) : (d.updIn f).faults = d.faults := rfl
@[simp] theorem Dev.updIn_channels (f : Integrity → Integrity) : (d.updIn f).channels = d.channels := rfl
@[simp] theorem Dev.updIn_cp (f : Integrity → Integrity) : (d.updIn f).cp = d.cp := rfl
@[simp] theorem Dev.updIn_plannedLandings (f : Integrity → Integrity) : (d.updIn f).plannedLandings = d.plannedLandings := rfl
@[simp] theorem Dev.updIn_scrubs (f : Integrity → Integrity) : (d.updIn f).scrubs = d.scrubs := rfl
@[simp] theorem Dev.updIn_accessSeq (f : Integrity → Integrity) : (d.updIn f).accessSeq = d.accessSeq := rfl
@[simp] theorem Dev.updIn_memTotals (f : Integrity → Integrity) : (d.updIn f).memTotals = d.memTotals := rfl
@[simp] theorem Dev.updIn_links (f : Integrity → Integrity) : (d.updIn f).links = d.links := rfl
@[simp] theorem Dev.updIn_router (f : Integrity → Integrity) : (d.updIn f).router = d.router := rfl
@[simp] theorem Dev.updIn_noticesIn (f : Integrity → Integrity) : (d.updIn f).noticesIn = d.noticesIn := rfl
@[simp] theorem Dev.updIn_sync (f : Integrity → Integrity) : (d.updIn f).sync = d.sync := rfl
@[simp] theorem Dev.updIn_fns (f : Integrity → Integrity) : (d.updIn f).fns = d.fns := rfl
@[simp] theorem Dev.updIn_commands (f : Integrity → Integrity) : (d.updIn f).commands = d.commands := rfl
@[simp] theorem Dev.updIn_hostTotals (f : Integrity → Integrity) : (d.updIn f).hostTotals = d.hostTotals := rfl
@[simp] theorem Dev.updIn_pcie (f : Integrity → Integrity) : (d.updIn f).pcie = d.pcie := rfl
@[simp] theorem Dev.updIn_hostMem (f : Integrity → Integrity) : (d.updIn f).hostMem = d.hostMem := rfl
@[simp] theorem Dev.updIn_weightTotals (f : Integrity → Integrity) : (d.updIn f).weightTotals = d.weightTotals := rfl
@[simp] theorem Dev.updIn_serveTotals (f : Integrity → Integrity) : (d.updIn f).serveTotals = d.serveTotals := rfl
@[simp] theorem Dev.updIn_power (f : Integrity → Integrity) : (d.updIn f).power = d.power := rfl
@[simp] theorem Dev.updIn_fuses (f : Integrity → Integrity) : (d.updIn f).fuses = d.fuses := rfl
@[simp] theorem Dev.updIn_mgmt (f : Integrity → Integrity) : (d.updIn f).mgmt = d.mgmt := rfl
@[simp] theorem Dev.updIn_boot (f : Integrity → Integrity) : (d.updIn f).boot = d.boot := rfl
@[simp] theorem Dev.updIn_capGib (f : Integrity → Integrity) : (d.updIn f).capGib = d.capGib := rfl
@[simp] theorem Dev.updIn_fusing (f : Integrity → Integrity) : (d.updIn f).fusing = d.fusing := rfl
@[simp] theorem Dev.updIn_grade (f : Integrity → Integrity) : (d.updIn f).grade = d.grade := rfl
@[simp] theorem Dev.updIn_fwVersion (f : Integrity → Integrity) : (d.updIn f).fwVersion = d.fwVersion := rfl
@[simp] theorem Dev.updIn_fwRunning (f : Integrity → Integrity) : (d.updIn f).fwRunning = d.fwRunning := rfl
@[simp] theorem Dev.updIn_free (f : Integrity → Integrity) : (d.updIn f).free = d.free := rfl
@[simp] theorem Dev.updIn_readData (f : Integrity → Integrity) : (d.updIn f).readData = d.readData := rfl
@[simp] theorem Dev.updIn_tile_at (f : Integrity → Integrity) (i : Nat) : (d.updIn f).tile i = d.tile i := rfl
@[simp] theorem Dev.updIn_part_at (f : Integrity → Integrity) (i : Nat) : (d.updIn f).part i = d.part i := rfl
@[simp] theorem Dev.updIn_channel_at (f : Integrity → Integrity) (i : Nat) : (d.updIn f).channel i = d.channel i := rfl
@[simp] theorem Dev.updIn_link_at (f : Integrity → Integrity) (i : Nat) : (d.updIn f).link i = d.link i := rfl
@[simp] theorem Dev.updIn_fn_at (f : Integrity → Integrity) (i : Nat) : (d.updIn f).fn i = d.fn i := rfl

/-! What `updOps` leaves. -/

@[simp] theorem Dev.updOps_time (f : OpTotals → OpTotals) : (d.updOps f).time = d.time := rfl
@[simp] theorem Dev.updOps_stage (f : OpTotals → OpTotals) : (d.updOps f).stage = d.stage := rfl
@[simp] theorem Dev.updOps_failCause (f : OpTotals → OpTotals) : (d.updOps f).failCause = d.failCause := rfl
@[simp] theorem Dev.updOps_deviceId (f : OpTotals → OpTotals) : (d.updOps f).deviceId = d.deviceId := rfl
@[simp] theorem Dev.updOps_deviceFatal (f : OpTotals → OpTotals) : (d.updOps f).deviceFatal = d.deviceFatal := rfl
@[simp] theorem Dev.updOps_halted (f : OpTotals → OpTotals) : (d.updOps f).halted = d.halted := rfl
@[simp] theorem Dev.updOps_faultN (f : OpTotals → OpTotals) : (d.updOps f).faultN = d.faultN := rfl
@[simp] theorem Dev.updOps_enabledGroups (f : OpTotals → OpTotals) : (d.updOps f).enabledGroups = d.enabledGroups := rfl
@[simp] theorem Dev.updOps_clockCfg (f : OpTotals → OpTotals) : (d.updOps f).clockCfg = d.clockCfg := rfl
@[simp] theorem Dev.updOps_clockTotals (f : OpTotals → OpTotals) : (d.updOps f).clockTotals = d.clockTotals := rfl
@[simp] theorem Dev.updOps_tileTotals (f : OpTotals → OpTotals) : (d.updOps f).tileTotals = d.tileTotals := rfl
@[simp] theorem Dev.updOps_select (f : OpTotals → OpTotals) : (d.updOps f).select = d.select := rfl
@[simp] theorem Dev.updOps_log (f : OpTotals → OpTotals) : (d.updOps f).log = d.log := rfl
@[simp] theorem Dev.updOps_dump (f : OpTotals → OpTotals) : (d.updOps f).dump = d.dump := rfl
@[simp] theorem Dev.updOps_gasp (f : OpTotals → OpTotals) : (d.updOps f).gasp = d.gasp := rfl
@[simp] theorem Dev.updOps_tiles (f : OpTotals → OpTotals) : (d.updOps f).tiles = d.tiles := rfl
@[simp] theorem Dev.updOps_crossings (f : OpTotals → OpTotals) : (d.updOps f).crossings = d.crossings := rfl
@[simp] theorem Dev.updOps_parts (f : OpTotals → OpTotals) : (d.updOps f).parts = d.parts := rfl
@[simp] theorem Dev.updOps_mem (f : OpTotals → OpTotals) : (d.updOps f).mem = d.mem := rfl
@[simp] theorem Dev.updOps_lost (f : OpTotals → OpTotals) : (d.updOps f).lost = d.lost := rfl
@[simp] theorem Dev.updOps_faults (f : OpTotals → OpTotals) : (d.updOps f).faults = d.faults := rfl
@[simp] theorem Dev.updOps_channels (f : OpTotals → OpTotals) : (d.updOps f).channels = d.channels := rfl
@[simp] theorem Dev.updOps_cp (f : OpTotals → OpTotals) : (d.updOps f).cp = d.cp := rfl
@[simp] theorem Dev.updOps_plannedLandings (f : OpTotals → OpTotals) : (d.updOps f).plannedLandings = d.plannedLandings := rfl
@[simp] theorem Dev.updOps_scrubs (f : OpTotals → OpTotals) : (d.updOps f).scrubs = d.scrubs := rfl
@[simp] theorem Dev.updOps_accessSeq (f : OpTotals → OpTotals) : (d.updOps f).accessSeq = d.accessSeq := rfl
@[simp] theorem Dev.updOps_memTotals (f : OpTotals → OpTotals) : (d.updOps f).memTotals = d.memTotals := rfl
@[simp] theorem Dev.updOps_integrity (f : OpTotals → OpTotals) : (d.updOps f).integrity = d.integrity := rfl
@[simp] theorem Dev.updOps_links (f : OpTotals → OpTotals) : (d.updOps f).links = d.links := rfl
@[simp] theorem Dev.updOps_router (f : OpTotals → OpTotals) : (d.updOps f).router = d.router := rfl
@[simp] theorem Dev.updOps_noticesIn (f : OpTotals → OpTotals) : (d.updOps f).noticesIn = d.noticesIn := rfl
@[simp] theorem Dev.updOps_sync (f : OpTotals → OpTotals) : (d.updOps f).sync = d.sync := rfl
@[simp] theorem Dev.updOps_fns (f : OpTotals → OpTotals) : (d.updOps f).fns = d.fns := rfl
@[simp] theorem Dev.updOps_commands (f : OpTotals → OpTotals) : (d.updOps f).commands = d.commands := rfl
@[simp] theorem Dev.updOps_hostTotals (f : OpTotals → OpTotals) : (d.updOps f).hostTotals = d.hostTotals := rfl
@[simp] theorem Dev.updOps_pcie (f : OpTotals → OpTotals) : (d.updOps f).pcie = d.pcie := rfl
@[simp] theorem Dev.updOps_hostMem (f : OpTotals → OpTotals) : (d.updOps f).hostMem = d.hostMem := rfl
@[simp] theorem Dev.updOps_weightTotals (f : OpTotals → OpTotals) : (d.updOps f).weightTotals = d.weightTotals := rfl
@[simp] theorem Dev.updOps_serveTotals (f : OpTotals → OpTotals) : (d.updOps f).serveTotals = d.serveTotals := rfl
@[simp] theorem Dev.updOps_power (f : OpTotals → OpTotals) : (d.updOps f).power = d.power := rfl
@[simp] theorem Dev.updOps_fuses (f : OpTotals → OpTotals) : (d.updOps f).fuses = d.fuses := rfl
@[simp] theorem Dev.updOps_mgmt (f : OpTotals → OpTotals) : (d.updOps f).mgmt = d.mgmt := rfl
@[simp] theorem Dev.updOps_boot (f : OpTotals → OpTotals) : (d.updOps f).boot = d.boot := rfl
@[simp] theorem Dev.updOps_capGib (f : OpTotals → OpTotals) : (d.updOps f).capGib = d.capGib := rfl
@[simp] theorem Dev.updOps_fusing (f : OpTotals → OpTotals) : (d.updOps f).fusing = d.fusing := rfl
@[simp] theorem Dev.updOps_grade (f : OpTotals → OpTotals) : (d.updOps f).grade = d.grade := rfl
@[simp] theorem Dev.updOps_fwVersion (f : OpTotals → OpTotals) : (d.updOps f).fwVersion = d.fwVersion := rfl
@[simp] theorem Dev.updOps_fwRunning (f : OpTotals → OpTotals) : (d.updOps f).fwRunning = d.fwRunning := rfl
@[simp] theorem Dev.updOps_free (f : OpTotals → OpTotals) : (d.updOps f).free = d.free := rfl
@[simp] theorem Dev.updOps_readData (f : OpTotals → OpTotals) : (d.updOps f).readData = d.readData := rfl
@[simp] theorem Dev.updOps_tile_at (f : OpTotals → OpTotals) (i : Nat) : (d.updOps f).tile i = d.tile i := rfl
@[simp] theorem Dev.updOps_part_at (f : OpTotals → OpTotals) (i : Nat) : (d.updOps f).part i = d.part i := rfl
@[simp] theorem Dev.updOps_channel_at (f : OpTotals → OpTotals) (i : Nat) : (d.updOps f).channel i = d.channel i := rfl
@[simp] theorem Dev.updOps_link_at (f : OpTotals → OpTotals) (i : Nat) : (d.updOps f).link i = d.link i := rfl
@[simp] theorem Dev.updOps_fn_at (f : OpTotals → OpTotals) (i : Nat) : (d.updOps f).fn i = d.fn i := rfl

/-! What `updTileTotals` leaves. -/

@[simp] theorem Dev.updTileTotals_time (f : TileTotals → TileTotals) : (d.updTileTotals f).time = d.time := rfl
@[simp] theorem Dev.updTileTotals_stage (f : TileTotals → TileTotals) : (d.updTileTotals f).stage = d.stage := rfl
@[simp] theorem Dev.updTileTotals_failCause (f : TileTotals → TileTotals) : (d.updTileTotals f).failCause = d.failCause := rfl
@[simp] theorem Dev.updTileTotals_deviceId (f : TileTotals → TileTotals) : (d.updTileTotals f).deviceId = d.deviceId := rfl
@[simp] theorem Dev.updTileTotals_deviceFatal (f : TileTotals → TileTotals) : (d.updTileTotals f).deviceFatal = d.deviceFatal := rfl
@[simp] theorem Dev.updTileTotals_halted (f : TileTotals → TileTotals) : (d.updTileTotals f).halted = d.halted := rfl
@[simp] theorem Dev.updTileTotals_faultN (f : TileTotals → TileTotals) : (d.updTileTotals f).faultN = d.faultN := rfl
@[simp] theorem Dev.updTileTotals_enabledGroups (f : TileTotals → TileTotals) : (d.updTileTotals f).enabledGroups = d.enabledGroups := rfl
@[simp] theorem Dev.updTileTotals_clockCfg (f : TileTotals → TileTotals) : (d.updTileTotals f).clockCfg = d.clockCfg := rfl
@[simp] theorem Dev.updTileTotals_clockTotals (f : TileTotals → TileTotals) : (d.updTileTotals f).clockTotals = d.clockTotals := rfl
@[simp] theorem Dev.updTileTotals_opTotals (f : TileTotals → TileTotals) : (d.updTileTotals f).opTotals = d.opTotals := rfl
@[simp] theorem Dev.updTileTotals_select (f : TileTotals → TileTotals) : (d.updTileTotals f).select = d.select := rfl
@[simp] theorem Dev.updTileTotals_log (f : TileTotals → TileTotals) : (d.updTileTotals f).log = d.log := rfl
@[simp] theorem Dev.updTileTotals_dump (f : TileTotals → TileTotals) : (d.updTileTotals f).dump = d.dump := rfl
@[simp] theorem Dev.updTileTotals_gasp (f : TileTotals → TileTotals) : (d.updTileTotals f).gasp = d.gasp := rfl
@[simp] theorem Dev.updTileTotals_tiles (f : TileTotals → TileTotals) : (d.updTileTotals f).tiles = d.tiles := rfl
@[simp] theorem Dev.updTileTotals_crossings (f : TileTotals → TileTotals) : (d.updTileTotals f).crossings = d.crossings := rfl
@[simp] theorem Dev.updTileTotals_parts (f : TileTotals → TileTotals) : (d.updTileTotals f).parts = d.parts := rfl
@[simp] theorem Dev.updTileTotals_mem (f : TileTotals → TileTotals) : (d.updTileTotals f).mem = d.mem := rfl
@[simp] theorem Dev.updTileTotals_lost (f : TileTotals → TileTotals) : (d.updTileTotals f).lost = d.lost := rfl
@[simp] theorem Dev.updTileTotals_faults (f : TileTotals → TileTotals) : (d.updTileTotals f).faults = d.faults := rfl
@[simp] theorem Dev.updTileTotals_channels (f : TileTotals → TileTotals) : (d.updTileTotals f).channels = d.channels := rfl
@[simp] theorem Dev.updTileTotals_cp (f : TileTotals → TileTotals) : (d.updTileTotals f).cp = d.cp := rfl
@[simp] theorem Dev.updTileTotals_plannedLandings (f : TileTotals → TileTotals) : (d.updTileTotals f).plannedLandings = d.plannedLandings := rfl
@[simp] theorem Dev.updTileTotals_scrubs (f : TileTotals → TileTotals) : (d.updTileTotals f).scrubs = d.scrubs := rfl
@[simp] theorem Dev.updTileTotals_accessSeq (f : TileTotals → TileTotals) : (d.updTileTotals f).accessSeq = d.accessSeq := rfl
@[simp] theorem Dev.updTileTotals_memTotals (f : TileTotals → TileTotals) : (d.updTileTotals f).memTotals = d.memTotals := rfl
@[simp] theorem Dev.updTileTotals_integrity (f : TileTotals → TileTotals) : (d.updTileTotals f).integrity = d.integrity := rfl
@[simp] theorem Dev.updTileTotals_links (f : TileTotals → TileTotals) : (d.updTileTotals f).links = d.links := rfl
@[simp] theorem Dev.updTileTotals_router (f : TileTotals → TileTotals) : (d.updTileTotals f).router = d.router := rfl
@[simp] theorem Dev.updTileTotals_noticesIn (f : TileTotals → TileTotals) : (d.updTileTotals f).noticesIn = d.noticesIn := rfl
@[simp] theorem Dev.updTileTotals_sync (f : TileTotals → TileTotals) : (d.updTileTotals f).sync = d.sync := rfl
@[simp] theorem Dev.updTileTotals_fns (f : TileTotals → TileTotals) : (d.updTileTotals f).fns = d.fns := rfl
@[simp] theorem Dev.updTileTotals_commands (f : TileTotals → TileTotals) : (d.updTileTotals f).commands = d.commands := rfl
@[simp] theorem Dev.updTileTotals_hostTotals (f : TileTotals → TileTotals) : (d.updTileTotals f).hostTotals = d.hostTotals := rfl
@[simp] theorem Dev.updTileTotals_pcie (f : TileTotals → TileTotals) : (d.updTileTotals f).pcie = d.pcie := rfl
@[simp] theorem Dev.updTileTotals_hostMem (f : TileTotals → TileTotals) : (d.updTileTotals f).hostMem = d.hostMem := rfl
@[simp] theorem Dev.updTileTotals_weightTotals (f : TileTotals → TileTotals) : (d.updTileTotals f).weightTotals = d.weightTotals := rfl
@[simp] theorem Dev.updTileTotals_serveTotals (f : TileTotals → TileTotals) : (d.updTileTotals f).serveTotals = d.serveTotals := rfl
@[simp] theorem Dev.updTileTotals_power (f : TileTotals → TileTotals) : (d.updTileTotals f).power = d.power := rfl
@[simp] theorem Dev.updTileTotals_fuses (f : TileTotals → TileTotals) : (d.updTileTotals f).fuses = d.fuses := rfl
@[simp] theorem Dev.updTileTotals_mgmt (f : TileTotals → TileTotals) : (d.updTileTotals f).mgmt = d.mgmt := rfl
@[simp] theorem Dev.updTileTotals_boot (f : TileTotals → TileTotals) : (d.updTileTotals f).boot = d.boot := rfl
@[simp] theorem Dev.updTileTotals_capGib (f : TileTotals → TileTotals) : (d.updTileTotals f).capGib = d.capGib := rfl
@[simp] theorem Dev.updTileTotals_fusing (f : TileTotals → TileTotals) : (d.updTileTotals f).fusing = d.fusing := rfl
@[simp] theorem Dev.updTileTotals_grade (f : TileTotals → TileTotals) : (d.updTileTotals f).grade = d.grade := rfl
@[simp] theorem Dev.updTileTotals_fwVersion (f : TileTotals → TileTotals) : (d.updTileTotals f).fwVersion = d.fwVersion := rfl
@[simp] theorem Dev.updTileTotals_fwRunning (f : TileTotals → TileTotals) : (d.updTileTotals f).fwRunning = d.fwRunning := rfl
@[simp] theorem Dev.updTileTotals_free (f : TileTotals → TileTotals) : (d.updTileTotals f).free = d.free := rfl
@[simp] theorem Dev.updTileTotals_readData (f : TileTotals → TileTotals) : (d.updTileTotals f).readData = d.readData := rfl
@[simp] theorem Dev.updTileTotals_tile_at (f : TileTotals → TileTotals) (i : Nat) : (d.updTileTotals f).tile i = d.tile i := rfl
@[simp] theorem Dev.updTileTotals_part_at (f : TileTotals → TileTotals) (i : Nat) : (d.updTileTotals f).part i = d.part i := rfl
@[simp] theorem Dev.updTileTotals_channel_at (f : TileTotals → TileTotals) (i : Nat) : (d.updTileTotals f).channel i = d.channel i := rfl
@[simp] theorem Dev.updTileTotals_link_at (f : TileTotals → TileTotals) (i : Nat) : (d.updTileTotals f).link i = d.link i := rfl
@[simp] theorem Dev.updTileTotals_fn_at (f : TileTotals → TileTotals) (i : Nat) : (d.updTileTotals f).fn i = d.fn i := rfl

/-! What `updMemTotals` leaves. -/

@[simp] theorem Dev.updMemTotals_time (f : MemTotals → MemTotals) : (d.updMemTotals f).time = d.time := rfl
@[simp] theorem Dev.updMemTotals_stage (f : MemTotals → MemTotals) : (d.updMemTotals f).stage = d.stage := rfl
@[simp] theorem Dev.updMemTotals_failCause (f : MemTotals → MemTotals) : (d.updMemTotals f).failCause = d.failCause := rfl
@[simp] theorem Dev.updMemTotals_deviceId (f : MemTotals → MemTotals) : (d.updMemTotals f).deviceId = d.deviceId := rfl
@[simp] theorem Dev.updMemTotals_deviceFatal (f : MemTotals → MemTotals) : (d.updMemTotals f).deviceFatal = d.deviceFatal := rfl
@[simp] theorem Dev.updMemTotals_halted (f : MemTotals → MemTotals) : (d.updMemTotals f).halted = d.halted := rfl
@[simp] theorem Dev.updMemTotals_faultN (f : MemTotals → MemTotals) : (d.updMemTotals f).faultN = d.faultN := rfl
@[simp] theorem Dev.updMemTotals_enabledGroups (f : MemTotals → MemTotals) : (d.updMemTotals f).enabledGroups = d.enabledGroups := rfl
@[simp] theorem Dev.updMemTotals_clockCfg (f : MemTotals → MemTotals) : (d.updMemTotals f).clockCfg = d.clockCfg := rfl
@[simp] theorem Dev.updMemTotals_clockTotals (f : MemTotals → MemTotals) : (d.updMemTotals f).clockTotals = d.clockTotals := rfl
@[simp] theorem Dev.updMemTotals_tileTotals (f : MemTotals → MemTotals) : (d.updMemTotals f).tileTotals = d.tileTotals := rfl
@[simp] theorem Dev.updMemTotals_opTotals (f : MemTotals → MemTotals) : (d.updMemTotals f).opTotals = d.opTotals := rfl
@[simp] theorem Dev.updMemTotals_select (f : MemTotals → MemTotals) : (d.updMemTotals f).select = d.select := rfl
@[simp] theorem Dev.updMemTotals_log (f : MemTotals → MemTotals) : (d.updMemTotals f).log = d.log := rfl
@[simp] theorem Dev.updMemTotals_dump (f : MemTotals → MemTotals) : (d.updMemTotals f).dump = d.dump := rfl
@[simp] theorem Dev.updMemTotals_gasp (f : MemTotals → MemTotals) : (d.updMemTotals f).gasp = d.gasp := rfl
@[simp] theorem Dev.updMemTotals_tiles (f : MemTotals → MemTotals) : (d.updMemTotals f).tiles = d.tiles := rfl
@[simp] theorem Dev.updMemTotals_crossings (f : MemTotals → MemTotals) : (d.updMemTotals f).crossings = d.crossings := rfl
@[simp] theorem Dev.updMemTotals_parts (f : MemTotals → MemTotals) : (d.updMemTotals f).parts = d.parts := rfl
@[simp] theorem Dev.updMemTotals_mem (f : MemTotals → MemTotals) : (d.updMemTotals f).mem = d.mem := rfl
@[simp] theorem Dev.updMemTotals_lost (f : MemTotals → MemTotals) : (d.updMemTotals f).lost = d.lost := rfl
@[simp] theorem Dev.updMemTotals_faults (f : MemTotals → MemTotals) : (d.updMemTotals f).faults = d.faults := rfl
@[simp] theorem Dev.updMemTotals_channels (f : MemTotals → MemTotals) : (d.updMemTotals f).channels = d.channels := rfl
@[simp] theorem Dev.updMemTotals_cp (f : MemTotals → MemTotals) : (d.updMemTotals f).cp = d.cp := rfl
@[simp] theorem Dev.updMemTotals_plannedLandings (f : MemTotals → MemTotals) : (d.updMemTotals f).plannedLandings = d.plannedLandings := rfl
@[simp] theorem Dev.updMemTotals_scrubs (f : MemTotals → MemTotals) : (d.updMemTotals f).scrubs = d.scrubs := rfl
@[simp] theorem Dev.updMemTotals_accessSeq (f : MemTotals → MemTotals) : (d.updMemTotals f).accessSeq = d.accessSeq := rfl
@[simp] theorem Dev.updMemTotals_integrity (f : MemTotals → MemTotals) : (d.updMemTotals f).integrity = d.integrity := rfl
@[simp] theorem Dev.updMemTotals_links (f : MemTotals → MemTotals) : (d.updMemTotals f).links = d.links := rfl
@[simp] theorem Dev.updMemTotals_router (f : MemTotals → MemTotals) : (d.updMemTotals f).router = d.router := rfl
@[simp] theorem Dev.updMemTotals_noticesIn (f : MemTotals → MemTotals) : (d.updMemTotals f).noticesIn = d.noticesIn := rfl
@[simp] theorem Dev.updMemTotals_sync (f : MemTotals → MemTotals) : (d.updMemTotals f).sync = d.sync := rfl
@[simp] theorem Dev.updMemTotals_fns (f : MemTotals → MemTotals) : (d.updMemTotals f).fns = d.fns := rfl
@[simp] theorem Dev.updMemTotals_commands (f : MemTotals → MemTotals) : (d.updMemTotals f).commands = d.commands := rfl
@[simp] theorem Dev.updMemTotals_hostTotals (f : MemTotals → MemTotals) : (d.updMemTotals f).hostTotals = d.hostTotals := rfl
@[simp] theorem Dev.updMemTotals_pcie (f : MemTotals → MemTotals) : (d.updMemTotals f).pcie = d.pcie := rfl
@[simp] theorem Dev.updMemTotals_hostMem (f : MemTotals → MemTotals) : (d.updMemTotals f).hostMem = d.hostMem := rfl
@[simp] theorem Dev.updMemTotals_weightTotals (f : MemTotals → MemTotals) : (d.updMemTotals f).weightTotals = d.weightTotals := rfl
@[simp] theorem Dev.updMemTotals_serveTotals (f : MemTotals → MemTotals) : (d.updMemTotals f).serveTotals = d.serveTotals := rfl
@[simp] theorem Dev.updMemTotals_power (f : MemTotals → MemTotals) : (d.updMemTotals f).power = d.power := rfl
@[simp] theorem Dev.updMemTotals_fuses (f : MemTotals → MemTotals) : (d.updMemTotals f).fuses = d.fuses := rfl
@[simp] theorem Dev.updMemTotals_mgmt (f : MemTotals → MemTotals) : (d.updMemTotals f).mgmt = d.mgmt := rfl
@[simp] theorem Dev.updMemTotals_boot (f : MemTotals → MemTotals) : (d.updMemTotals f).boot = d.boot := rfl
@[simp] theorem Dev.updMemTotals_capGib (f : MemTotals → MemTotals) : (d.updMemTotals f).capGib = d.capGib := rfl
@[simp] theorem Dev.updMemTotals_fusing (f : MemTotals → MemTotals) : (d.updMemTotals f).fusing = d.fusing := rfl
@[simp] theorem Dev.updMemTotals_grade (f : MemTotals → MemTotals) : (d.updMemTotals f).grade = d.grade := rfl
@[simp] theorem Dev.updMemTotals_fwVersion (f : MemTotals → MemTotals) : (d.updMemTotals f).fwVersion = d.fwVersion := rfl
@[simp] theorem Dev.updMemTotals_fwRunning (f : MemTotals → MemTotals) : (d.updMemTotals f).fwRunning = d.fwRunning := rfl
@[simp] theorem Dev.updMemTotals_free (f : MemTotals → MemTotals) : (d.updMemTotals f).free = d.free := rfl
@[simp] theorem Dev.updMemTotals_readData (f : MemTotals → MemTotals) : (d.updMemTotals f).readData = d.readData := rfl
@[simp] theorem Dev.updMemTotals_tile_at (f : MemTotals → MemTotals) (i : Nat) : (d.updMemTotals f).tile i = d.tile i := rfl
@[simp] theorem Dev.updMemTotals_part_at (f : MemTotals → MemTotals) (i : Nat) : (d.updMemTotals f).part i = d.part i := rfl
@[simp] theorem Dev.updMemTotals_channel_at (f : MemTotals → MemTotals) (i : Nat) : (d.updMemTotals f).channel i = d.channel i := rfl
@[simp] theorem Dev.updMemTotals_link_at (f : MemTotals → MemTotals) (i : Nat) : (d.updMemTotals f).link i = d.link i := rfl
@[simp] theorem Dev.updMemTotals_fn_at (f : MemTotals → MemTotals) (i : Nat) : (d.updMemTotals f).fn i = d.fn i := rfl

/-! What `updClockTotals` leaves. -/

@[simp] theorem Dev.updClockTotals_time (f : ClockTotals → ClockTotals) : (d.updClockTotals f).time = d.time := rfl
@[simp] theorem Dev.updClockTotals_stage (f : ClockTotals → ClockTotals) : (d.updClockTotals f).stage = d.stage := rfl
@[simp] theorem Dev.updClockTotals_failCause (f : ClockTotals → ClockTotals) : (d.updClockTotals f).failCause = d.failCause := rfl
@[simp] theorem Dev.updClockTotals_deviceId (f : ClockTotals → ClockTotals) : (d.updClockTotals f).deviceId = d.deviceId := rfl
@[simp] theorem Dev.updClockTotals_deviceFatal (f : ClockTotals → ClockTotals) : (d.updClockTotals f).deviceFatal = d.deviceFatal := rfl
@[simp] theorem Dev.updClockTotals_halted (f : ClockTotals → ClockTotals) : (d.updClockTotals f).halted = d.halted := rfl
@[simp] theorem Dev.updClockTotals_faultN (f : ClockTotals → ClockTotals) : (d.updClockTotals f).faultN = d.faultN := rfl
@[simp] theorem Dev.updClockTotals_enabledGroups (f : ClockTotals → ClockTotals) : (d.updClockTotals f).enabledGroups = d.enabledGroups := rfl
@[simp] theorem Dev.updClockTotals_clockCfg (f : ClockTotals → ClockTotals) : (d.updClockTotals f).clockCfg = d.clockCfg := rfl
@[simp] theorem Dev.updClockTotals_tileTotals (f : ClockTotals → ClockTotals) : (d.updClockTotals f).tileTotals = d.tileTotals := rfl
@[simp] theorem Dev.updClockTotals_opTotals (f : ClockTotals → ClockTotals) : (d.updClockTotals f).opTotals = d.opTotals := rfl
@[simp] theorem Dev.updClockTotals_select (f : ClockTotals → ClockTotals) : (d.updClockTotals f).select = d.select := rfl
@[simp] theorem Dev.updClockTotals_log (f : ClockTotals → ClockTotals) : (d.updClockTotals f).log = d.log := rfl
@[simp] theorem Dev.updClockTotals_dump (f : ClockTotals → ClockTotals) : (d.updClockTotals f).dump = d.dump := rfl
@[simp] theorem Dev.updClockTotals_gasp (f : ClockTotals → ClockTotals) : (d.updClockTotals f).gasp = d.gasp := rfl
@[simp] theorem Dev.updClockTotals_tiles (f : ClockTotals → ClockTotals) : (d.updClockTotals f).tiles = d.tiles := rfl
@[simp] theorem Dev.updClockTotals_crossings (f : ClockTotals → ClockTotals) : (d.updClockTotals f).crossings = d.crossings := rfl
@[simp] theorem Dev.updClockTotals_parts (f : ClockTotals → ClockTotals) : (d.updClockTotals f).parts = d.parts := rfl
@[simp] theorem Dev.updClockTotals_mem (f : ClockTotals → ClockTotals) : (d.updClockTotals f).mem = d.mem := rfl
@[simp] theorem Dev.updClockTotals_lost (f : ClockTotals → ClockTotals) : (d.updClockTotals f).lost = d.lost := rfl
@[simp] theorem Dev.updClockTotals_faults (f : ClockTotals → ClockTotals) : (d.updClockTotals f).faults = d.faults := rfl
@[simp] theorem Dev.updClockTotals_channels (f : ClockTotals → ClockTotals) : (d.updClockTotals f).channels = d.channels := rfl
@[simp] theorem Dev.updClockTotals_cp (f : ClockTotals → ClockTotals) : (d.updClockTotals f).cp = d.cp := rfl
@[simp] theorem Dev.updClockTotals_plannedLandings (f : ClockTotals → ClockTotals) : (d.updClockTotals f).plannedLandings = d.plannedLandings := rfl
@[simp] theorem Dev.updClockTotals_scrubs (f : ClockTotals → ClockTotals) : (d.updClockTotals f).scrubs = d.scrubs := rfl
@[simp] theorem Dev.updClockTotals_accessSeq (f : ClockTotals → ClockTotals) : (d.updClockTotals f).accessSeq = d.accessSeq := rfl
@[simp] theorem Dev.updClockTotals_memTotals (f : ClockTotals → ClockTotals) : (d.updClockTotals f).memTotals = d.memTotals := rfl
@[simp] theorem Dev.updClockTotals_integrity (f : ClockTotals → ClockTotals) : (d.updClockTotals f).integrity = d.integrity := rfl
@[simp] theorem Dev.updClockTotals_links (f : ClockTotals → ClockTotals) : (d.updClockTotals f).links = d.links := rfl
@[simp] theorem Dev.updClockTotals_router (f : ClockTotals → ClockTotals) : (d.updClockTotals f).router = d.router := rfl
@[simp] theorem Dev.updClockTotals_noticesIn (f : ClockTotals → ClockTotals) : (d.updClockTotals f).noticesIn = d.noticesIn := rfl
@[simp] theorem Dev.updClockTotals_sync (f : ClockTotals → ClockTotals) : (d.updClockTotals f).sync = d.sync := rfl
@[simp] theorem Dev.updClockTotals_fns (f : ClockTotals → ClockTotals) : (d.updClockTotals f).fns = d.fns := rfl
@[simp] theorem Dev.updClockTotals_commands (f : ClockTotals → ClockTotals) : (d.updClockTotals f).commands = d.commands := rfl
@[simp] theorem Dev.updClockTotals_hostTotals (f : ClockTotals → ClockTotals) : (d.updClockTotals f).hostTotals = d.hostTotals := rfl
@[simp] theorem Dev.updClockTotals_pcie (f : ClockTotals → ClockTotals) : (d.updClockTotals f).pcie = d.pcie := rfl
@[simp] theorem Dev.updClockTotals_hostMem (f : ClockTotals → ClockTotals) : (d.updClockTotals f).hostMem = d.hostMem := rfl
@[simp] theorem Dev.updClockTotals_weightTotals (f : ClockTotals → ClockTotals) : (d.updClockTotals f).weightTotals = d.weightTotals := rfl
@[simp] theorem Dev.updClockTotals_serveTotals (f : ClockTotals → ClockTotals) : (d.updClockTotals f).serveTotals = d.serveTotals := rfl
@[simp] theorem Dev.updClockTotals_power (f : ClockTotals → ClockTotals) : (d.updClockTotals f).power = d.power := rfl
@[simp] theorem Dev.updClockTotals_fuses (f : ClockTotals → ClockTotals) : (d.updClockTotals f).fuses = d.fuses := rfl
@[simp] theorem Dev.updClockTotals_mgmt (f : ClockTotals → ClockTotals) : (d.updClockTotals f).mgmt = d.mgmt := rfl
@[simp] theorem Dev.updClockTotals_boot (f : ClockTotals → ClockTotals) : (d.updClockTotals f).boot = d.boot := rfl
@[simp] theorem Dev.updClockTotals_capGib (f : ClockTotals → ClockTotals) : (d.updClockTotals f).capGib = d.capGib := rfl
@[simp] theorem Dev.updClockTotals_fusing (f : ClockTotals → ClockTotals) : (d.updClockTotals f).fusing = d.fusing := rfl
@[simp] theorem Dev.updClockTotals_grade (f : ClockTotals → ClockTotals) : (d.updClockTotals f).grade = d.grade := rfl
@[simp] theorem Dev.updClockTotals_fwVersion (f : ClockTotals → ClockTotals) : (d.updClockTotals f).fwVersion = d.fwVersion := rfl
@[simp] theorem Dev.updClockTotals_fwRunning (f : ClockTotals → ClockTotals) : (d.updClockTotals f).fwRunning = d.fwRunning := rfl
@[simp] theorem Dev.updClockTotals_free (f : ClockTotals → ClockTotals) : (d.updClockTotals f).free = d.free := rfl
@[simp] theorem Dev.updClockTotals_readData (f : ClockTotals → ClockTotals) : (d.updClockTotals f).readData = d.readData := rfl
@[simp] theorem Dev.updClockTotals_tile_at (f : ClockTotals → ClockTotals) (i : Nat) : (d.updClockTotals f).tile i = d.tile i := rfl
@[simp] theorem Dev.updClockTotals_part_at (f : ClockTotals → ClockTotals) (i : Nat) : (d.updClockTotals f).part i = d.part i := rfl
@[simp] theorem Dev.updClockTotals_channel_at (f : ClockTotals → ClockTotals) (i : Nat) : (d.updClockTotals f).channel i = d.channel i := rfl
@[simp] theorem Dev.updClockTotals_link_at (f : ClockTotals → ClockTotals) (i : Nat) : (d.updClockTotals f).link i = d.link i := rfl
@[simp] theorem Dev.updClockTotals_fn_at (f : ClockTotals → ClockTotals) (i : Nat) : (d.updClockTotals f).fn i = d.fn i := rfl

/-! What `updPower` leaves. -/

@[simp] theorem Dev.updPower_time (f : Power → Power) : (d.updPower f).time = d.time := rfl
@[simp] theorem Dev.updPower_stage (f : Power → Power) : (d.updPower f).stage = d.stage := rfl
@[simp] theorem Dev.updPower_failCause (f : Power → Power) : (d.updPower f).failCause = d.failCause := rfl
@[simp] theorem Dev.updPower_deviceId (f : Power → Power) : (d.updPower f).deviceId = d.deviceId := rfl
@[simp] theorem Dev.updPower_deviceFatal (f : Power → Power) : (d.updPower f).deviceFatal = d.deviceFatal := rfl
@[simp] theorem Dev.updPower_halted (f : Power → Power) : (d.updPower f).halted = d.halted := rfl
@[simp] theorem Dev.updPower_faultN (f : Power → Power) : (d.updPower f).faultN = d.faultN := rfl
@[simp] theorem Dev.updPower_enabledGroups (f : Power → Power) : (d.updPower f).enabledGroups = d.enabledGroups := rfl
@[simp] theorem Dev.updPower_clockCfg (f : Power → Power) : (d.updPower f).clockCfg = d.clockCfg := rfl
@[simp] theorem Dev.updPower_clockTotals (f : Power → Power) : (d.updPower f).clockTotals = d.clockTotals := rfl
@[simp] theorem Dev.updPower_tileTotals (f : Power → Power) : (d.updPower f).tileTotals = d.tileTotals := rfl
@[simp] theorem Dev.updPower_opTotals (f : Power → Power) : (d.updPower f).opTotals = d.opTotals := rfl
@[simp] theorem Dev.updPower_select (f : Power → Power) : (d.updPower f).select = d.select := rfl
@[simp] theorem Dev.updPower_log (f : Power → Power) : (d.updPower f).log = d.log := rfl
@[simp] theorem Dev.updPower_dump (f : Power → Power) : (d.updPower f).dump = d.dump := rfl
@[simp] theorem Dev.updPower_gasp (f : Power → Power) : (d.updPower f).gasp = d.gasp := rfl
@[simp] theorem Dev.updPower_tiles (f : Power → Power) : (d.updPower f).tiles = d.tiles := rfl
@[simp] theorem Dev.updPower_crossings (f : Power → Power) : (d.updPower f).crossings = d.crossings := rfl
@[simp] theorem Dev.updPower_parts (f : Power → Power) : (d.updPower f).parts = d.parts := rfl
@[simp] theorem Dev.updPower_mem (f : Power → Power) : (d.updPower f).mem = d.mem := rfl
@[simp] theorem Dev.updPower_lost (f : Power → Power) : (d.updPower f).lost = d.lost := rfl
@[simp] theorem Dev.updPower_faults (f : Power → Power) : (d.updPower f).faults = d.faults := rfl
@[simp] theorem Dev.updPower_channels (f : Power → Power) : (d.updPower f).channels = d.channels := rfl
@[simp] theorem Dev.updPower_cp (f : Power → Power) : (d.updPower f).cp = d.cp := rfl
@[simp] theorem Dev.updPower_plannedLandings (f : Power → Power) : (d.updPower f).plannedLandings = d.plannedLandings := rfl
@[simp] theorem Dev.updPower_scrubs (f : Power → Power) : (d.updPower f).scrubs = d.scrubs := rfl
@[simp] theorem Dev.updPower_accessSeq (f : Power → Power) : (d.updPower f).accessSeq = d.accessSeq := rfl
@[simp] theorem Dev.updPower_memTotals (f : Power → Power) : (d.updPower f).memTotals = d.memTotals := rfl
@[simp] theorem Dev.updPower_integrity (f : Power → Power) : (d.updPower f).integrity = d.integrity := rfl
@[simp] theorem Dev.updPower_links (f : Power → Power) : (d.updPower f).links = d.links := rfl
@[simp] theorem Dev.updPower_router (f : Power → Power) : (d.updPower f).router = d.router := rfl
@[simp] theorem Dev.updPower_noticesIn (f : Power → Power) : (d.updPower f).noticesIn = d.noticesIn := rfl
@[simp] theorem Dev.updPower_sync (f : Power → Power) : (d.updPower f).sync = d.sync := rfl
@[simp] theorem Dev.updPower_fns (f : Power → Power) : (d.updPower f).fns = d.fns := rfl
@[simp] theorem Dev.updPower_commands (f : Power → Power) : (d.updPower f).commands = d.commands := rfl
@[simp] theorem Dev.updPower_hostTotals (f : Power → Power) : (d.updPower f).hostTotals = d.hostTotals := rfl
@[simp] theorem Dev.updPower_pcie (f : Power → Power) : (d.updPower f).pcie = d.pcie := rfl
@[simp] theorem Dev.updPower_hostMem (f : Power → Power) : (d.updPower f).hostMem = d.hostMem := rfl
@[simp] theorem Dev.updPower_weightTotals (f : Power → Power) : (d.updPower f).weightTotals = d.weightTotals := rfl
@[simp] theorem Dev.updPower_serveTotals (f : Power → Power) : (d.updPower f).serveTotals = d.serveTotals := rfl
@[simp] theorem Dev.updPower_fuses (f : Power → Power) : (d.updPower f).fuses = d.fuses := rfl
@[simp] theorem Dev.updPower_mgmt (f : Power → Power) : (d.updPower f).mgmt = d.mgmt := rfl
@[simp] theorem Dev.updPower_boot (f : Power → Power) : (d.updPower f).boot = d.boot := rfl
@[simp] theorem Dev.updPower_capGib (f : Power → Power) : (d.updPower f).capGib = d.capGib := rfl
@[simp] theorem Dev.updPower_fusing (f : Power → Power) : (d.updPower f).fusing = d.fusing := rfl
@[simp] theorem Dev.updPower_grade (f : Power → Power) : (d.updPower f).grade = d.grade := rfl
@[simp] theorem Dev.updPower_fwVersion (f : Power → Power) : (d.updPower f).fwVersion = d.fwVersion := rfl
@[simp] theorem Dev.updPower_fwRunning (f : Power → Power) : (d.updPower f).fwRunning = d.fwRunning := rfl
@[simp] theorem Dev.updPower_free (f : Power → Power) : (d.updPower f).free = d.free := rfl
@[simp] theorem Dev.updPower_readData (f : Power → Power) : (d.updPower f).readData = d.readData := rfl
@[simp] theorem Dev.updPower_tile_at (f : Power → Power) (i : Nat) : (d.updPower f).tile i = d.tile i := rfl
@[simp] theorem Dev.updPower_part_at (f : Power → Power) (i : Nat) : (d.updPower f).part i = d.part i := rfl
@[simp] theorem Dev.updPower_channel_at (f : Power → Power) (i : Nat) : (d.updPower f).channel i = d.channel i := rfl
@[simp] theorem Dev.updPower_link_at (f : Power → Power) (i : Nat) : (d.updPower f).link i = d.link i := rfl
@[simp] theorem Dev.updPower_fn_at (f : Power → Power) (i : Nat) : (d.updPower f).fn i = d.fn i := rfl

/-! What `updMgmt` leaves. -/

@[simp] theorem Dev.updMgmt_time (f : Mgmt → Mgmt) : (d.updMgmt f).time = d.time := rfl
@[simp] theorem Dev.updMgmt_stage (f : Mgmt → Mgmt) : (d.updMgmt f).stage = d.stage := rfl
@[simp] theorem Dev.updMgmt_failCause (f : Mgmt → Mgmt) : (d.updMgmt f).failCause = d.failCause := rfl
@[simp] theorem Dev.updMgmt_deviceId (f : Mgmt → Mgmt) : (d.updMgmt f).deviceId = d.deviceId := rfl
@[simp] theorem Dev.updMgmt_deviceFatal (f : Mgmt → Mgmt) : (d.updMgmt f).deviceFatal = d.deviceFatal := rfl
@[simp] theorem Dev.updMgmt_halted (f : Mgmt → Mgmt) : (d.updMgmt f).halted = d.halted := rfl
@[simp] theorem Dev.updMgmt_faultN (f : Mgmt → Mgmt) : (d.updMgmt f).faultN = d.faultN := rfl
@[simp] theorem Dev.updMgmt_enabledGroups (f : Mgmt → Mgmt) : (d.updMgmt f).enabledGroups = d.enabledGroups := rfl
@[simp] theorem Dev.updMgmt_clockCfg (f : Mgmt → Mgmt) : (d.updMgmt f).clockCfg = d.clockCfg := rfl
@[simp] theorem Dev.updMgmt_clockTotals (f : Mgmt → Mgmt) : (d.updMgmt f).clockTotals = d.clockTotals := rfl
@[simp] theorem Dev.updMgmt_tileTotals (f : Mgmt → Mgmt) : (d.updMgmt f).tileTotals = d.tileTotals := rfl
@[simp] theorem Dev.updMgmt_opTotals (f : Mgmt → Mgmt) : (d.updMgmt f).opTotals = d.opTotals := rfl
@[simp] theorem Dev.updMgmt_select (f : Mgmt → Mgmt) : (d.updMgmt f).select = d.select := rfl
@[simp] theorem Dev.updMgmt_log (f : Mgmt → Mgmt) : (d.updMgmt f).log = d.log := rfl
@[simp] theorem Dev.updMgmt_dump (f : Mgmt → Mgmt) : (d.updMgmt f).dump = d.dump := rfl
@[simp] theorem Dev.updMgmt_gasp (f : Mgmt → Mgmt) : (d.updMgmt f).gasp = d.gasp := rfl
@[simp] theorem Dev.updMgmt_tiles (f : Mgmt → Mgmt) : (d.updMgmt f).tiles = d.tiles := rfl
@[simp] theorem Dev.updMgmt_crossings (f : Mgmt → Mgmt) : (d.updMgmt f).crossings = d.crossings := rfl
@[simp] theorem Dev.updMgmt_parts (f : Mgmt → Mgmt) : (d.updMgmt f).parts = d.parts := rfl
@[simp] theorem Dev.updMgmt_mem (f : Mgmt → Mgmt) : (d.updMgmt f).mem = d.mem := rfl
@[simp] theorem Dev.updMgmt_lost (f : Mgmt → Mgmt) : (d.updMgmt f).lost = d.lost := rfl
@[simp] theorem Dev.updMgmt_faults (f : Mgmt → Mgmt) : (d.updMgmt f).faults = d.faults := rfl
@[simp] theorem Dev.updMgmt_channels (f : Mgmt → Mgmt) : (d.updMgmt f).channels = d.channels := rfl
@[simp] theorem Dev.updMgmt_cp (f : Mgmt → Mgmt) : (d.updMgmt f).cp = d.cp := rfl
@[simp] theorem Dev.updMgmt_plannedLandings (f : Mgmt → Mgmt) : (d.updMgmt f).plannedLandings = d.plannedLandings := rfl
@[simp] theorem Dev.updMgmt_scrubs (f : Mgmt → Mgmt) : (d.updMgmt f).scrubs = d.scrubs := rfl
@[simp] theorem Dev.updMgmt_accessSeq (f : Mgmt → Mgmt) : (d.updMgmt f).accessSeq = d.accessSeq := rfl
@[simp] theorem Dev.updMgmt_memTotals (f : Mgmt → Mgmt) : (d.updMgmt f).memTotals = d.memTotals := rfl
@[simp] theorem Dev.updMgmt_integrity (f : Mgmt → Mgmt) : (d.updMgmt f).integrity = d.integrity := rfl
@[simp] theorem Dev.updMgmt_links (f : Mgmt → Mgmt) : (d.updMgmt f).links = d.links := rfl
@[simp] theorem Dev.updMgmt_router (f : Mgmt → Mgmt) : (d.updMgmt f).router = d.router := rfl
@[simp] theorem Dev.updMgmt_noticesIn (f : Mgmt → Mgmt) : (d.updMgmt f).noticesIn = d.noticesIn := rfl
@[simp] theorem Dev.updMgmt_sync (f : Mgmt → Mgmt) : (d.updMgmt f).sync = d.sync := rfl
@[simp] theorem Dev.updMgmt_fns (f : Mgmt → Mgmt) : (d.updMgmt f).fns = d.fns := rfl
@[simp] theorem Dev.updMgmt_commands (f : Mgmt → Mgmt) : (d.updMgmt f).commands = d.commands := rfl
@[simp] theorem Dev.updMgmt_hostTotals (f : Mgmt → Mgmt) : (d.updMgmt f).hostTotals = d.hostTotals := rfl
@[simp] theorem Dev.updMgmt_pcie (f : Mgmt → Mgmt) : (d.updMgmt f).pcie = d.pcie := rfl
@[simp] theorem Dev.updMgmt_hostMem (f : Mgmt → Mgmt) : (d.updMgmt f).hostMem = d.hostMem := rfl
@[simp] theorem Dev.updMgmt_weightTotals (f : Mgmt → Mgmt) : (d.updMgmt f).weightTotals = d.weightTotals := rfl
@[simp] theorem Dev.updMgmt_serveTotals (f : Mgmt → Mgmt) : (d.updMgmt f).serveTotals = d.serveTotals := rfl
@[simp] theorem Dev.updMgmt_power (f : Mgmt → Mgmt) : (d.updMgmt f).power = d.power := rfl
@[simp] theorem Dev.updMgmt_fuses (f : Mgmt → Mgmt) : (d.updMgmt f).fuses = d.fuses := rfl
@[simp] theorem Dev.updMgmt_boot (f : Mgmt → Mgmt) : (d.updMgmt f).boot = d.boot := rfl
@[simp] theorem Dev.updMgmt_capGib (f : Mgmt → Mgmt) : (d.updMgmt f).capGib = d.capGib := rfl
@[simp] theorem Dev.updMgmt_fusing (f : Mgmt → Mgmt) : (d.updMgmt f).fusing = d.fusing := rfl
@[simp] theorem Dev.updMgmt_grade (f : Mgmt → Mgmt) : (d.updMgmt f).grade = d.grade := rfl
@[simp] theorem Dev.updMgmt_fwVersion (f : Mgmt → Mgmt) : (d.updMgmt f).fwVersion = d.fwVersion := rfl
@[simp] theorem Dev.updMgmt_fwRunning (f : Mgmt → Mgmt) : (d.updMgmt f).fwRunning = d.fwRunning := rfl
@[simp] theorem Dev.updMgmt_free (f : Mgmt → Mgmt) : (d.updMgmt f).free = d.free := rfl
@[simp] theorem Dev.updMgmt_readData (f : Mgmt → Mgmt) : (d.updMgmt f).readData = d.readData := rfl
@[simp] theorem Dev.updMgmt_tile_at (f : Mgmt → Mgmt) (i : Nat) : (d.updMgmt f).tile i = d.tile i := rfl
@[simp] theorem Dev.updMgmt_part_at (f : Mgmt → Mgmt) (i : Nat) : (d.updMgmt f).part i = d.part i := rfl
@[simp] theorem Dev.updMgmt_channel_at (f : Mgmt → Mgmt) (i : Nat) : (d.updMgmt f).channel i = d.channel i := rfl
@[simp] theorem Dev.updMgmt_link_at (f : Mgmt → Mgmt) (i : Nat) : (d.updMgmt f).link i = d.link i := rfl
@[simp] theorem Dev.updMgmt_fn_at (f : Mgmt → Mgmt) (i : Nat) : (d.updMgmt f).fn i = d.fn i := rfl

/-! What `updBoot` leaves. -/

@[simp] theorem Dev.updBoot_time (f : Boot → Boot) : (d.updBoot f).time = d.time := rfl
@[simp] theorem Dev.updBoot_stage (f : Boot → Boot) : (d.updBoot f).stage = d.stage := rfl
@[simp] theorem Dev.updBoot_failCause (f : Boot → Boot) : (d.updBoot f).failCause = d.failCause := rfl
@[simp] theorem Dev.updBoot_deviceId (f : Boot → Boot) : (d.updBoot f).deviceId = d.deviceId := rfl
@[simp] theorem Dev.updBoot_deviceFatal (f : Boot → Boot) : (d.updBoot f).deviceFatal = d.deviceFatal := rfl
@[simp] theorem Dev.updBoot_halted (f : Boot → Boot) : (d.updBoot f).halted = d.halted := rfl
@[simp] theorem Dev.updBoot_faultN (f : Boot → Boot) : (d.updBoot f).faultN = d.faultN := rfl
@[simp] theorem Dev.updBoot_enabledGroups (f : Boot → Boot) : (d.updBoot f).enabledGroups = d.enabledGroups := rfl
@[simp] theorem Dev.updBoot_clockCfg (f : Boot → Boot) : (d.updBoot f).clockCfg = d.clockCfg := rfl
@[simp] theorem Dev.updBoot_clockTotals (f : Boot → Boot) : (d.updBoot f).clockTotals = d.clockTotals := rfl
@[simp] theorem Dev.updBoot_tileTotals (f : Boot → Boot) : (d.updBoot f).tileTotals = d.tileTotals := rfl
@[simp] theorem Dev.updBoot_opTotals (f : Boot → Boot) : (d.updBoot f).opTotals = d.opTotals := rfl
@[simp] theorem Dev.updBoot_select (f : Boot → Boot) : (d.updBoot f).select = d.select := rfl
@[simp] theorem Dev.updBoot_log (f : Boot → Boot) : (d.updBoot f).log = d.log := rfl
@[simp] theorem Dev.updBoot_dump (f : Boot → Boot) : (d.updBoot f).dump = d.dump := rfl
@[simp] theorem Dev.updBoot_gasp (f : Boot → Boot) : (d.updBoot f).gasp = d.gasp := rfl
@[simp] theorem Dev.updBoot_tiles (f : Boot → Boot) : (d.updBoot f).tiles = d.tiles := rfl
@[simp] theorem Dev.updBoot_crossings (f : Boot → Boot) : (d.updBoot f).crossings = d.crossings := rfl
@[simp] theorem Dev.updBoot_parts (f : Boot → Boot) : (d.updBoot f).parts = d.parts := rfl
@[simp] theorem Dev.updBoot_mem (f : Boot → Boot) : (d.updBoot f).mem = d.mem := rfl
@[simp] theorem Dev.updBoot_lost (f : Boot → Boot) : (d.updBoot f).lost = d.lost := rfl
@[simp] theorem Dev.updBoot_faults (f : Boot → Boot) : (d.updBoot f).faults = d.faults := rfl
@[simp] theorem Dev.updBoot_channels (f : Boot → Boot) : (d.updBoot f).channels = d.channels := rfl
@[simp] theorem Dev.updBoot_cp (f : Boot → Boot) : (d.updBoot f).cp = d.cp := rfl
@[simp] theorem Dev.updBoot_plannedLandings (f : Boot → Boot) : (d.updBoot f).plannedLandings = d.plannedLandings := rfl
@[simp] theorem Dev.updBoot_scrubs (f : Boot → Boot) : (d.updBoot f).scrubs = d.scrubs := rfl
@[simp] theorem Dev.updBoot_accessSeq (f : Boot → Boot) : (d.updBoot f).accessSeq = d.accessSeq := rfl
@[simp] theorem Dev.updBoot_memTotals (f : Boot → Boot) : (d.updBoot f).memTotals = d.memTotals := rfl
@[simp] theorem Dev.updBoot_integrity (f : Boot → Boot) : (d.updBoot f).integrity = d.integrity := rfl
@[simp] theorem Dev.updBoot_links (f : Boot → Boot) : (d.updBoot f).links = d.links := rfl
@[simp] theorem Dev.updBoot_router (f : Boot → Boot) : (d.updBoot f).router = d.router := rfl
@[simp] theorem Dev.updBoot_noticesIn (f : Boot → Boot) : (d.updBoot f).noticesIn = d.noticesIn := rfl
@[simp] theorem Dev.updBoot_sync (f : Boot → Boot) : (d.updBoot f).sync = d.sync := rfl
@[simp] theorem Dev.updBoot_fns (f : Boot → Boot) : (d.updBoot f).fns = d.fns := rfl
@[simp] theorem Dev.updBoot_commands (f : Boot → Boot) : (d.updBoot f).commands = d.commands := rfl
@[simp] theorem Dev.updBoot_hostTotals (f : Boot → Boot) : (d.updBoot f).hostTotals = d.hostTotals := rfl
@[simp] theorem Dev.updBoot_pcie (f : Boot → Boot) : (d.updBoot f).pcie = d.pcie := rfl
@[simp] theorem Dev.updBoot_hostMem (f : Boot → Boot) : (d.updBoot f).hostMem = d.hostMem := rfl
@[simp] theorem Dev.updBoot_weightTotals (f : Boot → Boot) : (d.updBoot f).weightTotals = d.weightTotals := rfl
@[simp] theorem Dev.updBoot_serveTotals (f : Boot → Boot) : (d.updBoot f).serveTotals = d.serveTotals := rfl
@[simp] theorem Dev.updBoot_power (f : Boot → Boot) : (d.updBoot f).power = d.power := rfl
@[simp] theorem Dev.updBoot_fuses (f : Boot → Boot) : (d.updBoot f).fuses = d.fuses := rfl
@[simp] theorem Dev.updBoot_mgmt (f : Boot → Boot) : (d.updBoot f).mgmt = d.mgmt := rfl
@[simp] theorem Dev.updBoot_capGib (f : Boot → Boot) : (d.updBoot f).capGib = d.capGib := rfl
@[simp] theorem Dev.updBoot_fusing (f : Boot → Boot) : (d.updBoot f).fusing = d.fusing := rfl
@[simp] theorem Dev.updBoot_grade (f : Boot → Boot) : (d.updBoot f).grade = d.grade := rfl
@[simp] theorem Dev.updBoot_fwVersion (f : Boot → Boot) : (d.updBoot f).fwVersion = d.fwVersion := rfl
@[simp] theorem Dev.updBoot_fwRunning (f : Boot → Boot) : (d.updBoot f).fwRunning = d.fwRunning := rfl
@[simp] theorem Dev.updBoot_free (f : Boot → Boot) : (d.updBoot f).free = d.free := rfl
@[simp] theorem Dev.updBoot_readData (f : Boot → Boot) : (d.updBoot f).readData = d.readData := rfl
@[simp] theorem Dev.updBoot_tile_at (f : Boot → Boot) (i : Nat) : (d.updBoot f).tile i = d.tile i := rfl
@[simp] theorem Dev.updBoot_part_at (f : Boot → Boot) (i : Nat) : (d.updBoot f).part i = d.part i := rfl
@[simp] theorem Dev.updBoot_channel_at (f : Boot → Boot) (i : Nat) : (d.updBoot f).channel i = d.channel i := rfl
@[simp] theorem Dev.updBoot_link_at (f : Boot → Boot) (i : Nat) : (d.updBoot f).link i = d.link i := rfl
@[simp] theorem Dev.updBoot_fn_at (f : Boot → Boot) (i : Nat) : (d.updBoot f).fn i = d.fn i := rfl

/-! What `updWt` leaves. -/

@[simp] theorem Dev.updWt_time (f : WeightTotals → WeightTotals) : (d.updWt f).time = d.time := rfl
@[simp] theorem Dev.updWt_stage (f : WeightTotals → WeightTotals) : (d.updWt f).stage = d.stage := rfl
@[simp] theorem Dev.updWt_failCause (f : WeightTotals → WeightTotals) : (d.updWt f).failCause = d.failCause := rfl
@[simp] theorem Dev.updWt_deviceId (f : WeightTotals → WeightTotals) : (d.updWt f).deviceId = d.deviceId := rfl
@[simp] theorem Dev.updWt_deviceFatal (f : WeightTotals → WeightTotals) : (d.updWt f).deviceFatal = d.deviceFatal := rfl
@[simp] theorem Dev.updWt_halted (f : WeightTotals → WeightTotals) : (d.updWt f).halted = d.halted := rfl
@[simp] theorem Dev.updWt_faultN (f : WeightTotals → WeightTotals) : (d.updWt f).faultN = d.faultN := rfl
@[simp] theorem Dev.updWt_enabledGroups (f : WeightTotals → WeightTotals) : (d.updWt f).enabledGroups = d.enabledGroups := rfl
@[simp] theorem Dev.updWt_clockCfg (f : WeightTotals → WeightTotals) : (d.updWt f).clockCfg = d.clockCfg := rfl
@[simp] theorem Dev.updWt_clockTotals (f : WeightTotals → WeightTotals) : (d.updWt f).clockTotals = d.clockTotals := rfl
@[simp] theorem Dev.updWt_tileTotals (f : WeightTotals → WeightTotals) : (d.updWt f).tileTotals = d.tileTotals := rfl
@[simp] theorem Dev.updWt_opTotals (f : WeightTotals → WeightTotals) : (d.updWt f).opTotals = d.opTotals := rfl
@[simp] theorem Dev.updWt_select (f : WeightTotals → WeightTotals) : (d.updWt f).select = d.select := rfl
@[simp] theorem Dev.updWt_log (f : WeightTotals → WeightTotals) : (d.updWt f).log = d.log := rfl
@[simp] theorem Dev.updWt_dump (f : WeightTotals → WeightTotals) : (d.updWt f).dump = d.dump := rfl
@[simp] theorem Dev.updWt_gasp (f : WeightTotals → WeightTotals) : (d.updWt f).gasp = d.gasp := rfl
@[simp] theorem Dev.updWt_tiles (f : WeightTotals → WeightTotals) : (d.updWt f).tiles = d.tiles := rfl
@[simp] theorem Dev.updWt_crossings (f : WeightTotals → WeightTotals) : (d.updWt f).crossings = d.crossings := rfl
@[simp] theorem Dev.updWt_parts (f : WeightTotals → WeightTotals) : (d.updWt f).parts = d.parts := rfl
@[simp] theorem Dev.updWt_mem (f : WeightTotals → WeightTotals) : (d.updWt f).mem = d.mem := rfl
@[simp] theorem Dev.updWt_lost (f : WeightTotals → WeightTotals) : (d.updWt f).lost = d.lost := rfl
@[simp] theorem Dev.updWt_faults (f : WeightTotals → WeightTotals) : (d.updWt f).faults = d.faults := rfl
@[simp] theorem Dev.updWt_channels (f : WeightTotals → WeightTotals) : (d.updWt f).channels = d.channels := rfl
@[simp] theorem Dev.updWt_cp (f : WeightTotals → WeightTotals) : (d.updWt f).cp = d.cp := rfl
@[simp] theorem Dev.updWt_plannedLandings (f : WeightTotals → WeightTotals) : (d.updWt f).plannedLandings = d.plannedLandings := rfl
@[simp] theorem Dev.updWt_scrubs (f : WeightTotals → WeightTotals) : (d.updWt f).scrubs = d.scrubs := rfl
@[simp] theorem Dev.updWt_accessSeq (f : WeightTotals → WeightTotals) : (d.updWt f).accessSeq = d.accessSeq := rfl
@[simp] theorem Dev.updWt_memTotals (f : WeightTotals → WeightTotals) : (d.updWt f).memTotals = d.memTotals := rfl
@[simp] theorem Dev.updWt_integrity (f : WeightTotals → WeightTotals) : (d.updWt f).integrity = d.integrity := rfl
@[simp] theorem Dev.updWt_links (f : WeightTotals → WeightTotals) : (d.updWt f).links = d.links := rfl
@[simp] theorem Dev.updWt_router (f : WeightTotals → WeightTotals) : (d.updWt f).router = d.router := rfl
@[simp] theorem Dev.updWt_noticesIn (f : WeightTotals → WeightTotals) : (d.updWt f).noticesIn = d.noticesIn := rfl
@[simp] theorem Dev.updWt_sync (f : WeightTotals → WeightTotals) : (d.updWt f).sync = d.sync := rfl
@[simp] theorem Dev.updWt_fns (f : WeightTotals → WeightTotals) : (d.updWt f).fns = d.fns := rfl
@[simp] theorem Dev.updWt_commands (f : WeightTotals → WeightTotals) : (d.updWt f).commands = d.commands := rfl
@[simp] theorem Dev.updWt_hostTotals (f : WeightTotals → WeightTotals) : (d.updWt f).hostTotals = d.hostTotals := rfl
@[simp] theorem Dev.updWt_pcie (f : WeightTotals → WeightTotals) : (d.updWt f).pcie = d.pcie := rfl
@[simp] theorem Dev.updWt_hostMem (f : WeightTotals → WeightTotals) : (d.updWt f).hostMem = d.hostMem := rfl
@[simp] theorem Dev.updWt_serveTotals (f : WeightTotals → WeightTotals) : (d.updWt f).serveTotals = d.serveTotals := rfl
@[simp] theorem Dev.updWt_power (f : WeightTotals → WeightTotals) : (d.updWt f).power = d.power := rfl
@[simp] theorem Dev.updWt_fuses (f : WeightTotals → WeightTotals) : (d.updWt f).fuses = d.fuses := rfl
@[simp] theorem Dev.updWt_mgmt (f : WeightTotals → WeightTotals) : (d.updWt f).mgmt = d.mgmt := rfl
@[simp] theorem Dev.updWt_boot (f : WeightTotals → WeightTotals) : (d.updWt f).boot = d.boot := rfl
@[simp] theorem Dev.updWt_capGib (f : WeightTotals → WeightTotals) : (d.updWt f).capGib = d.capGib := rfl
@[simp] theorem Dev.updWt_fusing (f : WeightTotals → WeightTotals) : (d.updWt f).fusing = d.fusing := rfl
@[simp] theorem Dev.updWt_grade (f : WeightTotals → WeightTotals) : (d.updWt f).grade = d.grade := rfl
@[simp] theorem Dev.updWt_fwVersion (f : WeightTotals → WeightTotals) : (d.updWt f).fwVersion = d.fwVersion := rfl
@[simp] theorem Dev.updWt_fwRunning (f : WeightTotals → WeightTotals) : (d.updWt f).fwRunning = d.fwRunning := rfl
@[simp] theorem Dev.updWt_free (f : WeightTotals → WeightTotals) : (d.updWt f).free = d.free := rfl
@[simp] theorem Dev.updWt_readData (f : WeightTotals → WeightTotals) : (d.updWt f).readData = d.readData := rfl
@[simp] theorem Dev.updWt_tile_at (f : WeightTotals → WeightTotals) (i : Nat) : (d.updWt f).tile i = d.tile i := rfl
@[simp] theorem Dev.updWt_part_at (f : WeightTotals → WeightTotals) (i : Nat) : (d.updWt f).part i = d.part i := rfl
@[simp] theorem Dev.updWt_channel_at (f : WeightTotals → WeightTotals) (i : Nat) : (d.updWt f).channel i = d.channel i := rfl
@[simp] theorem Dev.updWt_link_at (f : WeightTotals → WeightTotals) (i : Nat) : (d.updWt f).link i = d.link i := rfl
@[simp] theorem Dev.updWt_fn_at (f : WeightTotals → WeightTotals) (i : Nat) : (d.updWt f).fn i = d.fn i := rfl

/-! What `updSt` leaves. -/

@[simp] theorem Dev.updSt_time (f : ServeTotals → ServeTotals) : (d.updSt f).time = d.time := rfl
@[simp] theorem Dev.updSt_stage (f : ServeTotals → ServeTotals) : (d.updSt f).stage = d.stage := rfl
@[simp] theorem Dev.updSt_failCause (f : ServeTotals → ServeTotals) : (d.updSt f).failCause = d.failCause := rfl
@[simp] theorem Dev.updSt_deviceId (f : ServeTotals → ServeTotals) : (d.updSt f).deviceId = d.deviceId := rfl
@[simp] theorem Dev.updSt_deviceFatal (f : ServeTotals → ServeTotals) : (d.updSt f).deviceFatal = d.deviceFatal := rfl
@[simp] theorem Dev.updSt_halted (f : ServeTotals → ServeTotals) : (d.updSt f).halted = d.halted := rfl
@[simp] theorem Dev.updSt_faultN (f : ServeTotals → ServeTotals) : (d.updSt f).faultN = d.faultN := rfl
@[simp] theorem Dev.updSt_enabledGroups (f : ServeTotals → ServeTotals) : (d.updSt f).enabledGroups = d.enabledGroups := rfl
@[simp] theorem Dev.updSt_clockCfg (f : ServeTotals → ServeTotals) : (d.updSt f).clockCfg = d.clockCfg := rfl
@[simp] theorem Dev.updSt_clockTotals (f : ServeTotals → ServeTotals) : (d.updSt f).clockTotals = d.clockTotals := rfl
@[simp] theorem Dev.updSt_tileTotals (f : ServeTotals → ServeTotals) : (d.updSt f).tileTotals = d.tileTotals := rfl
@[simp] theorem Dev.updSt_opTotals (f : ServeTotals → ServeTotals) : (d.updSt f).opTotals = d.opTotals := rfl
@[simp] theorem Dev.updSt_select (f : ServeTotals → ServeTotals) : (d.updSt f).select = d.select := rfl
@[simp] theorem Dev.updSt_log (f : ServeTotals → ServeTotals) : (d.updSt f).log = d.log := rfl
@[simp] theorem Dev.updSt_dump (f : ServeTotals → ServeTotals) : (d.updSt f).dump = d.dump := rfl
@[simp] theorem Dev.updSt_gasp (f : ServeTotals → ServeTotals) : (d.updSt f).gasp = d.gasp := rfl
@[simp] theorem Dev.updSt_tiles (f : ServeTotals → ServeTotals) : (d.updSt f).tiles = d.tiles := rfl
@[simp] theorem Dev.updSt_crossings (f : ServeTotals → ServeTotals) : (d.updSt f).crossings = d.crossings := rfl
@[simp] theorem Dev.updSt_parts (f : ServeTotals → ServeTotals) : (d.updSt f).parts = d.parts := rfl
@[simp] theorem Dev.updSt_mem (f : ServeTotals → ServeTotals) : (d.updSt f).mem = d.mem := rfl
@[simp] theorem Dev.updSt_lost (f : ServeTotals → ServeTotals) : (d.updSt f).lost = d.lost := rfl
@[simp] theorem Dev.updSt_faults (f : ServeTotals → ServeTotals) : (d.updSt f).faults = d.faults := rfl
@[simp] theorem Dev.updSt_channels (f : ServeTotals → ServeTotals) : (d.updSt f).channels = d.channels := rfl
@[simp] theorem Dev.updSt_cp (f : ServeTotals → ServeTotals) : (d.updSt f).cp = d.cp := rfl
@[simp] theorem Dev.updSt_plannedLandings (f : ServeTotals → ServeTotals) : (d.updSt f).plannedLandings = d.plannedLandings := rfl
@[simp] theorem Dev.updSt_scrubs (f : ServeTotals → ServeTotals) : (d.updSt f).scrubs = d.scrubs := rfl
@[simp] theorem Dev.updSt_accessSeq (f : ServeTotals → ServeTotals) : (d.updSt f).accessSeq = d.accessSeq := rfl
@[simp] theorem Dev.updSt_memTotals (f : ServeTotals → ServeTotals) : (d.updSt f).memTotals = d.memTotals := rfl
@[simp] theorem Dev.updSt_integrity (f : ServeTotals → ServeTotals) : (d.updSt f).integrity = d.integrity := rfl
@[simp] theorem Dev.updSt_links (f : ServeTotals → ServeTotals) : (d.updSt f).links = d.links := rfl
@[simp] theorem Dev.updSt_router (f : ServeTotals → ServeTotals) : (d.updSt f).router = d.router := rfl
@[simp] theorem Dev.updSt_noticesIn (f : ServeTotals → ServeTotals) : (d.updSt f).noticesIn = d.noticesIn := rfl
@[simp] theorem Dev.updSt_sync (f : ServeTotals → ServeTotals) : (d.updSt f).sync = d.sync := rfl
@[simp] theorem Dev.updSt_fns (f : ServeTotals → ServeTotals) : (d.updSt f).fns = d.fns := rfl
@[simp] theorem Dev.updSt_commands (f : ServeTotals → ServeTotals) : (d.updSt f).commands = d.commands := rfl
@[simp] theorem Dev.updSt_hostTotals (f : ServeTotals → ServeTotals) : (d.updSt f).hostTotals = d.hostTotals := rfl
@[simp] theorem Dev.updSt_pcie (f : ServeTotals → ServeTotals) : (d.updSt f).pcie = d.pcie := rfl
@[simp] theorem Dev.updSt_hostMem (f : ServeTotals → ServeTotals) : (d.updSt f).hostMem = d.hostMem := rfl
@[simp] theorem Dev.updSt_weightTotals (f : ServeTotals → ServeTotals) : (d.updSt f).weightTotals = d.weightTotals := rfl
@[simp] theorem Dev.updSt_power (f : ServeTotals → ServeTotals) : (d.updSt f).power = d.power := rfl
@[simp] theorem Dev.updSt_fuses (f : ServeTotals → ServeTotals) : (d.updSt f).fuses = d.fuses := rfl
@[simp] theorem Dev.updSt_mgmt (f : ServeTotals → ServeTotals) : (d.updSt f).mgmt = d.mgmt := rfl
@[simp] theorem Dev.updSt_boot (f : ServeTotals → ServeTotals) : (d.updSt f).boot = d.boot := rfl
@[simp] theorem Dev.updSt_capGib (f : ServeTotals → ServeTotals) : (d.updSt f).capGib = d.capGib := rfl
@[simp] theorem Dev.updSt_fusing (f : ServeTotals → ServeTotals) : (d.updSt f).fusing = d.fusing := rfl
@[simp] theorem Dev.updSt_grade (f : ServeTotals → ServeTotals) : (d.updSt f).grade = d.grade := rfl
@[simp] theorem Dev.updSt_fwVersion (f : ServeTotals → ServeTotals) : (d.updSt f).fwVersion = d.fwVersion := rfl
@[simp] theorem Dev.updSt_fwRunning (f : ServeTotals → ServeTotals) : (d.updSt f).fwRunning = d.fwRunning := rfl
@[simp] theorem Dev.updSt_free (f : ServeTotals → ServeTotals) : (d.updSt f).free = d.free := rfl
@[simp] theorem Dev.updSt_readData (f : ServeTotals → ServeTotals) : (d.updSt f).readData = d.readData := rfl
@[simp] theorem Dev.updSt_tile_at (f : ServeTotals → ServeTotals) (i : Nat) : (d.updSt f).tile i = d.tile i := rfl
@[simp] theorem Dev.updSt_part_at (f : ServeTotals → ServeTotals) (i : Nat) : (d.updSt f).part i = d.part i := rfl
@[simp] theorem Dev.updSt_channel_at (f : ServeTotals → ServeTotals) (i : Nat) : (d.updSt f).channel i = d.channel i := rfl
@[simp] theorem Dev.updSt_link_at (f : ServeTotals → ServeTotals) (i : Nat) : (d.updSt f).link i = d.link i := rfl
@[simp] theorem Dev.updSt_fn_at (f : ServeTotals → ServeTotals) (i : Nat) : (d.updSt f).fn i = d.fn i := rfl

/-! What `updCore` leaves. -/

@[simp] theorem Dev.updCore_time (t : Nat) (f : Core → Core) : (d.updCore t f).time = d.time := rfl
@[simp] theorem Dev.updCore_stage (t : Nat) (f : Core → Core) : (d.updCore t f).stage = d.stage := rfl
@[simp] theorem Dev.updCore_failCause (t : Nat) (f : Core → Core) : (d.updCore t f).failCause = d.failCause := rfl
@[simp] theorem Dev.updCore_deviceId (t : Nat) (f : Core → Core) : (d.updCore t f).deviceId = d.deviceId := rfl
@[simp] theorem Dev.updCore_deviceFatal (t : Nat) (f : Core → Core) : (d.updCore t f).deviceFatal = d.deviceFatal := rfl
@[simp] theorem Dev.updCore_halted (t : Nat) (f : Core → Core) : (d.updCore t f).halted = d.halted := rfl
@[simp] theorem Dev.updCore_faultN (t : Nat) (f : Core → Core) : (d.updCore t f).faultN = d.faultN := rfl
@[simp] theorem Dev.updCore_enabledGroups (t : Nat) (f : Core → Core) : (d.updCore t f).enabledGroups = d.enabledGroups := rfl
@[simp] theorem Dev.updCore_clockCfg (t : Nat) (f : Core → Core) : (d.updCore t f).clockCfg = d.clockCfg := rfl
@[simp] theorem Dev.updCore_clockTotals (t : Nat) (f : Core → Core) : (d.updCore t f).clockTotals = d.clockTotals := rfl
@[simp] theorem Dev.updCore_tileTotals (t : Nat) (f : Core → Core) : (d.updCore t f).tileTotals = d.tileTotals := rfl
@[simp] theorem Dev.updCore_opTotals (t : Nat) (f : Core → Core) : (d.updCore t f).opTotals = d.opTotals := rfl
@[simp] theorem Dev.updCore_select (t : Nat) (f : Core → Core) : (d.updCore t f).select = d.select := rfl
@[simp] theorem Dev.updCore_log (t : Nat) (f : Core → Core) : (d.updCore t f).log = d.log := rfl
@[simp] theorem Dev.updCore_dump (t : Nat) (f : Core → Core) : (d.updCore t f).dump = d.dump := rfl
@[simp] theorem Dev.updCore_gasp (t : Nat) (f : Core → Core) : (d.updCore t f).gasp = d.gasp := rfl
@[simp] theorem Dev.updCore_crossings (t : Nat) (f : Core → Core) : (d.updCore t f).crossings = d.crossings := rfl
@[simp] theorem Dev.updCore_parts (t : Nat) (f : Core → Core) : (d.updCore t f).parts = d.parts := rfl
@[simp] theorem Dev.updCore_mem (t : Nat) (f : Core → Core) : (d.updCore t f).mem = d.mem := rfl
@[simp] theorem Dev.updCore_lost (t : Nat) (f : Core → Core) : (d.updCore t f).lost = d.lost := rfl
@[simp] theorem Dev.updCore_faults (t : Nat) (f : Core → Core) : (d.updCore t f).faults = d.faults := rfl
@[simp] theorem Dev.updCore_channels (t : Nat) (f : Core → Core) : (d.updCore t f).channels = d.channels := rfl
@[simp] theorem Dev.updCore_cp (t : Nat) (f : Core → Core) : (d.updCore t f).cp = d.cp := rfl
@[simp] theorem Dev.updCore_plannedLandings (t : Nat) (f : Core → Core) : (d.updCore t f).plannedLandings = d.plannedLandings := rfl
@[simp] theorem Dev.updCore_scrubs (t : Nat) (f : Core → Core) : (d.updCore t f).scrubs = d.scrubs := rfl
@[simp] theorem Dev.updCore_accessSeq (t : Nat) (f : Core → Core) : (d.updCore t f).accessSeq = d.accessSeq := rfl
@[simp] theorem Dev.updCore_memTotals (t : Nat) (f : Core → Core) : (d.updCore t f).memTotals = d.memTotals := rfl
@[simp] theorem Dev.updCore_integrity (t : Nat) (f : Core → Core) : (d.updCore t f).integrity = d.integrity := rfl
@[simp] theorem Dev.updCore_links (t : Nat) (f : Core → Core) : (d.updCore t f).links = d.links := rfl
@[simp] theorem Dev.updCore_router (t : Nat) (f : Core → Core) : (d.updCore t f).router = d.router := rfl
@[simp] theorem Dev.updCore_noticesIn (t : Nat) (f : Core → Core) : (d.updCore t f).noticesIn = d.noticesIn := rfl
@[simp] theorem Dev.updCore_sync (t : Nat) (f : Core → Core) : (d.updCore t f).sync = d.sync := rfl
@[simp] theorem Dev.updCore_fns (t : Nat) (f : Core → Core) : (d.updCore t f).fns = d.fns := rfl
@[simp] theorem Dev.updCore_commands (t : Nat) (f : Core → Core) : (d.updCore t f).commands = d.commands := rfl
@[simp] theorem Dev.updCore_hostTotals (t : Nat) (f : Core → Core) : (d.updCore t f).hostTotals = d.hostTotals := rfl
@[simp] theorem Dev.updCore_pcie (t : Nat) (f : Core → Core) : (d.updCore t f).pcie = d.pcie := rfl
@[simp] theorem Dev.updCore_hostMem (t : Nat) (f : Core → Core) : (d.updCore t f).hostMem = d.hostMem := rfl
@[simp] theorem Dev.updCore_weightTotals (t : Nat) (f : Core → Core) : (d.updCore t f).weightTotals = d.weightTotals := rfl
@[simp] theorem Dev.updCore_serveTotals (t : Nat) (f : Core → Core) : (d.updCore t f).serveTotals = d.serveTotals := rfl
@[simp] theorem Dev.updCore_power (t : Nat) (f : Core → Core) : (d.updCore t f).power = d.power := rfl
@[simp] theorem Dev.updCore_fuses (t : Nat) (f : Core → Core) : (d.updCore t f).fuses = d.fuses := rfl
@[simp] theorem Dev.updCore_mgmt (t : Nat) (f : Core → Core) : (d.updCore t f).mgmt = d.mgmt := rfl
@[simp] theorem Dev.updCore_boot (t : Nat) (f : Core → Core) : (d.updCore t f).boot = d.boot := rfl
@[simp] theorem Dev.updCore_capGib (t : Nat) (f : Core → Core) : (d.updCore t f).capGib = d.capGib := rfl
@[simp] theorem Dev.updCore_fusing (t : Nat) (f : Core → Core) : (d.updCore t f).fusing = d.fusing := rfl
@[simp] theorem Dev.updCore_grade (t : Nat) (f : Core → Core) : (d.updCore t f).grade = d.grade := rfl
@[simp] theorem Dev.updCore_fwVersion (t : Nat) (f : Core → Core) : (d.updCore t f).fwVersion = d.fwVersion := rfl
@[simp] theorem Dev.updCore_fwRunning (t : Nat) (f : Core → Core) : (d.updCore t f).fwRunning = d.fwRunning := rfl
@[simp] theorem Dev.updCore_free (t : Nat) (f : Core → Core) : (d.updCore t f).free = d.free := rfl
@[simp] theorem Dev.updCore_readData (t : Nat) (f : Core → Core) : (d.updCore t f).readData = d.readData := rfl
@[simp] theorem Dev.updCore_part_at (t : Nat) (f : Core → Core) (i : Nat) : (d.updCore t f).part i = d.part i := rfl
@[simp] theorem Dev.updCore_channel_at (t : Nat) (f : Core → Core) (i : Nat) : (d.updCore t f).channel i = d.channel i := rfl
@[simp] theorem Dev.updCore_link_at (t : Nat) (f : Core → Core) (i : Nat) : (d.updCore t f).link i = d.link i := rfl
@[simp] theorem Dev.updCore_fn_at (t : Nat) (f : Core → Core) (i : Nat) : (d.updCore t f).fn i = d.fn i := rfl

/-! What `updTime` leaves. -/

@[simp] theorem Dev.updTime_time (k : Nat) (f : PartTime → PartTime) : (d.updTime k f).time = d.time := rfl
@[simp] theorem Dev.updTime_stage (k : Nat) (f : PartTime → PartTime) : (d.updTime k f).stage = d.stage := rfl
@[simp] theorem Dev.updTime_failCause (k : Nat) (f : PartTime → PartTime) : (d.updTime k f).failCause = d.failCause := rfl
@[simp] theorem Dev.updTime_deviceId (k : Nat) (f : PartTime → PartTime) : (d.updTime k f).deviceId = d.deviceId := rfl
@[simp] theorem Dev.updTime_deviceFatal (k : Nat) (f : PartTime → PartTime) : (d.updTime k f).deviceFatal = d.deviceFatal := rfl
@[simp] theorem Dev.updTime_halted (k : Nat) (f : PartTime → PartTime) : (d.updTime k f).halted = d.halted := rfl
@[simp] theorem Dev.updTime_faultN (k : Nat) (f : PartTime → PartTime) : (d.updTime k f).faultN = d.faultN := rfl
@[simp] theorem Dev.updTime_enabledGroups (k : Nat) (f : PartTime → PartTime) : (d.updTime k f).enabledGroups = d.enabledGroups := rfl
@[simp] theorem Dev.updTime_clockCfg (k : Nat) (f : PartTime → PartTime) : (d.updTime k f).clockCfg = d.clockCfg := rfl
@[simp] theorem Dev.updTime_clockTotals (k : Nat) (f : PartTime → PartTime) : (d.updTime k f).clockTotals = d.clockTotals := rfl
@[simp] theorem Dev.updTime_tileTotals (k : Nat) (f : PartTime → PartTime) : (d.updTime k f).tileTotals = d.tileTotals := rfl
@[simp] theorem Dev.updTime_opTotals (k : Nat) (f : PartTime → PartTime) : (d.updTime k f).opTotals = d.opTotals := rfl
@[simp] theorem Dev.updTime_select (k : Nat) (f : PartTime → PartTime) : (d.updTime k f).select = d.select := rfl
@[simp] theorem Dev.updTime_log (k : Nat) (f : PartTime → PartTime) : (d.updTime k f).log = d.log := rfl
@[simp] theorem Dev.updTime_dump (k : Nat) (f : PartTime → PartTime) : (d.updTime k f).dump = d.dump := rfl
@[simp] theorem Dev.updTime_gasp (k : Nat) (f : PartTime → PartTime) : (d.updTime k f).gasp = d.gasp := rfl
@[simp] theorem Dev.updTime_tiles (k : Nat) (f : PartTime → PartTime) : (d.updTime k f).tiles = d.tiles := rfl
@[simp] theorem Dev.updTime_crossings (k : Nat) (f : PartTime → PartTime) : (d.updTime k f).crossings = d.crossings := rfl
@[simp] theorem Dev.updTime_mem (k : Nat) (f : PartTime → PartTime) : (d.updTime k f).mem = d.mem := rfl
@[simp] theorem Dev.updTime_lost (k : Nat) (f : PartTime → PartTime) : (d.updTime k f).lost = d.lost := rfl
@[simp] theorem Dev.updTime_faults (k : Nat) (f : PartTime → PartTime) : (d.updTime k f).faults = d.faults := rfl
@[simp] theorem Dev.updTime_channels (k : Nat) (f : PartTime → PartTime) : (d.updTime k f).channels = d.channels := rfl
@[simp] theorem Dev.updTime_cp (k : Nat) (f : PartTime → PartTime) : (d.updTime k f).cp = d.cp := rfl
@[simp] theorem Dev.updTime_plannedLandings (k : Nat) (f : PartTime → PartTime) : (d.updTime k f).plannedLandings = d.plannedLandings := rfl
@[simp] theorem Dev.updTime_scrubs (k : Nat) (f : PartTime → PartTime) : (d.updTime k f).scrubs = d.scrubs := rfl
@[simp] theorem Dev.updTime_accessSeq (k : Nat) (f : PartTime → PartTime) : (d.updTime k f).accessSeq = d.accessSeq := rfl
@[simp] theorem Dev.updTime_memTotals (k : Nat) (f : PartTime → PartTime) : (d.updTime k f).memTotals = d.memTotals := rfl
@[simp] theorem Dev.updTime_integrity (k : Nat) (f : PartTime → PartTime) : (d.updTime k f).integrity = d.integrity := rfl
@[simp] theorem Dev.updTime_links (k : Nat) (f : PartTime → PartTime) : (d.updTime k f).links = d.links := rfl
@[simp] theorem Dev.updTime_router (k : Nat) (f : PartTime → PartTime) : (d.updTime k f).router = d.router := rfl
@[simp] theorem Dev.updTime_noticesIn (k : Nat) (f : PartTime → PartTime) : (d.updTime k f).noticesIn = d.noticesIn := rfl
@[simp] theorem Dev.updTime_sync (k : Nat) (f : PartTime → PartTime) : (d.updTime k f).sync = d.sync := rfl
@[simp] theorem Dev.updTime_fns (k : Nat) (f : PartTime → PartTime) : (d.updTime k f).fns = d.fns := rfl
@[simp] theorem Dev.updTime_commands (k : Nat) (f : PartTime → PartTime) : (d.updTime k f).commands = d.commands := rfl
@[simp] theorem Dev.updTime_hostTotals (k : Nat) (f : PartTime → PartTime) : (d.updTime k f).hostTotals = d.hostTotals := rfl
@[simp] theorem Dev.updTime_pcie (k : Nat) (f : PartTime → PartTime) : (d.updTime k f).pcie = d.pcie := rfl
@[simp] theorem Dev.updTime_hostMem (k : Nat) (f : PartTime → PartTime) : (d.updTime k f).hostMem = d.hostMem := rfl
@[simp] theorem Dev.updTime_weightTotals (k : Nat) (f : PartTime → PartTime) : (d.updTime k f).weightTotals = d.weightTotals := rfl
@[simp] theorem Dev.updTime_serveTotals (k : Nat) (f : PartTime → PartTime) : (d.updTime k f).serveTotals = d.serveTotals := rfl
@[simp] theorem Dev.updTime_power (k : Nat) (f : PartTime → PartTime) : (d.updTime k f).power = d.power := rfl
@[simp] theorem Dev.updTime_fuses (k : Nat) (f : PartTime → PartTime) : (d.updTime k f).fuses = d.fuses := rfl
@[simp] theorem Dev.updTime_mgmt (k : Nat) (f : PartTime → PartTime) : (d.updTime k f).mgmt = d.mgmt := rfl
@[simp] theorem Dev.updTime_boot (k : Nat) (f : PartTime → PartTime) : (d.updTime k f).boot = d.boot := rfl
@[simp] theorem Dev.updTime_capGib (k : Nat) (f : PartTime → PartTime) : (d.updTime k f).capGib = d.capGib := rfl
@[simp] theorem Dev.updTime_fusing (k : Nat) (f : PartTime → PartTime) : (d.updTime k f).fusing = d.fusing := rfl
@[simp] theorem Dev.updTime_grade (k : Nat) (f : PartTime → PartTime) : (d.updTime k f).grade = d.grade := rfl
@[simp] theorem Dev.updTime_fwVersion (k : Nat) (f : PartTime → PartTime) : (d.updTime k f).fwVersion = d.fwVersion := rfl
@[simp] theorem Dev.updTime_fwRunning (k : Nat) (f : PartTime → PartTime) : (d.updTime k f).fwRunning = d.fwRunning := rfl
@[simp] theorem Dev.updTime_free (k : Nat) (f : PartTime → PartTime) : (d.updTime k f).free = d.free := rfl
@[simp] theorem Dev.updTime_readData (k : Nat) (f : PartTime → PartTime) : (d.updTime k f).readData = d.readData := rfl
@[simp] theorem Dev.updTime_tile_at (k : Nat) (f : PartTime → PartTime) (i : Nat) : (d.updTime k f).tile i = d.tile i := rfl
@[simp] theorem Dev.updTime_channel_at (k : Nat) (f : PartTime → PartTime) (i : Nat) : (d.updTime k f).channel i = d.channel i := rfl
@[simp] theorem Dev.updTime_link_at (k : Nat) (f : PartTime → PartTime) (i : Nat) : (d.updTime k f).link i = d.link i := rfl
@[simp] theorem Dev.updTime_fn_at (k : Nat) (f : PartTime → PartTime) (i : Nat) : (d.updTime k f).fn i = d.fn i := rfl

/-! What `updPlan` leaves. -/

@[simp] theorem Dev.updPlan_time (k : Nat) (f : PlanState → PlanState) : (d.updPlan k f).time = d.time := rfl
@[simp] theorem Dev.updPlan_stage (k : Nat) (f : PlanState → PlanState) : (d.updPlan k f).stage = d.stage := rfl
@[simp] theorem Dev.updPlan_failCause (k : Nat) (f : PlanState → PlanState) : (d.updPlan k f).failCause = d.failCause := rfl
@[simp] theorem Dev.updPlan_deviceId (k : Nat) (f : PlanState → PlanState) : (d.updPlan k f).deviceId = d.deviceId := rfl
@[simp] theorem Dev.updPlan_deviceFatal (k : Nat) (f : PlanState → PlanState) : (d.updPlan k f).deviceFatal = d.deviceFatal := rfl
@[simp] theorem Dev.updPlan_halted (k : Nat) (f : PlanState → PlanState) : (d.updPlan k f).halted = d.halted := rfl
@[simp] theorem Dev.updPlan_faultN (k : Nat) (f : PlanState → PlanState) : (d.updPlan k f).faultN = d.faultN := rfl
@[simp] theorem Dev.updPlan_enabledGroups (k : Nat) (f : PlanState → PlanState) : (d.updPlan k f).enabledGroups = d.enabledGroups := rfl
@[simp] theorem Dev.updPlan_clockCfg (k : Nat) (f : PlanState → PlanState) : (d.updPlan k f).clockCfg = d.clockCfg := rfl
@[simp] theorem Dev.updPlan_clockTotals (k : Nat) (f : PlanState → PlanState) : (d.updPlan k f).clockTotals = d.clockTotals := rfl
@[simp] theorem Dev.updPlan_tileTotals (k : Nat) (f : PlanState → PlanState) : (d.updPlan k f).tileTotals = d.tileTotals := rfl
@[simp] theorem Dev.updPlan_opTotals (k : Nat) (f : PlanState → PlanState) : (d.updPlan k f).opTotals = d.opTotals := rfl
@[simp] theorem Dev.updPlan_select (k : Nat) (f : PlanState → PlanState) : (d.updPlan k f).select = d.select := rfl
@[simp] theorem Dev.updPlan_log (k : Nat) (f : PlanState → PlanState) : (d.updPlan k f).log = d.log := rfl
@[simp] theorem Dev.updPlan_dump (k : Nat) (f : PlanState → PlanState) : (d.updPlan k f).dump = d.dump := rfl
@[simp] theorem Dev.updPlan_gasp (k : Nat) (f : PlanState → PlanState) : (d.updPlan k f).gasp = d.gasp := rfl
@[simp] theorem Dev.updPlan_tiles (k : Nat) (f : PlanState → PlanState) : (d.updPlan k f).tiles = d.tiles := rfl
@[simp] theorem Dev.updPlan_crossings (k : Nat) (f : PlanState → PlanState) : (d.updPlan k f).crossings = d.crossings := rfl
@[simp] theorem Dev.updPlan_mem (k : Nat) (f : PlanState → PlanState) : (d.updPlan k f).mem = d.mem := rfl
@[simp] theorem Dev.updPlan_lost (k : Nat) (f : PlanState → PlanState) : (d.updPlan k f).lost = d.lost := rfl
@[simp] theorem Dev.updPlan_faults (k : Nat) (f : PlanState → PlanState) : (d.updPlan k f).faults = d.faults := rfl
@[simp] theorem Dev.updPlan_channels (k : Nat) (f : PlanState → PlanState) : (d.updPlan k f).channels = d.channels := rfl
@[simp] theorem Dev.updPlan_cp (k : Nat) (f : PlanState → PlanState) : (d.updPlan k f).cp = d.cp := rfl
@[simp] theorem Dev.updPlan_plannedLandings (k : Nat) (f : PlanState → PlanState) : (d.updPlan k f).plannedLandings = d.plannedLandings := rfl
@[simp] theorem Dev.updPlan_scrubs (k : Nat) (f : PlanState → PlanState) : (d.updPlan k f).scrubs = d.scrubs := rfl
@[simp] theorem Dev.updPlan_accessSeq (k : Nat) (f : PlanState → PlanState) : (d.updPlan k f).accessSeq = d.accessSeq := rfl
@[simp] theorem Dev.updPlan_memTotals (k : Nat) (f : PlanState → PlanState) : (d.updPlan k f).memTotals = d.memTotals := rfl
@[simp] theorem Dev.updPlan_integrity (k : Nat) (f : PlanState → PlanState) : (d.updPlan k f).integrity = d.integrity := rfl
@[simp] theorem Dev.updPlan_links (k : Nat) (f : PlanState → PlanState) : (d.updPlan k f).links = d.links := rfl
@[simp] theorem Dev.updPlan_router (k : Nat) (f : PlanState → PlanState) : (d.updPlan k f).router = d.router := rfl
@[simp] theorem Dev.updPlan_noticesIn (k : Nat) (f : PlanState → PlanState) : (d.updPlan k f).noticesIn = d.noticesIn := rfl
@[simp] theorem Dev.updPlan_sync (k : Nat) (f : PlanState → PlanState) : (d.updPlan k f).sync = d.sync := rfl
@[simp] theorem Dev.updPlan_fns (k : Nat) (f : PlanState → PlanState) : (d.updPlan k f).fns = d.fns := rfl
@[simp] theorem Dev.updPlan_commands (k : Nat) (f : PlanState → PlanState) : (d.updPlan k f).commands = d.commands := rfl
@[simp] theorem Dev.updPlan_hostTotals (k : Nat) (f : PlanState → PlanState) : (d.updPlan k f).hostTotals = d.hostTotals := rfl
@[simp] theorem Dev.updPlan_pcie (k : Nat) (f : PlanState → PlanState) : (d.updPlan k f).pcie = d.pcie := rfl
@[simp] theorem Dev.updPlan_hostMem (k : Nat) (f : PlanState → PlanState) : (d.updPlan k f).hostMem = d.hostMem := rfl
@[simp] theorem Dev.updPlan_weightTotals (k : Nat) (f : PlanState → PlanState) : (d.updPlan k f).weightTotals = d.weightTotals := rfl
@[simp] theorem Dev.updPlan_serveTotals (k : Nat) (f : PlanState → PlanState) : (d.updPlan k f).serveTotals = d.serveTotals := rfl
@[simp] theorem Dev.updPlan_power (k : Nat) (f : PlanState → PlanState) : (d.updPlan k f).power = d.power := rfl
@[simp] theorem Dev.updPlan_fuses (k : Nat) (f : PlanState → PlanState) : (d.updPlan k f).fuses = d.fuses := rfl
@[simp] theorem Dev.updPlan_mgmt (k : Nat) (f : PlanState → PlanState) : (d.updPlan k f).mgmt = d.mgmt := rfl
@[simp] theorem Dev.updPlan_boot (k : Nat) (f : PlanState → PlanState) : (d.updPlan k f).boot = d.boot := rfl
@[simp] theorem Dev.updPlan_capGib (k : Nat) (f : PlanState → PlanState) : (d.updPlan k f).capGib = d.capGib := rfl
@[simp] theorem Dev.updPlan_fusing (k : Nat) (f : PlanState → PlanState) : (d.updPlan k f).fusing = d.fusing := rfl
@[simp] theorem Dev.updPlan_grade (k : Nat) (f : PlanState → PlanState) : (d.updPlan k f).grade = d.grade := rfl
@[simp] theorem Dev.updPlan_fwVersion (k : Nat) (f : PlanState → PlanState) : (d.updPlan k f).fwVersion = d.fwVersion := rfl
@[simp] theorem Dev.updPlan_fwRunning (k : Nat) (f : PlanState → PlanState) : (d.updPlan k f).fwRunning = d.fwRunning := rfl
@[simp] theorem Dev.updPlan_free (k : Nat) (f : PlanState → PlanState) : (d.updPlan k f).free = d.free := rfl
@[simp] theorem Dev.updPlan_readData (k : Nat) (f : PlanState → PlanState) : (d.updPlan k f).readData = d.readData := rfl
@[simp] theorem Dev.updPlan_tile_at (k : Nat) (f : PlanState → PlanState) (i : Nat) : (d.updPlan k f).tile i = d.tile i := rfl
@[simp] theorem Dev.updPlan_channel_at (k : Nat) (f : PlanState → PlanState) (i : Nat) : (d.updPlan k f).channel i = d.channel i := rfl
@[simp] theorem Dev.updPlan_link_at (k : Nat) (f : PlanState → PlanState) (i : Nat) : (d.updPlan k f).link i = d.link i := rfl
@[simp] theorem Dev.updPlan_fn_at (k : Nat) (f : PlanState → PlanState) (i : Nat) : (d.updPlan k f).fn i = d.fn i := rfl

/-! What `updNet` leaves. -/

@[simp] theorem Dev.updNet_time (k : Nat) (f : Net → Net) : (d.updNet k f).time = d.time := rfl
@[simp] theorem Dev.updNet_stage (k : Nat) (f : Net → Net) : (d.updNet k f).stage = d.stage := rfl
@[simp] theorem Dev.updNet_failCause (k : Nat) (f : Net → Net) : (d.updNet k f).failCause = d.failCause := rfl
@[simp] theorem Dev.updNet_deviceId (k : Nat) (f : Net → Net) : (d.updNet k f).deviceId = d.deviceId := rfl
@[simp] theorem Dev.updNet_deviceFatal (k : Nat) (f : Net → Net) : (d.updNet k f).deviceFatal = d.deviceFatal := rfl
@[simp] theorem Dev.updNet_halted (k : Nat) (f : Net → Net) : (d.updNet k f).halted = d.halted := rfl
@[simp] theorem Dev.updNet_faultN (k : Nat) (f : Net → Net) : (d.updNet k f).faultN = d.faultN := rfl
@[simp] theorem Dev.updNet_enabledGroups (k : Nat) (f : Net → Net) : (d.updNet k f).enabledGroups = d.enabledGroups := rfl
@[simp] theorem Dev.updNet_clockCfg (k : Nat) (f : Net → Net) : (d.updNet k f).clockCfg = d.clockCfg := rfl
@[simp] theorem Dev.updNet_clockTotals (k : Nat) (f : Net → Net) : (d.updNet k f).clockTotals = d.clockTotals := rfl
@[simp] theorem Dev.updNet_tileTotals (k : Nat) (f : Net → Net) : (d.updNet k f).tileTotals = d.tileTotals := rfl
@[simp] theorem Dev.updNet_opTotals (k : Nat) (f : Net → Net) : (d.updNet k f).opTotals = d.opTotals := rfl
@[simp] theorem Dev.updNet_select (k : Nat) (f : Net → Net) : (d.updNet k f).select = d.select := rfl
@[simp] theorem Dev.updNet_log (k : Nat) (f : Net → Net) : (d.updNet k f).log = d.log := rfl
@[simp] theorem Dev.updNet_dump (k : Nat) (f : Net → Net) : (d.updNet k f).dump = d.dump := rfl
@[simp] theorem Dev.updNet_gasp (k : Nat) (f : Net → Net) : (d.updNet k f).gasp = d.gasp := rfl
@[simp] theorem Dev.updNet_tiles (k : Nat) (f : Net → Net) : (d.updNet k f).tiles = d.tiles := rfl
@[simp] theorem Dev.updNet_crossings (k : Nat) (f : Net → Net) : (d.updNet k f).crossings = d.crossings := rfl
@[simp] theorem Dev.updNet_mem (k : Nat) (f : Net → Net) : (d.updNet k f).mem = d.mem := rfl
@[simp] theorem Dev.updNet_lost (k : Nat) (f : Net → Net) : (d.updNet k f).lost = d.lost := rfl
@[simp] theorem Dev.updNet_faults (k : Nat) (f : Net → Net) : (d.updNet k f).faults = d.faults := rfl
@[simp] theorem Dev.updNet_channels (k : Nat) (f : Net → Net) : (d.updNet k f).channels = d.channels := rfl
@[simp] theorem Dev.updNet_cp (k : Nat) (f : Net → Net) : (d.updNet k f).cp = d.cp := rfl
@[simp] theorem Dev.updNet_plannedLandings (k : Nat) (f : Net → Net) : (d.updNet k f).plannedLandings = d.plannedLandings := rfl
@[simp] theorem Dev.updNet_scrubs (k : Nat) (f : Net → Net) : (d.updNet k f).scrubs = d.scrubs := rfl
@[simp] theorem Dev.updNet_accessSeq (k : Nat) (f : Net → Net) : (d.updNet k f).accessSeq = d.accessSeq := rfl
@[simp] theorem Dev.updNet_memTotals (k : Nat) (f : Net → Net) : (d.updNet k f).memTotals = d.memTotals := rfl
@[simp] theorem Dev.updNet_integrity (k : Nat) (f : Net → Net) : (d.updNet k f).integrity = d.integrity := rfl
@[simp] theorem Dev.updNet_links (k : Nat) (f : Net → Net) : (d.updNet k f).links = d.links := rfl
@[simp] theorem Dev.updNet_router (k : Nat) (f : Net → Net) : (d.updNet k f).router = d.router := rfl
@[simp] theorem Dev.updNet_noticesIn (k : Nat) (f : Net → Net) : (d.updNet k f).noticesIn = d.noticesIn := rfl
@[simp] theorem Dev.updNet_sync (k : Nat) (f : Net → Net) : (d.updNet k f).sync = d.sync := rfl
@[simp] theorem Dev.updNet_fns (k : Nat) (f : Net → Net) : (d.updNet k f).fns = d.fns := rfl
@[simp] theorem Dev.updNet_commands (k : Nat) (f : Net → Net) : (d.updNet k f).commands = d.commands := rfl
@[simp] theorem Dev.updNet_hostTotals (k : Nat) (f : Net → Net) : (d.updNet k f).hostTotals = d.hostTotals := rfl
@[simp] theorem Dev.updNet_pcie (k : Nat) (f : Net → Net) : (d.updNet k f).pcie = d.pcie := rfl
@[simp] theorem Dev.updNet_hostMem (k : Nat) (f : Net → Net) : (d.updNet k f).hostMem = d.hostMem := rfl
@[simp] theorem Dev.updNet_weightTotals (k : Nat) (f : Net → Net) : (d.updNet k f).weightTotals = d.weightTotals := rfl
@[simp] theorem Dev.updNet_serveTotals (k : Nat) (f : Net → Net) : (d.updNet k f).serveTotals = d.serveTotals := rfl
@[simp] theorem Dev.updNet_power (k : Nat) (f : Net → Net) : (d.updNet k f).power = d.power := rfl
@[simp] theorem Dev.updNet_fuses (k : Nat) (f : Net → Net) : (d.updNet k f).fuses = d.fuses := rfl
@[simp] theorem Dev.updNet_mgmt (k : Nat) (f : Net → Net) : (d.updNet k f).mgmt = d.mgmt := rfl
@[simp] theorem Dev.updNet_boot (k : Nat) (f : Net → Net) : (d.updNet k f).boot = d.boot := rfl
@[simp] theorem Dev.updNet_capGib (k : Nat) (f : Net → Net) : (d.updNet k f).capGib = d.capGib := rfl
@[simp] theorem Dev.updNet_fusing (k : Nat) (f : Net → Net) : (d.updNet k f).fusing = d.fusing := rfl
@[simp] theorem Dev.updNet_grade (k : Nat) (f : Net → Net) : (d.updNet k f).grade = d.grade := rfl
@[simp] theorem Dev.updNet_fwVersion (k : Nat) (f : Net → Net) : (d.updNet k f).fwVersion = d.fwVersion := rfl
@[simp] theorem Dev.updNet_fwRunning (k : Nat) (f : Net → Net) : (d.updNet k f).fwRunning = d.fwRunning := rfl
@[simp] theorem Dev.updNet_free (k : Nat) (f : Net → Net) : (d.updNet k f).free = d.free := rfl
@[simp] theorem Dev.updNet_readData (k : Nat) (f : Net → Net) : (d.updNet k f).readData = d.readData := rfl
@[simp] theorem Dev.updNet_tile_at (k : Nat) (f : Net → Net) (i : Nat) : (d.updNet k f).tile i = d.tile i := rfl
@[simp] theorem Dev.updNet_channel_at (k : Nat) (f : Net → Net) (i : Nat) : (d.updNet k f).channel i = d.channel i := rfl
@[simp] theorem Dev.updNet_link_at (k : Nat) (f : Net → Net) (i : Nat) : (d.updNet k f).link i = d.link i := rfl
@[simp] theorem Dev.updNet_fn_at (k : Nat) (f : Net → Net) (i : Nat) : (d.updNet k f).fn i = d.fn i := rfl

end Sys2Proof.Machine
end

