-- ==== Sys2Proof/Laws/Errors.lean ====
section
/-!
SUPPORT. What raising an error can change: the log, the dump, the last-gasp area, the stage, the partitions' requests to stop, and
what notifies; everything else stays.
-/
namespace Sys2Proof.Machine

/-- A property that every step of a fold keeps holds at its end. -/
theorem foldl_keeps {α β : Type} (P : α → Prop) (f : α → β → α) (l : List β) (a : α) (h : P a)
    (hf : ∀ a b, P a → P (f a b)) : P (l.foldl f a) := by
  induction l generalizing a with
  | nil => exact h
  | cons x t ih => exact ih _ (hf _ _ h)

/-- The device with everything that an error can touch at its reset value: two devices that agree here differ in nothing
else. -/
def Dev.beyondErrors (d : Dev) : Dev :=
  { d with log := .reset, dump := .reset, gasp := .reset, stage := 0, failCause := 0, parts := [], mgmt := .reset 0, free := 0,
           boot := .reset, halted := false, faultN := false, deviceFatal := false }

theorem stopAll_rest (d : Dev) : (stopAll d).beyondErrors = d.beyondErrors := by
  unfold stopAll
  refine foldl_keeps (fun x : Dev => x.beyondErrors = d.beyondErrors) _ _ _ rfl (fun a b h => ?_)
  split
  · exact h
  · exact h

theorem notify_rest (d : Dev) : (notify d).beyondErrors = d.beyondErrors := by
  unfold notify
  split
  · rfl
  · rfl

theorem enterDeviceFatal_rest (d : Dev) (e : Option LogEntry) : (enterDeviceFatal d e).beyondErrors = d.beyondErrors := by
  unfold enterDeviceFatal
  generalize hx : stopAll _ = x
  have h : x.beyondErrors = d.beyondErrors := by rw [← hx]; exact stopAll_rest _
  clear hx
  dsimp only
  split
  · split
    · rw [notify_rest]; exact h
    · exact h
  · exact h

/-- Raising an error leaves everything else as it is (R637 to R649). -/
theorem raise_rest (d : Dev) (c o e : Nat) (p t : Option Nat) (b : Bytes) :
    (raise d c o e p t b).beyondErrors = d.beyondErrors := by
  unfold raise
  split
  · rfl
  · extract_lets st en r s1 lg s2
    have h2 : s2.beyondErrors = d.beyondErrors := by
      show Dev.beyondErrors (ite _ _ _) = _
      split
      · cases p <;> rfl
      · rfl
    split
    · rfl
    · split
      · exact (enterDeviceFatal_rest _ _).trans h2
      · exact h2

theorem raiseTile_rest (d : Dev) (o e t : Nat) (b : Bytes) : (raiseTile d o e t b).beyondErrors = d.beyondErrors := by
  unfold raiseTile
  split
  · exact raise_rest ..
  · exact raise_rest ..

@[simp] theorem raise_tiles (d : Dev) (c o e : Nat) (p t : Option Nat) (b : Bytes) :
    (raise d c o e p t b).tiles = d.tiles := by
  have := congrArg Dev.tiles (raise_rest d c o e p t b); exact this
@[simp] theorem raise_mem (d : Dev) (c o e : Nat) (p t : Option Nat) (b : Bytes) :
    (raise d c o e p t b).mem = d.mem := by
  have := congrArg Dev.mem (raise_rest d c o e p t b); exact this
@[simp] theorem raise_tile_at (d : Dev) (c o e : Nat) (p t : Option Nat) (b : Bytes) (u : Nat) :
    (raise d c o e p t b).tile u = d.tile u := by unfold Dev.tile; rw [raise_tiles]
@[simp] theorem raise_links (d : Dev) (c o e : Nat) (p t : Option Nat) (b : Bytes) :
    (raise d c o e p t b).links = d.links := by
  have := congrArg Dev.links (raise_rest d c o e p t b); exact this
@[simp] theorem raise_link_at (d : Dev) (c o e : Nat) (p t : Option Nat) (b : Bytes) (l : Nat) :
    (raise d c o e p t b).link l = d.link l := by unfold Dev.link; rw [raise_links]
@[simp] theorem raise_time (d : Dev) (c o e : Nat) (p t : Option Nat) (b : Bytes) :
    (raise d c o e p t b).time = d.time := by
  have := congrArg Dev.time (raise_rest d c o e p t b); exact this
@[simp] theorem raiseTile_tile_at (d : Dev) (o e t : Nat) (b : Bytes) (u : Nat) :
    (raiseTile d o e t b).tile u = d.tile u := by
  unfold raiseTile
  split <;> exact raise_tile_at ..
@[simp] theorem raiseTile_mem (d : Dev) (o e t : Nat) (b : Bytes) : (raiseTile d o e t b).mem = d.mem := by
  have := congrArg Dev.mem (raiseTile_rest d o e t b); exact this

end Sys2Proof.Machine
end

