-- ==== Sys2Proof/Laws/Exec.lean ====
section
/-!
SUPPORT. One equation per command: the next state it answers with, by the shared operation it calls.
-/
namespace Sys2Proof.Machine

theorem exec_nextEpochWrite (who : Principal) (v : BitVec 64) (s : State) :
    exec (.nextEpochWrite who v) s = .next { s with dev := entryWrite s.dev who 0x2010 2 v.toNat } := rfl
theorem exec_resync (who : Principal) (s : State) :
    exec (.resync who) s = .next { s with dev := entryWrite s.dev who 0x2010 6 1 } := rfl
theorem exec_epochEdge (edges : Nat) (s : State) :
    exec (.epochEdge edges) s = .next { s with dev := epochEdge s.dev edges } := rfl
theorem exec_epochWrap (s : State) :
    exec (.epochWrap) s = .next { s with dev := epochWrap s.dev } := rfl
theorem exec_refclkLoss (s : State) :
    exec (.refclkLoss) s = .next { s with dev := refclkLoss s.dev } := rfl
theorem exec_stintBoundary (k : Fin 16) (s : State) :
    exec (.stintBoundary k) s = .next { s with dev := stintBoundary s.dev k } := rfl
theorem exec_slipEnd (k : Fin 16) (s : State) :
    exec (.slipEnd k) s = .next { s with dev := slipEnd s.dev k } := rfl
theorem exec_transferDeadline (k : Fin 16) (s : State) :
    exec (.transferDeadline k) s = .next { s with dev := transferDeadline s.dev k } := rfl
theorem exec_holdNotice (s : State) :
    exec (.holdNotice) s = .next { s with dev := holdNotice s.dev } := rfl
theorem exec_freeze (k : Fin 16) (s : State) :
    exec (.freeze k) s = .next { s with dev := freeze s.dev k } := rfl
theorem exec_clear (s : State) :
    exec (.clear) s = .next { s with dev := clearMessage s.dev } := rfl
theorem exec_treeResume (s : State) :
    exec (.treeResume) s = .next { s with dev := treeResume s.dev } := rfl
theorem exec_resumeEdge (k : Fin 16) (s : State) :
    exec (.resumeEdge k) s = .next { s with dev := resumeEdge s.dev k } := rfl
theorem exec_holdLimitExpiry (k : Fin 16) (s : State) :
    exec (.holdLimitExpiry k) s = .next { s with dev := holdLimit s.dev k } := rfl
theorem exec_decisionPoint (k : Fin 16) (s : State) :
    exec (.decisionPoint k) s = .next { s with dev := decisionPoint s.dev k } := rfl
theorem exec_voteUp (s : State) :
    exec (.voteUp) s = .next { s with dev := voteUp s.dev } := rfl
theorem exec_voteDown (s : State) :
    exec (.voteDown) s = .next { s with dev := voteDown s.dev } := rfl
theorem exec_regionStop (k : Fin 16) (s : State) :
    exec (.regionStop k) s = .next { s with dev := regionStop s.dev k } := rfl
theorem exec_regionStopLockCheck (t : Fin 672) (locked : Bool) (s : State) :
    exec (.regionStopLockCheck t locked) s = .next { s with dev := regionStopLockCheck s.dev t locked } := rfl
theorem exec_decisionWord (k : Fin 16) (s : State) :
    exec (.decisionWord k) s = .next { s with dev := decisionWord s.dev k } := rfl
theorem exec_regionStopEnd (k : Fin 16) (s : State) :
    exec (.regionStopEnd k) s = .next { s with dev := regionStopEnd s.dev k } := rfl
theorem exec_countersClear (who : Principal) (ix : BitVec 16) (s : State) :
    exec (.countersClear who ix) s = .next { s with dev := countersClearWrite s.dev who ix.toNat } := rfl
theorem exec_droop (t : Fin 672) (eighths periods : Nat) (s : State) :
    exec (.droop t eighths periods) s = .next { s with dev := droop s.dev t eighths periods } := rfl
theorem exec_deficitLimit (t : Fin 672) (s : State) :
    exec (.deficitLimit t) s = .next { s with dev := deficitLimit s.dev t } := rfl
theorem exec_jitterTrip (t : Fin 672) (ps : Nat) (s : State) :
    exec (.jitterTrip t ps) s = .next { s with dev := jitterTrip s.dev t ps } := rfl
theorem exec_dutyTrip (t : Fin 672) (permille : Nat) (s : State) :
    exec (.dutyTrip t permille) s = .next { s with dev := dutyTrip s.dev t permille } := rfl
theorem exec_lossOfLock (t : Fin 672) (errs : List Nat) (s : State) :
    exec (.lossOfLock t errs) s = .next { s with dev := lossOfLock s.dev t errs } := rfl
theorem exec_crossingForward (t : Fin 672) (port : Fin 4) (s : State) :
    exec (.crossingForward t port) s = .next { s with dev := crossingForward s.dev t port } := rfl
theorem exec_readWait (t : Fin 672) (port : Fin 4) (s : State) :
    exec (.readWait t port) s = .next { s with dev := emitEdge s.dev t (fun _ o m => o.lands.contains (m, port.val)) } := rfl
theorem exec_writeWait (t : Fin 672) (s : State) :
    exec (.writeWait t) s = .next { s with dev := emitEdge s.dev t (fun f o m => !(o.dueSends f m).isEmpty) } := rfl
theorem exec_add (t : Fin 672) (g : Guard) (a b : Fin 16) (x : Src) (s : State) :
    exec (.add t g a b x) s = .next { s with dev := untimed s.dev t g (fun c => c.setS a (c.sreg b + x.signed c)) } := rfl
theorem exec_sub (t : Fin 672) (g : Guard) (a b : Fin 16) (x : Src) (s : State) :
    exec (.sub t g a b x) s = .next { s with dev := untimed s.dev t g (fun c => c.setS a (c.sreg b - x.signed c)) } := rfl
theorem exec_mul (t : Fin 672) (g : Guard) (a b : Fin 16) (x : Src) (s : State) :
    exec (.mul t g a b x) s = .next { s with dev := untimed s.dev t g (fun c => c.setS a (c.sreg b * x.signed c)) } := rfl
theorem exec_and (t : Fin 672) (g : Guard) (a b : Fin 16) (x : Src) (s : State) :
    exec (.and t g a b x) s = .next { s with dev := untimed s.dev t g (fun c => c.setS a (c.sreg b &&& x.unsigned c)) } := rfl
theorem exec_or (t : Fin 672) (g : Guard) (a b : Fin 16) (x : Src) (s : State) :
    exec (.or t g a b x) s = .next { s with dev := untimed s.dev t g (fun c => c.setS a (c.sreg b ||| x.unsigned c)) } := rfl
theorem exec_xor (t : Fin 672) (g : Guard) (a b : Fin 16) (x : Src) (s : State) :
    exec (.xor t g a b x) s = .next { s with dev := untimed s.dev t g (fun c => c.setS a (c.sreg b ^^^ x.unsigned c)) } := rfl
theorem exec_shl (t : Fin 672) (g : Guard) (a b : Fin 16) (x : Src) (s : State) :
    exec (.shl t g a b x) s =
      .next { s with dev := untimed s.dev t g (fun c => c.setS a (c.sreg b <<< ((x.unsigned c).toNat % 32))) } := rfl
theorem exec_shr (t : Fin 672) (g : Guard) (a b : Fin 16) (x : Src) (s : State) :
    exec (.shr t g a b x) s =
      .next { s with dev := untimed s.dev t g (fun c => c.setS a (c.sreg b >>> ((x.unsigned c).toNat % 32))) } := rfl
theorem exec_sar (t : Fin 672) (g : Guard) (a b : Fin 16) (x : Src) (s : State) :
    exec (.sar t g a b x) s =
      .next { s with dev := untimed s.dev t g (fun c => c.setS a ((c.sreg b).sshiftRight ((x.unsigned c).toNat % 32))) } := rfl
theorem exec_set (t : Fin 672) (g : Guard) (a : Fin 16) (v : BitVec 32) (s : State) :
    exec (.set t g a v) s = .next { s with dev := untimed s.dev t g (fun c => c.setS a v) } := rfl
theorem exec_cmpEq (t : Fin 672) (g : Guard) (n : Fin 4) (a : Fin 16) (x : Src) (s : State) :
    exec (.cmpEq t g n a x) s = .next { s with dev := untimed s.dev t g (fun c => c.setP n (c.sreg a == x.signed c)) } := rfl
theorem exec_cmpNe (t : Fin 672) (g : Guard) (n : Fin 4) (a : Fin 16) (x : Src) (s : State) :
    exec (.cmpNe t g n a x) s = .next { s with dev := untimed s.dev t g (fun c => c.setP n (c.sreg a != x.signed c)) } := rfl
theorem exec_cmpLt (t : Fin 672) (g : Guard) (n : Fin 4) (a : Fin 16) (x : Src) (s : State) :
    exec (.cmpLt t g n a x) s =
      .next { s with dev := untimed s.dev t g (fun c => c.setP n ((c.sreg a).slt (x.signed c))) } := rfl
theorem exec_cmpLtu (t : Fin 672) (g : Guard) (n : Fin 4) (a : Fin 16) (x : Src) (s : State) :
    exec (.cmpLtu t g n a x) s =
      .next { s with dev := untimed s.dev t g (fun c => c.setP n ((c.sreg a).ult (x.unsigned c))) } := rfl
theorem exec_cmpGe (t : Fin 672) (g : Guard) (n : Fin 4) (a : Fin 16) (x : Src) (s : State) :
    exec (.cmpGe t g n a x) s =
      .next { s with dev := untimed s.dev t g (fun c => c.setP n ((x.signed c).sle (c.sreg a))) } := rfl
theorem exec_cmpGeu (t : Fin 672) (g : Guard) (n : Fin 4) (a : Fin 16) (x : Src) (s : State) :
    exec (.cmpGeu t g n a x) s =
      .next { s with dev := untimed s.dev t g (fun c => c.setP n ((x.unsigned c).ule (c.sreg a))) } := rfl
theorem exec_pand (t : Fin 672) (g : Guard) (n m k : Fin 4) (s : State) :
    exec (.pand t g n m k) s = .next { s with dev := untimed s.dev t g (fun c => c.setP n (c.pred m && c.pred k)) } := rfl
theorem exec_por (t : Fin 672) (g : Guard) (n m k : Fin 4) (s : State) :
    exec (.por t g n m k) s = .next { s with dev := untimed s.dev t g (fun c => c.setP n (c.pred m || c.pred k)) } := rfl
theorem exec_pnot (t : Fin 672) (g : Guard) (n m : Fin 4) (s : State) :
    exec (.pnot t g n m) s = .next { s with dev := untimed s.dev t g (fun c => c.setP n (!c.pred m)) } := rfl
theorem exec_pset (t : Fin 672) (g : Guard) (n k : Fin 4) (s : State) :
    exec (.pset t g n k) s = .next { s with dev := untimed s.dev t g (fun c => c.setP n (c.comparator k)) } := rfl
theorem exec_cset (t : Fin 672) (g : Guard) (a : Fin 8) (x : CSrc) (s : State) :
    exec (.cset t g a x) s = .next { s with dev := untimed s.dev t g (fun c => c.setC a (x.zero c)) } := rfl
theorem exec_cadd (t : Fin 672) (g : Guard) (a b : Fin 8) (x : CSrc) (s : State) :
    exec (.cadd t g a b x) s = .next { s with dev := untimed s.dev t g (fun c => c.setC a (c.creg b + x.sign c)) } := rfl
theorem exec_dbnz (t : Fin 672) (g : Guard) (a : Fin 8) (target : Nat) (s : State) :
    exec (.dbnz t g a target) s =
      .next { s with dev := branching s.dev t g target (fun c => c.creg a - 1 != 0) (fun c => c.setC a (c.creg a - 1)) } := rfl
theorem exec_cmov (t : Fin 672) (g : Guard) (a : Fin 16) (b : Fin 8) (s : State) :
    exec (.cmov t g a b) s = .next { s with dev := untimed s.dev t g (fun c => c.setS a ((c.creg b).truncate 32)) } := rfl
theorem exec_cmovh (t : Fin 672) (g : Guard) (a : Fin 16) (b : Fin 8) (s : State) :
    exec (.cmovh t g a b) s =
      .next { s with dev := untimed s.dev t g (fun c => c.setS a (((c.creg b) >>> 32).truncate 32)) } := rfl
theorem exec_kset (t : Fin 672) (g : Guard) (n : Fin 4) (src : Fin 8) (rel : Fin 4) (ref : Fin 8) (s : State) :
    exec (.kset t g n src rel ref) s =
      .next { s with dev := untimed s.dev t g (fun c => { c with k := c.k.set n ⟨src, rel, ref⟩ }) } := rfl
theorem exec_br (t : Fin 672) (g : Guard) (target : Nat) (s : State) :
    exec (.br t g target) s = .next { s with dev := branching s.dev t g target (fun _ => true) id } := rfl
theorem exec_brP (t : Fin 672) (g : Guard) (n : Fin 4) (neg : Bool) (target : Nat) (s : State) :
    exec (.brP t g n neg target) s = .next { s with dev := branching s.dev t g target (fun c => c.pred n != neg) id } := rfl
theorem exec_brK (t : Fin 672) (g : Guard) (n : Fin 4) (target : Nat) (s : State) :
    exec (.brK t g n target) s = .next { s with dev := branching s.dev t g target (fun c => c.comparator n) id } := rfl
theorem exec_call (t : Fin 672) (g : Guard) (target : Nat) (s : State) :
    exec (.call t g target) s = .next { s with dev := callOp s.dev t g target } := rfl
theorem exec_ret (t : Fin 672) (g : Guard) (s : State) :
    exec (.ret t g) s = .next { s with dev := retOp s.dev t g } := rfl
theorem exec_rdSys (t : Fin 672) (g : Guard) (a code : Fin 16) (s : State) :
    exec (.rdSys t g a code) s = .next { s with dev := rdSysOp s.dev t g a code } := rfl
theorem exec_ldB (t : Fin 672) (g : Guard) (a b : Fin 16) (off : BitVec 16) (due : Due) (s : State) :
    exec (.ldB t g a b off due) s = .next { s with dev := loadOp s.dev t 1 g a b off due } := rfl
theorem exec_ldH (t : Fin 672) (g : Guard) (a b : Fin 16) (off : BitVec 16) (due : Due) (s : State) :
    exec (.ldH t g a b off due) s = .next { s with dev := loadOp s.dev t 2 g a b off due } := rfl
theorem exec_ldW (t : Fin 672) (g : Guard) (a b : Fin 16) (off : BitVec 16) (due : Due) (s : State) :
    exec (.ldW t g a b off due) s = .next { s with dev := loadOp s.dev t 4 g a b off due } := rfl
theorem exec_ldD (t : Fin 672) (g : Guard) (a b : Fin 16) (off : BitVec 16) (due : Due) (s : State) :
    exec (.ldD t g a b off due) s = .next { s with dev := loadOp s.dev t 8 g a b off due } := rfl
theorem exec_stB (t : Fin 672) (g : Guard) (a b : Fin 16) (off : BitVec 16) (due : Due) (s : State) :
    exec (.stB t g a b off due) s = .next { s with dev := storeOp s.dev t 1 g a b off due } := rfl
theorem exec_stH (t : Fin 672) (g : Guard) (a b : Fin 16) (off : BitVec 16) (due : Due) (s : State) :
    exec (.stH t g a b off due) s = .next { s with dev := storeOp s.dev t 2 g a b off due } := rfl
theorem exec_stW (t : Fin 672) (g : Guard) (a b : Fin 16) (off : BitVec 16) (due : Due) (s : State) :
    exec (.stW t g a b off due) s = .next { s with dev := storeOp s.dev t 4 g a b off due } := rfl
theorem exec_stD (t : Fin 672) (g : Guard) (a b : Fin 16) (off : BitVec 16) (due : Due) (s : State) :
    exec (.stD t g a b off due) s = .next { s with dev := storeOp s.dev t 8 g a b off due } := rfl
theorem exec_issue (t : Fin 672) (g : Guard) (e : Engine) (slot : Fin 512) (adj : List (Fin 4 × Fin 16)) (due : Due) (s : State) :
    exec (.issue t g e slot adj due) s = .next { s with dev := issueOp s.dev t g e slot adj due } := rfl
theorem exec_queueFullStall (t : Fin 672) (e : Engine) (s : State) :
    exec (.queueFullStall t e) s =
      .next { s with dev := runWhere s.dev t (fun c => match c with | .stalled x _ => x == e | _ => false) } := rfl
theorem exec_pace (t : Fin 672) (g : Guard) (due : Due) (s : State) :
    exec (.pace t g due) s = .next { s with dev := paceOp s.dev t g due } := rfl
theorem exec_waitMq (t : Fin 672) (g : Guard) (n : Fin 8) (b : Fin 16) (due : Due) (s : State) :
    exec (.waitMq t g n b due) s = .next { s with dev := waitOp s.dev t g due (fun c => .mq n (c.sreg b)) } := rfl
theorem exec_waitSig (t : Fin 672) (g : Guard) (j b : Fin 16) (due : Due) (s : State) :
    exec (.waitSig t g j b due) s = .next { s with dev := waitOp s.dev t g due (fun c => .sig j (c.sreg b)) } := rfl
theorem exec_waitMbx (t : Fin 672) (g : Guard) (due : Due) (s : State) :
    exec (.waitMbx t g due) s = .next { s with dev := waitOp s.dev t g due (fun _ => .mbx) } := rfl
theorem exec_waitCompletion (t : Fin 672) (kind : WaitKind) (s : State) :
    exec (.waitCompletion t kind) s =
      .next { s with dev := runWhere s.dev t (fun c => match c with | .waiting w => w.kind == kind | _ => false) } := rfl
theorem exec_stintEnd (t : Fin 672) (g : Guard) (due : Due) (s : State) :
    exec (.stintEnd t g due) s = .next { s with dev := stintEndOp s.dev t g due } := rfl
theorem exec_stintNap (t : Fin 672) (g : Guard) (due : Due) (a : Fin 8) (b : Fin 16) (s : State) :
    exec (.stintNap t g due a b) s = .next { s with dev := stintNapOp s.dev t g due a b } := rfl
theorem exec_tileWake (t : Fin 672) (s : State) :
    exec (.tileWake t) s = .next { s with dev := tileWake s.dev t } := rfl
theorem exec_wakeSelfCheck (t : Fin 672) (locked : Bool) (s : State) :
    exec (.wakeSelfCheck t locked) s = .next { s with dev := wakeSelfCheck s.dev t locked } := rfl
theorem exec_tileRejoin (t : Fin 672) (s : State) :
    exec (.tileRejoin t) s = .next { s with dev := tileRejoin s.dev t } := rfl
theorem exec_landingWrite (t : Fin 672) (s : State) :
    exec (.landingWrite t) s = .next { s with dev := landingWrite s.dev t } := rfl
theorem exec_cgMm (t : Fin 672) (s : State) :
    exec (.cgMm t) s = .next { s with dev := runEntry s.dev t .cg (·.opcode == 0x10) } := rfl
theorem exec_vuEw (t : Fin 672) (s : State) :
    exec (.vuEw t) s = .next { s with dev := runEntry s.dev t .vu (·.opcode == 0x20) } := rfl
theorem exec_vuRed (t : Fin 672) (s : State) :
    exec (.vuRed t) s = .next { s with dev := runEntry s.dev t .vu (·.opcode == 0x21) } := rfl
theorem exec_vuQuant (t : Fin 672) (s : State) :
    exec (.vuQuant t) s = .next { s with dev := runEntry s.dev t .vu (·.opcode == 0x22) } := rfl
theorem exec_vuChk (t : Fin 672) (s : State) :
    exec (.vuChk t) s = .next { s with dev := runEntry s.dev t .vu (·.opcode == 0x23) } := rfl
theorem exec_vuStow (t : Fin 672) (s : State) :
    exec (.vuStow t) s = .next { s with dev := runEntry s.dev t .vu (·.opcode == 0x24) } := rfl
theorem exec_vuJoin (t : Fin 672) (s : State) :
    exec (.vuJoin t) s = .next { s with dev := runEntry s.dev t .vu (·.opcode == 0x25) } := rfl
theorem exec_vuFin (t : Fin 672) (s : State) :
    exec (.vuFin t) s = .next { s with dev := runEntry s.dev t .vu (·.opcode == 0x26) } := rfl
theorem exec_sfuFn (t : Fin 672) (s : State) :
    exec (.sfuFn t) s = .next { s with dev := runEntry s.dev t .sfu (·.opcode == 0x30) } := rfl
theorem exec_ixGather (t : Fin 672) (s : State) :
    exec (.ixGather t) s = .next { s with dev := runEntry s.dev t .ix (·.opcode == 0x40) } := rfl
theorem exec_ixScatter (t : Fin 672) (s : State) :
    exec (.ixScatter t) s = .next { s with dev := runEntry s.dev t .ix (·.opcode == 0x41) } := rfl
theorem exec_ixSegred (t : Fin 672) (s : State) :
    exec (.ixSegred t) s = .next { s with dev := runEntry s.dev t .ix (·.opcode == 0x42) } := rfl
theorem exec_mvCopy (t : Fin 672) (s : State) :
    exec (.mvCopy t) s = .next { s with dev := runEntry s.dev t .mv (·.opcode == 0x50) } := rfl
theorem exec_mvSend (t : Fin 672) (s : State) :
    exec (.mvSend t) s = .next { s with dev := runEntry s.dev t .mv (·.opcode == 0x51) } := rfl
theorem exec_mvLand (t : Fin 672) (s : State) :
    exec (.mvLand t) s = .next { s with dev := runEntry s.dev t .mv (·.opcode == 0x52) } := rfl
theorem exec_mvMqRead (t : Fin 672) (s : State) :
    exec (.mvMqRead t) s = .next { s with dev := runEntry s.dev t .mv (fun x => x.opcode == 0x53 && x.p 6 == 0) } := rfl
theorem exec_mvMqWrite (t : Fin 672) (s : State) :
    exec (.mvMqWrite t) s = .next { s with dev := runEntry s.dev t .mv (fun x => x.opcode == 0x53 && x.p 6 == 1) } := rfl
theorem exec_mvMqGather (t : Fin 672) (s : State) :
    exec (.mvMqGather t) s = .next { s with dev := runEntry s.dev t .mv (fun x => x.opcode == 0x53 && x.p 6 == 2) } := rfl
theorem exec_mvMqScatter (t : Fin 672) (s : State) :
    exec (.mvMqScatter t) s = .next { s with dev := runEntry s.dev t .mv (fun x => x.opcode == 0x53 && x.p 6 == 3) } := rfl
theorem exec_mvMqMove (t : Fin 672) (s : State) :
    exec (.mvMqMove t) s =
      .next { s with dev := runEntry s.dev t .mv (fun x => x.opcode == 0x53 && decide (4 ≤ x.p 6)) } := rfl
theorem exec_mqFullWait (t : Fin 672) (channel : Fin 2) (s : State) :
    exec (.mqFullWait t channel) s =
      .next { s with dev := emitEdge s.dev t (fun f o m => f.second == (channel == 1) && o.rows.any (·.first == m)) } := rfl
theorem exec_mvLinkPlanned (t : Fin 672) (s : State) :
    exec (.mvLinkPlanned t) s =
      .next { s with dev := runEntry s.dev t .mv (fun x => x.opcode == 0x54 && (x.p 0 == 0 || mvLinkReserved x)) } := rfl
theorem exec_mvLinkWrite (t : Fin 672) (s : State) :
    exec (.mvLinkWrite t) s = .next { s with dev := runEntry s.dev t .mv (fun x => x.opcode == 0x54 && x.p 0 == 1) } := rfl
theorem exec_mvLinkWriteC (t : Fin 672) (s : State) :
    exec (.mvLinkWriteC t) s = .next { s with dev := runEntry s.dev t .mv (fun x => x.opcode == 0x54 && x.p 0 == 2) } := rfl
theorem exec_mvLinkRead (t : Fin 672) (s : State) :
    exec (.mvLinkRead t) s = .next { s with dev := runEntry s.dev t .mv (fun x => x.opcode == 0x54 && x.p 0 == 3) } := rfl
theorem exec_mvLinkBarrier (t : Fin 672) (s : State) :
    exec (.mvLinkBarrier t) s = .next { s with dev := runEntry s.dev t .mv (fun x => x.opcode == 0x54 && x.p 0 == 0x10) } := rfl
theorem exec_mvLinkSignal (t : Fin 672) (s : State) :
    exec (.mvLinkSignal t) s = .next { s with dev := runEntry s.dev t .mv (fun x => x.opcode == 0x54 && x.p 0 == 0x11) } := rfl
theorem exec_mvLinkNotice (t : Fin 672) (s : State) :
    exec (.mvLinkNotice t) s = .next { s with dev := runEntry s.dev t .mv (fun x => x.opcode == 0x54 && x.p 0 == 0x12) } := rfl
theorem exec_mvImem (t : Fin 672) (s : State) :
    exec (.mvImem t) s = .next { s with dev := runEntry s.dev t .mv (·.opcode == 0x55) } := rfl
theorem exec_dgOpen (t : Fin 672) (s : State) :
    exec (.dgOpen t) s = .next { s with dev := runEntry s.dev t .dg (·.opcode == 0x60) } := rfl
theorem exec_dgScan (t : Fin 672) (s : State) :
    exec (.dgScan t) s = .next { s with dev := runEntry s.dev t .dg (·.opcode == 0x61) } := rfl
theorem exec_dgTake (t : Fin 672) (s : State) :
    exec (.dgTake t) s = .next { s with dev := runEntry s.dev t .dg (·.opcode == 0x62) } := rfl
theorem exec_fuLoad (t : Fin 672) (s : State) :
    exec (.fuLoad t) s = .next { s with dev := runEntry s.dev t .fu (·.opcode == 0x70) } := rfl
theorem exec_fuFeat (t : Fin 672) (s : State) :
    exec (.fuFeat t) s = .next { s with dev := runEntry s.dev t .fu (·.opcode == 0x71) } := rfl
theorem exec_fuEval (t : Fin 672) (s : State) :
    exec (.fuEval t) s = .next { s with dev := runEntry s.dev t .fu (·.opcode == 0x72) } := rfl
theorem exec_fuNsample (t : Fin 672) (s : State) :
    exec (.fuNsample t) s = .next { s with dev := runEntry s.dev t .fu (·.opcode == 0x73) } := rfl
theorem exec_channelSlot (c : Fin 272) (s : State) :
    exec (.channelSlot c) s = .next { s with dev := channelSlot s.dev c } := rfl
theorem exec_pageDecode (c : Fin 272) (s : State) :
    exec (.pageDecode c) s = .next { s with dev := pageDecode s.dev c } := rfl
theorem exec_mqCompletion (t : Fin 672) (n : Fin 8) (s : State) :
    exec (.mqCompletion t n) s = .next { s with dev := mqCompletion s.dev t n } := rfl
theorem exec_scrub (f : Fin 17) (s : State) :
    exec (.scrub f) s = .next { s with dev := hostCommand s.dev f 0x0500 scrubCommand } := rfl
theorem exec_scrubComplete (s : State) :
    exec (.scrubComplete) s = .next { s with dev := scrubComplete s.dev } := rfl
theorem exec_injectArm (who : Principal) (s : State) :
    exec (.injectArm who) s = .next { s with dev := entryWrite s.dev who 0x9090 5 1 } := rfl
theorem exec_planImage (f : Fin 17) (s : State) :
    exec (.planImage f) s = .next { s with dev := hostCommand s.dev f 0x0200 planImage } := rfl
theorem exec_planAbort (f : Fin 17) (s : State) :
    exec (.planAbort f) s = .next { s with dev := hostCommand s.dev f 0x0201 planAbort } := rfl
theorem exec_successorStage (k : Fin 16) (s : State) :
    exec (.successorStage k) s = .next { s with dev := successorStage s.dev k } := rfl
theorem exec_linkEnableWrite (who : Principal) (l : Fin 64) (v : Bool) (s : State) :
    exec (.linkEnableWrite who l v) s = .next { s with dev := entryWrite s.dev who (0x4100 + l) 1 (boolNat v) } := rfl
theorem exec_detectLock (l : Fin 64) (s : State) :
    exec (.detectLock l) s = .next { s with dev := detectLock s.dev l } := rfl
theorem exec_trainingFrame (l : Fin 64) (frame : Bytes) (report : FrameReport) (s : State) :
    exec (.trainingFrame l frame report) s =
      .next { s with dev := trainingFrame s.dev l frame report.request0 report.request1 report.errors } := rfl
theorem exec_trainTimeout (l : Fin 64) (s : State) :
    exec (.trainTimeout l) s = .next { s with dev := trainTimeout s.dev l } := rfl
theorem exec_measureComplete (l : Fin 64) (far : Bool) (s : State) :
    exec (.measureComplete l far) s = .next { s with dev := measureComplete s.dev l far } := rfl
theorem exec_remeasure (who : Principal) (l : Fin 64) (s : State) :
    exec (.remeasure who l) s = .next { s with dev := entryWrite s.dev who (0x4100 + l) 13 1 } := rfl
theorem exec_flitTransmit (l : Fin 64) (sub : Fin 25) (s : State) :
    exec (.flitTransmit l sub) s = .next { s with dev := flitTransmit s.dev l sub } := rfl
theorem exec_flitReceive (l : Fin 64) (sub : Fin 25) (flit : Bytes) (shared : Bool) (errors : List Nat) (s : State) :
    exec (.flitReceive l sub flit shared errors) s = .next { s with dev := flitReceive s.dev l sub flit shared errors } := rfl
theorem exec_replayTimeout (l : Fin 64) (s : State) :
    exec (.replayTimeout l) s = .next { s with dev := replayTimeout s.dev l } := rfl
theorem exec_laneLockLoss (l : Fin 64) (s : State) :
    exec (.laneLockLoss l) s = .next { s with dev := laneLockLoss s.dev l } := rfl
theorem exec_stallTimeout (l : Fin 64) (s : State) :
    exec (.stallTimeout l) s = .next { s with dev := stallTimeout s.dev l } := rfl
theorem exec_linkRetrain (l : Fin 64) (s : State) :
    exec (.linkRetrain l) s = .next { s with dev := linkRetrain s.dev l } := rfl
theorem exec_respTimeout (die : Fin 2) (ix : Fin 2048) (s : State) :
    exec (.respTimeout die ix) s = .next { s with dev := respTimeout s.dev die ix } := rfl
theorem exec_bePacketInject (t : Fin 672) (s : State) :
    exec (.bePacketInject t) s = .next { s with dev := beInject s.dev t } := rfl
theorem exec_plannedEnqueue (l : Fin 64) (s : State) :
    exec (.plannedEnqueue l) s = .next { s with dev := plannedEnqueue s.dev l } := rfl
theorem exec_plannedForward (id : Nat) (s : State) :
    exec (.plannedForward id) s = .next { s with dev := plannedForward s.dev id } := rfl
theorem exec_plannedPacketArrival (id : Nat) (s : State) :
    exec (.plannedPacketArrival id) s = .next { s with dev := plannedTaken s.dev id } := rfl
theorem exec_beForward (id : Nat) (s : State) :
    exec (.beForward id) s = .next { s with dev := beForward s.dev id } := rfl
theorem exec_creditSend (l : Fin 64) (vc : Fin 6) (s : State) :
    exec (.creditSend l vc) s = .next { s with dev := creditSend s.dev l vc } := rfl
theorem exec_write (id : Nat) (s : State) :
    exec (.write id) s = .next { s with dev := writeSink s.dev id } := rfl
theorem exec_writeC (id : Nat) (s : State) :
    exec (.writeC id) s = .next { s with dev := writeCSink s.dev id } := rfl
theorem exec_read (id : Nat) (s : State) :
    exec (.read id) s = .next { s with dev := readSink s.dev id } := rfl
theorem exec_response (id : Nat) (s : State) :
    exec (.response id) s = .next { s with dev := responseSink s.dev id } := rfl
theorem exec_notice (id : Nat) (s : State) :
    exec (.notice id) s = .next { s with dev := noticeSink s.dev id } := rfl
theorem exec_noticeRetry (die : Fin 2) (ix : Fin 2048) (s : State) :
    exec (.noticeRetry die ix) s = .next { s with dev := noticeRetry s.dev die ix } := rfl
theorem exec_signal (id : Nat) (s : State) :
    exec (.signal id) s = .next { s with dev := signalSink s.dev id } := rfl
theorem exec_remoteWriteComplete (id : Nat) (s : State) :
    exec (.remoteWriteComplete id) s = .next { s with dev := recordWrite s.dev id } := rfl
theorem exec_signalRelease (id : Nat) (s : State) :
    exec (.signalRelease id) s = .next { s with dev := signalRelease s.dev id } := rfl
theorem exec_mgmt (id : Nat) (s : State) :
    exec (.mgmt id) s = .next { s with dev := mgmtSink s.dev id } := rfl
theorem exec_staleDrop (id : Nat) (s : State) :
    exec (.staleDrop id) s = .next { s with dev := staleDrop s.dev id } := rfl
theorem exec_anchorChange (l : Fin 64) (s : State) :
    exec (.anchorChange l) s = .next { s with dev := anchorChange s.dev l } := rfl
theorem exec_fenceTagWrite (who : Principal) (k : Fin 16) (tag : BitVec 16) (s : State) :
    exec (.fenceTagWrite who k tag) s = .next { s with dev := entryWrite s.dev who (0x3040 + 0x100 * k) 1 tag.toNat } := rfl
theorem exec_tagCooldownExpiry (tag : BitVec 16) (s : State) :
    exec (.tagCooldownExpiry tag) s = .next { s with dev := tagCooled s.dev tag.toNat } := rfl
theorem exec_linkRecheck (l : Fin 64) (s : State) :
    exec (.linkRecheck l) s = .next { s with dev := linkRecheck s.dev l } := rfl
theorem exec_barrierEntry (t : Fin 672) (s : State) :
    exec (.barrierEntry t) s = .next { s with dev := barrierEntry s.dev t } := rfl
theorem exec_barReport (s : State) :
    exec (.barReport) s = .next { s with dev := barReport s.dev } := rfl
theorem exec_barDone (s : State) :
    exec (.barDone) s = .next { s with dev := barDone s.dev } := rfl
theorem exec_barrierEnter (f : Fin 17) (s : State) :
    exec (.barrierEnter f) s = .next { s with dev := hostCommand s.dev f 0x0221 barrierEnterCommand } := rfl
theorem exec_barrierWatch (f : Fin 17) (s : State) :
    exec (.barrierWatch f) s = .next { s with dev := hostCommand s.dev f 0x0222 barrierWatchCommand } := rfl
theorem exec_bowStart (f : Fin 17) (s : State) :
    exec (.bowStart f) s = .next { s with dev := hostCommand s.dev f 0x0220 bowStartCommand } := rfl
theorem exec_bow (s : State) :
    exec (.bow) s = .next { s with dev := bowMessage s.dev } := rfl
theorem exec_bowAck (s : State) :
    exec (.bowAck) s = .next { s with dev := bowAck s.dev } := rfl
theorem exec_bowAckDeadline (k : Fin 16) (s : State) :
    exec (.bowAckDeadline k) s = .next { s with dev := bowAckDeadline s.dev k } := rfl
theorem exec_start (s : State) :
    exec (.start) s = .next { s with dev := startMessage s.dev } := rfl
theorem exec_bowStartEdge (k : Fin 16) (s : State) :
    exec (.bowStartEdge k) s = .next { s with dev := bowStartEdge s.dev k } := rfl
theorem exec_abort (s : State) :
    exec (.abort) s = .next { s with dev := abortMessage s.dev } := rfl
theorem exec_config (f : Fin 17) (s : State) :
    exec (.config f) s = .next { s with dev := hostCommand s.dev f 0x0300 serveConfig } := rfl
theorem exec_grammarWrite (f : Fin 17) (s : State) :
    exec (.grammarWrite f) s = .next { s with dev := hostCommand s.dev f 0x0301 grammarWrite } := rfl
theorem exec_grammarCommit (f : Fin 17) (s : State) :
    exec (.grammarCommit f) s = .next { s with dev := hostCommand s.dev f 0x0302 grammarCommit } := rfl
theorem exec_request (f : Fin 17) (s : State) :
    exec (.request f) s = .next { s with dev := hostCommand s.dev f 0x0303 serveRequest } := rfl
theorem exec_resume (f : Fin 17) (s : State) :
    exec (.resume f) s = .next { s with dev := hostCommand s.dev f 0x0304 serveResume } := rfl
theorem exec_park (f : Fin 17) (s : State) :
    exec (.park f) s = .next { s with dev := hostCommand s.dev f 0x0305 servePark } := rfl
theorem exec_cancel (f : Fin 17) (s : State) :
    exec (.cancel f) s = .next { s with dev := hostCommand s.dev f 0x0306 serveCancel } := rfl
theorem exec_initialPass (k : Fin 16) (s : State) :
    exec (.initialPass k) s = .next { s with dev := initialPass s.dev k } := rfl
theorem exec_draftPass (k : Fin 16) (draft : Nat) (s : State) :
    exec (.draftPass k draft) s = .next { s with dev := draftPassRow s.dev k draft } := rfl
theorem exec_finalPass (k : Fin 16) (s : State) :
    exec (.finalPass k) s = .next { s with dev := finalPass s.dev k } := rfl
theorem exec_passComplete (k : Fin 16) (s : State) :
    exec (.passComplete k) s = .next { s with dev := passComplete s.dev k } := rfl
theorem exec_parkComplete (k : Fin 16) (e : Fin 512) (s : State) :
    exec (.parkComplete k e) s = .next { s with dev := parkComplete s.dev k e } := rfl
theorem exec_resumeComplete (k : Fin 16) (e : Fin 512) (s : State) :
    exec (.resumeComplete k e) s = .next { s with dev := resumeComplete s.dev k e } := rfl
theorem exec_endDigestComplete (k : Fin 16) (e : Fin 512) (s : State) :
    exec (.endDigestComplete k e) s = .next { s with dev := endDigestComplete s.dev k e } := rfl
theorem exec_wconfig (f : Fin 17) (s : State) :
    exec (.wconfig f) s = .next { s with dev := hostCommand s.dev f 0x0400 wConfig } := rfl
theorem exec_wmanifest (f : Fin 17) (s : State) :
    exec (.wmanifest f) s = .next { s with dev := hostCommand s.dev f 0x0401 wManifest } := rfl
theorem exec_wdata (f : Fin 17) (s : State) :
    exec (.wdata f) s = .next { s with dev := hostCommand s.dev f 0x0402 wData } := rfl
theorem exec_wmirror (f : Fin 17) (s : State) :
    exec (.wmirror f) s = .next { s with dev := hostCommand s.dev f 0x0403 wMirror } := rfl
theorem exec_wclear (f : Fin 17) (s : State) :
    exec (.wclear f) s = .next { s with dev := hostCommand s.dev f 0x0404 wClear } := rfl
theorem exec_warm (f : Fin 17) (s : State) :
    exec (.warm f) s = .next { s with dev := hostCommand s.dev f 0x0405 wArm } := rfl
theorem exec_wdisarm (f : Fin 17) (s : State) :
    exec (.wdisarm f) s = .next { s with dev := hostCommand s.dev f 0x0406 wDisarm } := rfl
theorem exec_pubKeyWrite (who : Principal) (k n : Fin 16) (key : BitVec 768) (s : State) :
    exec (.pubKeyWrite who k n key) s = .next { s with dev := entryWrite s.dev who (0x3080 + 0x100 * k) (n + 1) key.toNat } := rfl
theorem exec_runRecord (k : Fin 16) (s : State) :
    exec (.runRecord k) s = .next { s with dev := runRecord s.dev k } := rfl
theorem exec_cbgOutputRead (who : Principal) (s : State) :
    exec (.cbgOutputRead who) s = .next { s with dev := cbgOutputRead s.dev who } := rfl
theorem exec_partGroupsWrite (who : Principal) (k : Fin 16) (m : BitVec 88) (s : State) :
    exec (.partGroupsWrite who k m) s = .next { s with dev := entryWrite s.dev who (0x30B0 + 0x100 * k) 1 m.toNat } := rfl
theorem exec_hbmChannelsWrite (who : Principal) (k : Fin 16) (m : BitVec 256) (s : State) :
    exec (.hbmChannelsWrite who k m) s = .next { s with dev := entryWrite s.dev who (0x3020 + 0x100 * k) 1 m.toNat } := rfl
theorem exec_capChannelsWrite (who : Principal) (k : Fin 16) (m : BitVec 16) (s : State) :
    exec (.capChannelsWrite who k m) s = .next { s with dev := entryWrite s.dev who (0x3020 + 0x100 * k) 2 m.toNat } := rfl
theorem exec_clearingComplete (r : Resource) (s : State) :
    exec (.clearingComplete r) s = .next { s with dev := clearedResource s.dev r } := rfl
theorem exec_boostEnableWrite (who : Principal) (k : Fin 16) (v : Bool) (s : State) :
    exec (.boostEnableWrite who k v) s = .next { s with dev := entryWrite s.dev who (0x30B0 + 0x100 * k) 2 (boolNat v) } := rfl
theorem exec_powerEvaluation (pm : Nat) (tj : Int) (sensor : Fin 92) (th : Int) (s : State) :
    exec (.powerEvaluation pm tj sensor th) s = .next { s with dev := powerEvaluation s.dev pm tj sensor th } := rfl
theorem exec_grantBitFall (k : Fin 16) (s : State) :
    exec (.grantBitFall k) s = .next { s with dev := grantBitFall s.dev k } := rfl
theorem exec_fuseRequest (who : Principal) (g : BitVec 8) (s : State) :
    exec (.fuseRequest who g) s = .next { s with dev := entryWrite s.dev who 0x1030 10 g.toNat } := rfl
theorem exec_fieldFuseProgram (g : Fin 84) (s : State) :
    exec (.fieldFuseProgram g) s = .next (s.programFuse g) := rfl
theorem exec_thermtrip (tj : Option Int) (s : State) :
    exec (.thermtrip tj) s = .next { s with dev := thermtrip s.dev tj } := rfl
theorem exec_sqDoorbell (f : Fin 17) (v : BitVec 32) (packets : List Bytes) (s : State) :
    exec (.sqDoorbell f v packets) s = .next { s with dev := sqDoorbell s.dev f v.toNat packets } := rfl
theorem exec_protoSelectWrite (f : Fin 17) (v : BitVec 32) (s : State) :
    exec (.protoSelectWrite f v) s = .next { s with dev := protoSelectWrite s.dev f v.toNat } := rfl
theorem exec_ringEnable (f : Fin 17) (r : Fin 4) (v : BitVec 32) (s : State) :
    exec (.ringEnable f r v) s = .next { s with dev := ringCtrlWrite s.dev f r v.toNat } := rfl
theorem exec_ringHeadWrite (f : Fin 17) (r : Fin 4) (v : BitVec 64) (s : State) :
    exec (.ringHeadWrite f r v) s = .next { s with dev := ringHeadWrite s.dev f r v.toNat } := rfl
theorem exec_ringDropsRead (f : Fin 17) (r : Fin 4) (s : State) :
    exec (.ringDropsRead f r) s = .next { s with dev := ringDropsRead s.dev f r } := rfl
theorem exec_registerWrite (w : WriteTarget) (s : State) :
    exec (.registerWrite w) s = .next { s with dev := registerWrite s.dev w } := rfl
theorem exec_ringPost (f : Fin 17) (r : Fin 4) (s : State) :
    exec (.ringPost f r) s = .next { s with dev := ringPost s.dev f r } := rfl
theorem exec_interruptHoldoff (f : Fin 17) (r : Fin 4) (s : State) :
    exec (.interruptHoldoff f r) s = .next { s with dev := interruptHoldoff s.dev f r } := rfl
theorem exec_mbxObjectAccess (f : Fin 17) (v : BitVec 32) (s : State) :
    exec (.mbxObjectAccess f v) s = .next { s with dev := mailboxDoorbell s.dev f v.toNat 1 } := rfl
theorem exec_mbxNotice (f : Fin 17) (v : BitVec 32) (s : State) :
    exec (.mbxNotice f v) s = .next { s with dev := takeHostNotice (mailboxDoorbell s.dev f v.toNat 2) f } := rfl
theorem exec_pcieFundamentalReset (s : State) :
    exec (.pcieFundamentalReset) s = .next { s with dev := perstAssert s.dev } := rfl
theorem exec_functionLevelReset (f : Fin 17) (s : State) :
    exec (.functionLevelReset f) s = .next { s with dev := functionLevelReset s.dev f } := rfl
theorem exec_pcieLinkLoss (s : State) :
    exec (.pcieLinkLoss) s = .next { s with dev := pcieLinkLoss s.dev } := rfl
theorem exec_nop (f : Fin 17) (s : State) :
    exec (.nop f) s = .next { s with dev := hostCommand s.dev f 0x0001 nop } := rfl
theorem exec_memWrite (f : Fin 17) (s : State) :
    exec (.memWrite f) s = .next { s with dev := hostCommand s.dev f 0x0100 memWrite } := rfl
theorem exec_memRead (f : Fin 17) (s : State) :
    exec (.memRead f) s = .next { s with dev := hostCommand s.dev f 0x0101 memRead } := rfl
theorem exec_jobMap (f : Fin 17) (s : State) :
    exec (.jobMap f) s = .next { s with dev := hostCommand s.dev f 0x0202 jobMap } := rfl
theorem exec_routeTable (f : Fin 17) (s : State) :
    exec (.routeTable f) s = .next { s with dev := hostCommand s.dev f 0x0203 routeTable } := rfl
theorem exec_treeRecord (f : Fin 17) (s : State) :
    exec (.treeRecord f) s = .next { s with dev := hostCommand s.dev f 0x0204 treeRecord } := rfl
theorem exec_loadParams (f : Fin 17) (s : State) :
    exec (.loadParams f) s = .next { s with dev := hostCommand s.dev f 0x0205 loadParams } := rfl
theorem exec_linkMeasures (f : Fin 17) (s : State) :
    exec (.linkMeasures f) s = .next { s with dev := hostCommand s.dev f 0x0206 linkMeasures } := rfl
theorem exec_partStop (f : Fin 17) (s : State) :
    exec (.partStop f) s = .next { s with dev := hostCommand s.dev f 0x0210 partStop } := rfl
theorem exec_partReset (f : Fin 17) (s : State) :
    exec (.partReset f) s = .next { s with dev := hostCommand s.dev f 0x0211 partReset } := rfl
theorem exec_partResetExecute (k : Fin 16) (s : State) :
    exec (.partResetExecute k) s = .next { s with dev := partResetExecute s.dev k } := rfl
theorem exec_perstNRelease (s : State) :
    exec (.perstNRelease) s = .next { s with dev := perstRelease s.dev } := rfl
theorem exec_functionLevelResetDone (f : Fin 17) (s : State) :
    exec (.functionLevelResetDone f) s = .next { s with dev := functionLevelResetDone s.dev f } := rfl
theorem exec_configurationRequest (w : ConfigWrite) (s : State) :
    exec (.configurationRequest w) s = .next { s with dev := configurationRequest s.dev w } := rfl
theorem exec_deviceResetKey (f : Fin 17) (v : BitVec 32) (s : State) :
    exec (.deviceResetKey f v) s = .next { s with dev := deviceResetKey s.dev f v.toNat } := rfl
theorem exec_deviceReset (pwrgd resetN : Bool) (s : State) :
    exec (.deviceReset pwrgd resetN) s = .next { s with dev := deviceResetPins s.dev pwrgd resetN } := rfl
theorem exec_fwSegment (f : Fin 17) (s : State) :
    exec (.fwSegment f) s = .next { s with dev := hostCommand s.dev f 0x0010 fwSegment } := rfl
theorem exec_fwStart (f : Fin 17) (s : State) :
    exec (.fwStart f) s = .next { s with dev := hostCommand s.dev f 0x0011 fwStart } := rfl
theorem exec_bootRom (slot : Fin 8) (s : State) :
    exec (.bootRom slot) s = .next (s.boot slot) := rfl
theorem exec_fwInitDone (s : State) :
    exec (.fwInitDone) s = .next { s with dev := fwInitDone s.dev } := rfl
theorem exec_memTrainDone (hbm : Bool) (cap : List (Option Nat)) (hbmStacks : List (Nat × Bytes)) (s : State) :
    exec (.memTrainDone hbm cap hbmStacks) s = .next { s with dev := memTrainDone s.dev hbm cap hbmStacks } := rfl
theorem exec_linkTrainDone (s : State) :
    exec (.linkTrainDone) s = .next { s with dev := linkTrainDone s.dev } := rfl
theorem exec_selftestDone (fails : List (Nat × Nat)) (s : State) :
    exec (.selftestDone fails) s = .next { s with dev := selftestDone s.dev fails } := rfl
theorem exec_tapInstruction (j : TapInstr) (s : State) :
    exec (.tapInstruction j) s = .next { s with dev := tapInstruction s.dev j } := rfl
theorem exec_refclkReturn (s : State) :
    exec (.refclkReturn) s = .next { s with dev := refclkReturn s.dev } := rfl
theorem exec_thermtripRelease (tj : Int) (s : State) :
    exec (.thermtripRelease tj) s = .next { s with dev := thermtripRelease s.dev tj } := rfl
theorem exec_vddAuxLoss (s : State) :
    exec (.vddAuxLoss) s = .next { s with dev := vddAuxLoss s.dev } := rfl
theorem exec_verifyDone (s : State) :
    exec (.verifyDone) s = .next { s with dev := verifyDone s.dev } := rfl
theorem exec_oapRead (p : OapPath) (s : State) :
    exec (.oapRead p) s = .next { s with dev := oapRead s.dev p } := rfl
theorem exec_oapWrite (p : OapPath) (s : State) :
    exec (.oapWrite p) s = .next { s with dev := oapWrite s.dev p } := rfl
theorem exec_oapDiscover (p : OapPath) (s : State) :
    exec (.oapDiscover p) s = .next { s with dev := oapDiscover s.dev p } := rfl
theorem exec_oapResponseExpiry (s : State) :
    exec (.oapResponseExpiry) s = .next { s with dev := oapResponseExpiry s.dev } := rfl
theorem exec_deviceIdWrite (who : Principal) (v : BitVec 32) (s : State) :
    exec (.deviceIdWrite who v) s = .next { s with dev := entryWrite s.dev who 0x2000 1 v.toNat } := rfl
theorem exec_healthEvaluation (s : State) :
    exec (.healthEvaluation) s = .next { s with dev := healthEvaluation s.dev } := rfl
theorem exec_healthRestore (who : Principal) (v : BitVec 144) (s : State) :
    exec (.healthRestore who v) s = .next { s with dev := entryWrite s.dev who 0x6001 10 v.toNat } := rfl
theorem exec_errorHandling (s : State) :
    exec (.errorHandling) s = .next { s with dev := errorHandling s.dev } := rfl
theorem exec_fatalLinkDisable (l : Fin 64) (s : State) :
    exec (.fatalLinkDisable l) s = .next { s with dev := fatalLinkDisable s.dev l } := rfl
theorem exec_dumpFetch (f : Fin 17) (s : State) :
    exec (.dumpFetch f) s = .next { s with dev := hostCommand s.dev f 0x0600 dumpFetch } := rfl
theorem exec_dumpComplete (s : State) :
    exec (.dumpComplete) s = .next { s with dev := dumpComplete s.dev } := rfl
theorem exec_lgClear (who : Principal) (s : State) :
    exec (.lgClear who) s = .next { s with dev := entryWrite s.dev who 0x6013 0x23 1 } := rfl

end Sys2Proof.Machine
end

