-- ==== Sys2Proof/Laws/Core.lean ====
section
/-!
SUPPORT. What the shared operations of the control core do: fetching, periods, untimed instructions, branches.
-/
namespace Sys2Proof.Machine

/-! ### The period of an instruction -/

@[simp] theorem Dev.takePeriod_tile (d : Dev) (t u : Nat) :
    (d.takePeriod t).tile u = if u = t then { d.tile t with core := { (d.tile t).core with spare := false } } else d.tile u := by
  simp only [Dev.takePeriod, Dev.updCore, Dev.tile_updTile]
  split
  · subst_vars; rfl
  · rfl
@[simp] theorem Dev.takePeriod_mem (d : Dev) (t : Nat) : (d.takePeriod t).mem = d.mem := rfl
@[simp] theorem Dev.takePeriod_lost (d : Dev) (t : Nat) : (d.takePeriod t).lost = d.lost := rfl
@[simp] theorem Dev.takePeriod_faults (d : Dev) (t : Nat) : (d.takePeriod t).faults = d.faults := rfl
@[simp] theorem Dev.takePeriod_parts (d : Dev) (t : Nat) : (d.takePeriod t).parts = d.parts := rfl

/-- A step of a running core that needs no rest does nothing. -/
theorem runSteps_still (step : Dev → Nat → Dev × Bool) (t n : Nat) (d : Dev) (h : step d t = (d, false)) :
    runSteps step t n d = d := by
  cases n with
  | zero => rfl
  | succ n => simp [runSteps, h]

/-- A tile whose control core is to execute an instruction runs no further. -/
theorem runTile_inPeriod (d : Dev) (t : Nat) (h : d.inPeriod t) : runTile d t = d := by
  refine runSteps_still _ _ _ _ ?_
  have h1 := h.1
  simp only [Dev.coreRuns, Bool.and_eq_true, beq_iff_eq] at h1
  simp [runStep, h1.1, h1.2, h.2.1]

/-- A core that is in a period for an instruction is at its next instruction. -/
theorem Dev.atPeriod_inPeriod (d : Dev) (t : Nat) (h : d.inPeriod t) : d.atPeriod t = d := by
  simp [Dev.atPeriod, toInstruction, runTile_inPeriod d t h, h.1, h.2.1, h.2.2]

theorem toInstruction_inPeriod (d : Dev) (t : Nat) (h : d.inPeriod t) : (toInstruction d t).2 = true := by
  simp [toInstruction, runTile_inPeriod d t h, h.1, h.2.1, h.2.2]

/-- A clean fetch: the body of the instruction runs in its period. -/
theorem instruction_of_fetches (d : Dev) (t : Nat) (body : Dev → Dev) (h : d.fetches t) :
    instruction d t body = body ((d.atPeriod t).takePeriod t) := by
  obtain ⟨h1, h2, h3, h4⟩ := h
  unfold Dev.coreAt at h2 h3 h4
  have hf : ((d.atPeriod t).takePeriod t).faultySpan
      (imemAddr t ((d.atPeriod t).tile t).imemActive (8 * ((d.atPeriod t).tile t).core.pc)) 8 = [] := h3
  have hb : ((d.atPeriod t).takePeriod t).bytesAt
      (imemAddr t ((d.atPeriod t).tile t).imemActive (8 * ((d.atPeriod t).tile t).core.pc)) 8
      = (d.atPeriod t).bytesAt
      (imemAddr t ((d.atPeriod t).tile t).imemActive (8 * ((d.atPeriod t).tile t).core.pc)) 8 := rfl
  unfold instruction
  rw [show toInstruction d t = (d.atPeriod t, true) from Prod.ext rfl h1]
  simp only [Bool.not_true, Bool.false_eq_true, if_false, Dev.takePeriod_tile, if_true, Nat.not_lt.2 h2, fetchCheck, hf, hb,
    List.find?_nil, List.isEmpty_nil, true_and]
  by_cases hz : leNat ((d.atPeriod t).bytesAt (imemAddr t ((d.atPeriod t).tile t).imemActive
      (8 * ((d.atPeriod t).tile t).core.pc)) 8) = 0
  · obtain ⟨k1, k2⟩ := h4 hz
    rw [List.getD_eq_getElem?_getD] at k2
    simp [k1, k2]
  · simp [hz]

/-- The core of an instruction's period works with the registers that the core comes with. -/
theorem Dev.regs_takePeriod (d : Dev) (t : Nat) : (((d.atPeriod t).takePeriod t).tile t).core = { d.coreAt t with spare := false } := by
  simp [Dev.coreAt]

/-- The device in which the body of an instruction runs: the instruction has taken its period. -/
def Dev.begun (d : Dev) (t : Nat) : Dev := (d.atPeriod t).takePeriod t

/-- What an untimed instruction with a true guard leaves in the core (R248). -/
theorem untimed_core (d : Dev) (t : Nat) (g : Guard) (f : Core → Core) (h : d.fetches t)
    (hg : g.holds ((d.begun t).tile t).core = true) :
    ((untimed d t g f).tile t).core = (f ((d.begun t).tile t).core).next := by
  rw [untimed, instruction_of_fetches d t _ h]
  unfold Dev.begun at *
  generalize (d.atPeriod t).takePeriod t = e at *
  simp [hg]

/-- What an instruction that may branch leaves in the core, its guard true (R248). -/
theorem branching_core (d : Dev) (t : Nat) (g : Guard) (target : Nat) (taken : Core → Bool) (f : Core → Core)
    (h : d.fetches t) (hg : g.holds ((d.begun t).tile t).core = true) (ht : target < 8192) :
    ((branching d t g target taken f).tile t).core =
      (let c := ((d.begun t).tile t).core
       if taken c then { f c with pc := target } else (f c).next) := by
  rw [branching, instruction_of_fetches d t _ h]
  have : ¬ 8191 < target := by omega
  unfold Dev.begun at *
  generalize (d.atPeriod t).takePeriod t = e at *
  cases hT : taken (e.tile t).core <;> simp [hg, this, hT]

/-- An instruction in its period changes at most its tile's core, where its body does. -/
theorem Dev.onlyCore_updCore (d : Dev) (t : Nat) (f : Core → Core) : d.onlyCore t ((d.takePeriod t).updCore t f) := by
  refine ⟨rfl, fun u hu => ?_, ?_⟩
  · simp [hu, Dev.updCore]
  · simp [Dev.updCore, Tile.updCore]

/-! ### Lines and faults -/

theorem Dev.rawBytes_congr (d e : Dev) (h : d.mem = e.mem) (hl : d.lost = e.lost) (a n : Nat) :
    d.rawBytes a n = e.rawBytes a n := by
  induction n generalizing a with
  | zero => rfl
  | succ n ih => simp [Dev.rawBytes, Dev.byte, h, hl, ih]
theorem Dev.faultySpan_congr (d e : Dev) (h : d.faults = e.faults) (a n : Nat) : d.faultySpan a n = e.faultySpan a n := by
  simp [Dev.faultySpan, h]
/-- A read of bytes without a fault gives the bytes as stored. -/
theorem Dev.bytesAt_clean (d : Dev) (a n : Nat) (h : d.faultySpan a n = []) : d.bytesAt a n = d.rawBytes a n := by
  simp [Dev.bytesAt, h]
/-- Taking words without a fault changes nothing (R530). -/
theorem checkStoreRead_clean (v d : Dev) (t o n : Nat) (h : v.faultySpan (storeAddr t o) n = []) :
    checkStoreRead v d t o n = d := by
  simp [checkStoreRead, h]
/-- A clean fetch of a descriptor (R533). -/
theorem fetchCheck_clean (d : Dev) (t o : Nat) (h : d.faultySpan (imemAddr t (d.tile t).imemActive o) 128 = []) :
    fetchCheck d t o 128 = (some d, d) := by
  simp [fetchCheck, h]

/-- A control-core fault stops the core on its instruction with its cause (R267). -/
theorem ccFault_core (d : Dev) (t cause o e l : Nat) : ((ccFault d t cause o e l).tile t).core =
    { (d.tile t).core with state := .faulted, faultCause := cause } := by
  unfold ccFault
  simp

/-! ### Timed instructions -/

/-- The state in which the body of a timed action runs: its period is taken and its due cycle noted (R105). -/
def Dev.atDue (d : Dev) (t : Nat) (due : Due) : Dev :=
  ((d.atPeriod t).takePeriod t).updCore t (fun c => { c with lastDue := due.value (d.coreAt t) })

/-- A timed action in order whose guard is true: its body at its due cycle (R105, R252). -/
theorem timed_inOrder (d : Dev) (t : Nat) (g : Guard) (due : Due) (body : Dev → Nat → Dev) (h : d.fetches t)
    (ho : (d.atPeriod t).dueInOrder t due) (hg : g.holds (d.coreAt t) = true) :
    timed d t g due body = body (d.atDue t due) (due.value (d.coreAt t)) := by
  rw [timed, instruction_of_fetches _ _ _ h]
  have h1 := Nat.not_lt.2 ho.1
  have h2 := Nat.not_le.2 ho.2
  have hv (c : Core) (b : Bool) : due.value { c with spare := b } = due.value c := by cases due <;> rfl
  have hh (c : Core) (b : Bool) (n : Nat) : g.holds { c with spare := b, lastDue := n } = g.holds c := by cases g <;> rfl
  have ho' : ((d.atPeriod t).takePeriod t).stintCycles (((d.atPeriod t).takePeriod t).owner t)
      = (d.atPeriod t).stintCycles ((d.atPeriod t).owner t) := rfl
  simp only [Dev.coreAt] at hg
  simp [Dev.atDue, Dev.coreAt, hv, hh, hg, h1, h2, ho']

/-- A timed action in order whose guard is false: pace (R251). -/
theorem timed_guardFalse (d : Dev) (t : Nat) (g : Guard) (due : Due) (body : Dev → Nat → Dev) (h : d.fetches t)
    (ho : (d.atPeriod t).dueInOrder t due) (hg : g.holds (d.coreAt t) = false) :
    timed d t g due body = (d.atDue t due).updCore t (fun c => { c.next with release := due.value (d.coreAt t) }) := by
  rw [timed, instruction_of_fetches _ _ _ h]
  have h1 := Nat.not_lt.2 ho.1
  have h2 := Nat.not_le.2 ho.2
  have hv (c : Core) (b : Bool) : due.value { c with spare := b } = due.value c := by cases due <;> rfl
  have hh (c : Core) (b : Bool) (n : Nat) : g.holds { c with spare := b, lastDue := n } = g.holds c := by cases g <;> rfl
  have ho' : ((d.atPeriod t).takePeriod t).stintCycles (((d.atPeriod t).takePeriod t).owner t)
      = (d.atPeriod t).stintCycles ((d.atPeriod t).owner t) := rfl
  simp only [Dev.coreAt] at hg
  simp [Dev.atDue, Dev.coreAt, hv, hh, hg, h1, h2, ho']

/-- A timed action out of order (R105, R252). -/
theorem timed_outOfOrder (d : Dev) (t : Nat) (g : Guard) (due : Due) (body : Dev → Nat → Dev) (h : d.fetches t)
    (ho : ¬ (d.atPeriod t).dueInOrder t due) :
    ∃ e, timed d t g due body = orderFault ((d.atPeriod t).takePeriod t) t e := by
  rw [timed, instruction_of_fetches _ _ _ h]
  have hv (c : Core) (b : Bool) : due.value { c with spare := b } = due.value c := by cases due <;> rfl
  simp only [Dev.takePeriod_tile, if_true, hv]
  split
  · exact ⟨_, rfl⟩
  · split
    · exact ⟨_, rfl⟩
    · rename_i h1 h2
      exact absurd ⟨Nat.not_lt.1 h1, Nat.not_le.1 h2⟩ ho

/-- The core as the body of a timed action finds it. -/
@[simp] theorem Dev.atDue_core (d : Dev) (t : Nat) (due : Due) : ((d.atDue t due).tile t).core =
    { d.coreAt t with spare := false, lastDue := due.value (d.coreAt t) } := by
  simp [Dev.atDue, Dev.coreAt]

/-- A due cycle that has not come: R becomes it, and the action waits for it (R106). -/
theorem reach_later (d : Dev) (t c : Nat) (a : TimedAct) (h : (d.tile t).core.cycle < c) :
    reach d t c a = (d.updCore t (fun x => { x with release := c })).updCore t (fun x => { x with state := .due a c }) := by
  have : ¬ c ≤ (d.tile t).core.cycle := by omega
  simp [reach, this]

/-- A due cycle that is in progress: R becomes it, and the action is performed (R106). -/
theorem reach_now (d : Dev) (t c : Nat) (a : TimedAct) (h : c ≤ (d.tile t).core.cycle) :
    reach d t c a = perform (d.updCore t (fun x => { x with release := c })) t a := by
  simp [reach, h]

/-- An action whose due cycle has come is performed in a period that the control core has not used (R106). -/
theorem runStep_due (d : Dev) (t c : Nat) (a : TimedAct) (h : d.tileRuns t = true) (hs : (d.tile t).core.state = .due a c)
    (hc : c ≤ (d.tile t).core.cycle) (hp : (d.tile t).core.spare = true) : runStep d t = (perform d t a, true) := by
  simp [runStep, h, hs, hc, hp]

end Sys2Proof.Machine
end

