-- ==== Sys2Proof/Machine/Package.lean ====
section
/-!
DEFINITION. The lands of the package (23): what each of the 15,872 lands carries. No command changes it.
-/
namespace Sys2Proof.Machine

/-- The four quadrants of the lands (R664); compute die CDd lies under the d-th (R11, R663). -/
inductive Quadrant where
  | nw | ne | sw | se
deriving DecidableEq, Repr

/-- A land by its quadrant, row and column (R664). -/
structure Land where
  quadrant : Quadrant
  row : Nat
  col : Nat
deriving DecidableEq, Repr

/-- The rails in the order of Table EP-3. -/
inductive Rail where
  | vddCd (d : Nat) | vddNd (n : Nat) | vddLink | vddLinkH | vddLpPhy | vddqLp | hbmVdd | hbmVddq | hbmVpp | vddPcie | vddAux
deriving DecidableEq, Repr

/-- The single-ended and clock signals of Table EP-2. -/
inductive BoardSignal where
  | refclkP | refclkN | syncN | pcieRefclkP | pcieRefclkN | perstN | mgmtP | mgmtN | resetN | pwrgd | faultN | thermtripN
  | tck | tms | tdi | tdo | trstN | testmode | slot (i : Nat)
deriving DecidableEq, Repr

/-- The signals of a capacity channel (R668). -/
inductive CapSignal where
  | dq (i : Nat) | cb (i : Nat) | dqs (i : Nat) (pos : Bool) | wck (i : Nat) (pos : Bool) | ck (pos : Bool) | ca (i : Nat)
  | cs (i : Nat) | resetN
deriving DecidableEq, Repr

/-- What a land carries. -/
inductive LandUse where
  /-- A lane of a link in one direction, one line of its pair (R666). -/
  | link (n lane : Nat) (transmit pos : Bool)
  /-- A PCIe lane (R667). -/
  | pcie (lane : Nat) (transmit pos : Bool)
  /-- A signal of a capacity channel (R668). -/
  | capacity (c : Nat) (x : CapSignal)
  /-- A signal of Table EP-2 (R669). -/
  | signal (x : BoardSignal)
  /-- A sense line of a rail (R670). -/
  | sense (r : Rail) (pos : Bool)
  /-- A supply (R671, R672). -/
  | supply (r : Rail)
  /-- Ground: every land with no other use (R665). -/
  | gnd
deriving DecidableEq, Repr

/-- The number of a quadrant's first link, sixteenth part, and of its first capacity channel, fourth part (R666, R668). -/
def Quadrant.index : Quadrant → Nat
  | .nw => 0 | .sw => 1 | .ne => 2 | .se => 3

/-- The compute die under a quadrant (R663). -/
def Quadrant.die : Quadrant → Nat
  | .nw => 0 | .ne => 1 | .sw => 2 | .se => 3

/-- The network die whose supply lies in a quadrant (Table EP-3). -/
def Quadrant.network : Quadrant → Nat
  | .nw | .sw => 0
  | .ne | .se => 1

/-- The rails in the order of Table EP-3, counting from 0 (R670). -/
def railOrder : List Rail :=
  [.vddCd 0, .vddCd 1, .vddCd 2, .vddCd 3, .vddNd 0, .vddNd 1, .vddLink, .vddLinkH, .vddLpPhy, .vddqLp, .hbmVdd, .hbmVddq, .hbmVpp,
    .vddPcie, .vddAux]

/-- The rails of the band of other rails in a quadrant with their counts of lands (R672, Table EP-3). -/
def Quadrant.rails (q : Quadrant) : List (Rail × Nat) :=
  [(.vddNd q.network, 105), (.vddLink, 35), (.vddLinkH, 10), (.vddLpPhy, 5), (.vddqLp, 6), (.hbmVdd, 40), (.hbmVddq, 30),
    (.hbmVpp, 3)] ++ (match q with | .nw => [(.vddPcie, 14), (.vddAux, 6)] | _ => [])

/-- The signals of a capacity channel in the order of R668. -/
def capOrder : List CapSignal :=
  (List.range 32).map .dq ++ (List.range 4).map .cb ++ (List.range 5).flatMap (fun i => [.dqs i true, .dqs i false])
    ++ (List.range 5).flatMap (fun i => [.wck i true, .wck i false]) ++ [.ck true, .ck false] ++ (List.range 7).map .ca
    ++ [.cs 0, .cs 1, .resetN]

/-- The signals of Table EP-2 by row and column. -/
def boardSignals : List (Nat × Nat × BoardSignal) :=
  [(1, 53, .refclkP), (1, 54, .refclkN), (1, 58, .syncN), (3, 53, .pcieRefclkP), (3, 54, .pcieRefclkN), (3, 58, .perstN),
    (5, 53, .mgmtP), (5, 54, .mgmtN), (7, 53, .resetN), (7, 54, .pwrgd), (7, 58, .faultN), (7, 59, .thermtripN), (9, 53, .tck),
    (9, 54, .tms), (9, 58, .tdi), (9, 59, .tdo), (11, 53, .trstN), (11, 54, .testmode), (11, 58, .slot 0), (11, 59, .slot 1),
    (13, 53, .slot 2)]

/-- The item at a place of a list in which each item takes a number of places. -/
def runAt : List (Rail × Nat) → Nat → Option Rail
  | [], _ => none
  | (r, n) :: t, i => if i < n then some r else runAt t (i - n)

/-- Direction and line of a column of a lane: 53 and 54 transmit, 58 and 59 receive (R666, R667). -/
def pairColumn (col : Nat) : Option (Bool × Bool) :=
  match col with
  | 53 => some (true, true) | 54 => some (true, false) | 58 => some (false, true) | 59 => some (false, false)
  | _ => none

/-- What the columns 50 to 61 of a quadrant carry (R666, R667, R669, R670). -/
def outerUse (q : Quadrant) (row col : Nat) : LandUse :=
  match pairColumn col with
  | none => .gnd
  | some (tx, pos) =>
    if row % 2 = 0 then .link (16 * q.index + row / 4) (row % 4 / 2) tx pos
    else match q with
      | .nw => if row % 4 = 3 then .pcie (row / 4) tx pos else .gnd
      | .sw => match boardSignals.find? (fun x => x.1 == row && x.2.1 == col) with | some x => .signal x.2.2 | none => .gnd
      | .se => if row % 4 = 1 ∧ tx then (match railOrder[row / 4]? with | some r => .sense r pos | none => .gnd) else .gnd
      | .ne => .gnd

/-- What a land carries (Table EP-1); rows are 0 to 63 and columns 0 to 61 (R664). -/
def Land.use (l : Land) : LandUse :=
  let even : Bool := (l.row + l.col) % 2 == 0
  if l.col < 28 then (if even then .supply (.vddCd l.quadrant.die) else .gnd)
  else if l.col < 38 then
    -- the even lands of a block of 16 rows, in row-major order: five in each row
    (if even then
      match capOrder[5 * (l.row % 16) + (l.col - 28) / 2]? with
      | some x => .capacity (4 * l.quadrant.index + l.row / 16) x
      | none => .gnd
    else .gnd)
  else if l.col < 50 then
    (if even then
      match runAt l.quadrant.rails (6 * l.row + (l.col - 38) / 2) with
      | some r => .supply r
      | none => .gnd
    else .gnd)
  else outerUse l.quadrant l.row l.col

end Sys2Proof.Machine
end

