-- ==== Sys2Proof/WellFormed.lean ====
section
/-!
DEFINITION. Which terms of Instr are commands that can be sent: operands that a fixed field of the spec bounds.
-/
namespace Sys2Proof

/-- The source of a frame at the management port: an address of 16 bytes and a UDP port of 2 (R628). -/
def OapPath.wellFormed (p : OapPath) : Bool :=
  match p with
  | .mailbox _ => true
  | .port source _ _ => source.length == 18

/-- The place of a write lies in its window: 1 MiB of registers, 4,096 bytes of mailbox, 16 bits of index and 8 of subindex and
type (R582, R583, R614). -/
def WriteTarget.inRange (w : WriteTarget) : Bool :=
  match w with
  | .register _ off _ => decide (off < 0x100000)
  | .mailbox _ off d => decide (off + d.length ≤ 4096)
  | .entry _ ix sub ty _ => decide (ix < 65536) && decide (sub < 256) && decide (ty < 256)

/-- A command that can be sent: a branch target is an index of the instruction memory (R244), issue.eng carries at most two base
adjustments (R181), a loss of lock is judged at 4 beat edges (R83), a training frame has 64 bytes (R344), a flit 256 (R350), and a
submission window holds 8 packets (R582, R585). -/
def Instr.wellFormed (i : Instr) : Bool :=
  match i with
  | .nextEpochWrite _ _ => true
  | .resync _ => true
  | .epochEdge _ => true
  | .epochWrap => true
  | .refclkLoss => true
  | .stintBoundary _ => true
  | .slipEnd _ => true
  | .transferDeadline _ => true
  | .holdNotice => true
  | .freeze _ => true
  | .clear => true
  | .treeResume => true
  | .resumeEdge _ => true
  | .holdLimitExpiry _ => true
  | .decisionPoint _ => true
  | .voteUp => true
  | .voteDown => true
  | .regionStop _ => true
  | .regionStopLockCheck _ _ => true
  | .decisionWord _ => true
  | .regionStopEnd _ => true
  | .countersClear _ _ => true
  | .droop _ _ _ => true
  | .deficitLimit _ => true
  | .jitterTrip _ _ => true
  | .dutyTrip _ _ => true
  | .lossOfLock _ errs => decide (errs.length = 4)
  | .crossingForward _ _ => true
  | .readWait _ _ => true
  | .writeWait _ => true
  | .add _ _ _ _ _ => true
  | .sub _ _ _ _ _ => true
  | .mul _ _ _ _ _ => true
  | .and _ _ _ _ _ => true
  | .or _ _ _ _ _ => true
  | .xor _ _ _ _ _ => true
  | .shl _ _ _ _ _ => true
  | .shr _ _ _ _ _ => true
  | .sar _ _ _ _ _ => true
  | .set _ _ _ _ => true
  | .cmpEq _ _ _ _ _ => true
  | .cmpNe _ _ _ _ _ => true
  | .cmpLt _ _ _ _ _ => true
  | .cmpLtu _ _ _ _ _ => true
  | .cmpGe _ _ _ _ _ => true
  | .cmpGeu _ _ _ _ _ => true
  | .pand _ _ _ _ _ => true
  | .por _ _ _ _ _ => true
  | .pnot _ _ _ _ => true
  | .pset _ _ _ _ => true
  | .cset _ _ _ _ => true
  | .cadd _ _ _ _ _ => true
  | .dbnz _ _ _ target => decide (target < 8192)
  | .cmov _ _ _ _ => true
  | .cmovh _ _ _ _ => true
  | .kset _ _ _ _ _ _ => true
  | .br _ _ target => decide (target < 8192)
  | .brP _ _ _ _ target => decide (target < 8192)
  | .brK _ _ _ target => decide (target < 8192)
  | .call _ _ target => decide (target < 8192)
  | .ret _ _ => true
  | .rdSys _ _ _ _ => true
  | .ldB _ _ _ _ _ _ => true
  | .ldH _ _ _ _ _ _ => true
  | .ldW _ _ _ _ _ _ => true
  | .ldD _ _ _ _ _ _ => true
  | .stB _ _ _ _ _ _ => true
  | .stH _ _ _ _ _ _ => true
  | .stW _ _ _ _ _ _ => true
  | .stD _ _ _ _ _ _ => true
  | .issue _ _ _ _ adj _ => decide (adj.length ≤ 2)
  | .queueFullStall _ _ => true
  | .pace _ _ _ => true
  | .waitMq _ _ _ _ _ => true
  | .waitSig _ _ _ _ _ => true
  | .waitMbx _ _ _ => true
  | .waitCompletion _ _ => true
  | .stintEnd _ _ _ => true
  | .stintNap _ _ _ _ _ => true
  | .tileWake _ => true
  | .wakeSelfCheck _ _ => true
  | .tileRejoin _ => true
  | .landingWrite _ => true
  | .cgMm _ => true
  | .vuEw _ => true
  | .vuRed _ => true
  | .vuQuant _ => true
  | .vuChk _ => true
  | .vuStow _ => true
  | .vuJoin _ => true
  | .vuFin _ => true
  | .sfuFn _ => true
  | .ixGather _ => true
  | .ixScatter _ => true
  | .ixSegred _ => true
  | .mvCopy _ => true
  | .mvSend _ => true
  | .mvLand _ => true
  | .mvMqRead _ => true
  | .mvMqWrite _ => true
  | .mvMqGather _ => true
  | .mvMqScatter _ => true
  | .mvMqMove _ => true
  | .mqFullWait _ _ => true
  | .mvLinkPlanned _ => true
  | .mvLinkWrite _ => true
  | .mvLinkWriteC _ => true
  | .mvLinkRead _ => true
  | .mvLinkBarrier _ => true
  | .mvLinkSignal _ => true
  | .mvLinkNotice _ => true
  | .mvImem _ => true
  | .dgOpen _ => true
  | .dgScan _ => true
  | .dgTake _ => true
  | .fuLoad _ => true
  | .fuFeat _ => true
  | .fuEval _ => true
  | .fuNsample _ => true
  | .channelSlot _ => true
  | .pageDecode _ => true
  | .mqCompletion _ _ => true
  | .scrub _ => true
  | .scrubComplete => true
  | .injectArm _ => true
  | .planImage _ => true
  | .planAbort _ => true
  | .successorStage _ => true
  | .linkEnableWrite _ _ _ => true
  | .detectLock _ => true
  | .trainingFrame _ frame _ => decide (frame.length = 64)
  | .trainTimeout _ => true
  | .measureComplete _ _ => true
  | .remeasure _ _ => true
  | .flitTransmit _ _ => true
  | .flitReceive _ _ flit _ _ => decide (flit.length = 256)
  | .replayTimeout _ => true
  | .laneLockLoss _ => true
  | .stallTimeout _ => true
  | .linkRetrain _ => true
  | .respTimeout _ _ => true
  | .bePacketInject _ => true
  | .plannedEnqueue _ => true
  | .plannedForward _ => true
  | .plannedPacketArrival _ => true
  | .beForward _ => true
  | .creditSend _ _ => true
  | .write _ => true
  | .writeC _ => true
  | .read _ => true
  | .response _ => true
  | .notice _ => true
  | .noticeRetry _ _ => true
  | .signal _ => true
  | .remoteWriteComplete _ => true
  | .signalRelease _ => true
  | .mgmt _ => true
  | .staleDrop _ => true
  | .anchorChange _ => true
  | .fenceTagWrite _ _ _ => true
  | .tagCooldownExpiry _ => true
  | .linkRecheck _ => true
  | .barrierEntry _ => true
  | .barReport => true
  | .barDone => true
  | .barrierEnter _ => true
  | .barrierWatch _ => true
  | .bowStart _ => true
  | .bow => true
  | .bowAck => true
  | .bowAckDeadline _ => true
  | .start => true
  | .bowStartEdge _ => true
  | .abort => true
  | .config _ => true
  | .grammarWrite _ => true
  | .grammarCommit _ => true
  | .request _ => true
  | .resume _ => true
  | .park _ => true
  | .cancel _ => true
  | .initialPass _ => true
  | .draftPass _ _ => true
  | .finalPass _ => true
  | .passComplete _ => true
  | .parkComplete _ _ => true
  | .resumeComplete _ _ => true
  | .endDigestComplete _ _ => true
  | .wconfig _ => true
  | .wmanifest _ => true
  | .wdata _ => true
  | .wmirror _ => true
  | .wclear _ => true
  | .warm _ => true
  | .wdisarm _ => true
  | .pubKeyWrite _ _ _ _ => true
  | .runRecord _ => true
  | .cbgOutputRead _ => true
  | .partGroupsWrite _ _ _ => true
  | .hbmChannelsWrite _ _ _ => true
  | .capChannelsWrite _ _ _ => true
  | .clearingComplete _ => true
  | .boostEnableWrite _ _ _ => true
  | .powerEvaluation _ _ _ _ => true
  | .grantBitFall _ => true
  | .fuseRequest _ _ => true
  | .fieldFuseProgram _ => true
  | .thermtrip _ => true
  | .sqDoorbell _ _ packets => decide (packets.length ≤ 8)
  | .protoSelectWrite _ _ => true
  | .ringEnable _ _ _ => true
  | .ringHeadWrite _ _ _ => true
  | .ringDropsRead _ _ => true
  | .registerWrite w => w.inRange
  | .ringPost _ _ => true
  | .interruptHoldoff _ _ => true
  | .mbxObjectAccess _ _ => true
  | .mbxNotice _ _ => true
  | .pcieFundamentalReset => true
  | .functionLevelReset _ => true
  | .pcieLinkLoss => true
  | .nop _ => true
  | .memWrite _ => true
  | .memRead _ => true
  | .jobMap _ => true
  | .routeTable _ => true
  | .treeRecord _ => true
  | .loadParams _ => true
  | .linkMeasures _ => true
  | .partStop _ => true
  | .partReset _ => true
  | .partResetExecute _ => true
  | .perstNRelease => true
  | .functionLevelResetDone _ => true
  | .configurationRequest _ => true
  | .deviceResetKey _ _ => true
  | .deviceReset _ _ => true
  | .fwSegment _ => true
  | .fwStart _ => true
  | .bootRom _ => true
  | .fwInitDone => true
  | .memTrainDone _ _ _ => true
  | .linkTrainDone => true
  | .selftestDone _ => true
  | .tapInstruction _ => true
  | .refclkReturn => true
  | .thermtripRelease _ => true
  | .vddAuxLoss => true
  | .verifyDone => true
  | .oapRead p => p.wellFormed
  | .oapWrite p => p.wellFormed
  | .oapDiscover p => p.wellFormed
  | .oapResponseExpiry => true
  | .deviceIdWrite _ _ => true
  | .healthEvaluation => true
  | .healthRestore _ _ => true
  | .errorHandling => true
  | .fatalLinkDisable _ => true
  | .dumpFetch _ => true
  | .dumpComplete => true
  | .lgClear _ => true

end Sys2Proof
end

