-- ==== Sys2Proof/Tests/Slice0.lean ====
section
/-!
SUPPORT. Tests: well-formedness, the spec's worked examples, and for each statement that has hypotheses a state that meets them.
-/
namespace Sys2Proof.Tests
set_option Elab.async false
open Sys2Proof.Machine

/-! ### States to test on -/

/-- A state with nothing waiting. -/
def at_ (d : Dev) : State := { dev := d, otp := Fuses.shipped, pending := [] }

/-- A device that is ready: firmware runs, every group enabled, all functions present with ring 0 enabled. -/
def ready : Dev :=
  let fn : HostFn := { HostFn.reset with
    busMaster := true, proto := 0x0100, bulkSize := [2 ^ 24, 2 ^ 24]
    rings := List.replicate 4 { Ring.reset with enable := true, tail := 64 } }
  { Dev.fresh Fuses.shipped with
    stage := 8, fwRunning := true, enabledGroups := 2 ^ 84 - 1, deviceId := 7, capGib := 16
    time := { Timebase.reset with bc := 4096, sync := 2 }, pcie := ⟨true, false, 16⟩, fns := [(0, fn), (1, fn)] }

/-- A plan of one step of two stints, which sends nothing. -/
def plan1 : Plan :=
  { header := ⟨0x31504456, 1, 0, 4096, 1, 128, 0, 1, 0, 8, 4, 100, 16, 12, false, true, 1, 64⟩
    groups := 1, hbmMask := 1, capMask := 0, steps := [⟨1, true, false, false, 2, 0, 0, 0⟩], loopStart := 0
    stints := [⟨16, false, 0⟩, ⟨16, false, 0⟩], swapSets := [], links := [], transfers := [], hash := [], patchDigest := [], hmin := 0 }

/-- Partition 0 with group 0, HBM channel 0 and fence tag 5, stopped. -/
def part1 : Part := { Part.reset with groups := 1, hbm := 1, fenceTag := 5 }

/-- The same running a plan. -/
def part2 : Part := { part1 with
  time := { PartTime.reset with mode := .running, pbc := 100, offset := 3996 }
  plan := { PlanState.reset with state := 3, plan := some plan1, stepBegan := 90, stintStart := 90 } }

/-- A ready device with one partition. -/
def with1 (p : Part) : Dev := { ready with parts := [(0, p)] }

/-- A ready device with a running partition and tile 0 as given. -/
def running (x : Tile) : Dev := { with1 part2 with tiles := [(0, x)] }

/-- A tile whose core executes, in a period of its own. -/
def tile1 : Tile := { Tile.reset with
  core := { Core.reset with state := .running, spare := true, s := (List.range 16).map (BitVec.ofNat 32) } }

/-- A descriptor: operation and form, the words of its header, tensors A, B, C and D, PARAM (Tables TO-1, TO-2). -/
def descriptor (op form codes : Nat) (a b c d : Nat) (param : Bytes) : Bytes :=
  leBytes 8 (op + 2 ^ 8 * form + 2 ^ 12 * codes) ++ zeros 24 ++ leBytes 12 a ++ leBytes 12 b ++ leBytes 12 c ++ leBytes 12 d
    ++ padTo 32 param ++ zeros 16

/-- A tensor field. -/
def tensor (base stride rows cols : Nat) : Nat := base + 2 ^ 14 * stride + 2 ^ 28 * rows + 2 ^ 44 * cols

/-! ### Well-formedness -/

theorem test_wf_br : (Instr.br 0 .always 8191).wellFormed = true := by decide
theorem test_illformed_br : (Instr.br 0 .always 8192).wellFormed = false := by decide
theorem test_illformed_brP : (Instr.brP 0 .always 0 false 8192).wellFormed = false := by decide
theorem test_illformed_brK : (Instr.brK 0 .always 0 8192).wellFormed = false := by decide
theorem test_illformed_call : (Instr.call 0 .always 8192).wellFormed = false := by decide
theorem test_illformed_dbnz : (Instr.dbnz 0 .always 0 8192).wellFormed = false := by decide
theorem test_illformed_issue : (Instr.issue 0 .always .mv 0 [(0, 0), (1, 1), (2, 2)] (.imm 0)).wellFormed = false := by decide
theorem test_illformed_lossOfLock : (Instr.lossOfLock 0 [1, 2, 3]).wellFormed = false := by decide
theorem test_illformed_trainingFrame : (Instr.trainingFrame 0 [] ⟨0, 0, []⟩).wellFormed = false := by decide
theorem test_illformed_flitReceive : (Instr.flitReceive 0 0 [] false []).wellFormed = false := by decide
theorem test_illformed_sqDoorbell : (Instr.sqDoorbell 0 9 (List.replicate 9 [])).wellFormed = false := by decide
theorem test_illformed_register : (Instr.registerWrite (.register 0 0x100000 0)).wellFormed = false := by decide
theorem test_illformed_mailbox : (Instr.registerWrite (.mailbox 0 4095 [0, 0])).wellFormed = false := by decide
theorem test_illformed_entry : (Instr.registerWrite (.entry .board 0x2010 256 0 [])).wellFormed = false := by decide
theorem test_illformed_oap : (Instr.oapRead (.port [] false [])).wellFormed = false := by decide
theorem test_illformed_oapWrite : (Instr.oapWrite (.port [] false [])).wellFormed = false := by decide
theorem test_illformed_oapDiscover : (Instr.oapDiscover (.port [] false [])).wellFormed = false := by decide

/-! ### The control core -/

/-- A ready device whose tile 0 executes. -/
def core1 : State := at_ (running tile1)

/-- What the statements about instructions ask of a state: the core is at its instruction, and its guard holds. -/
theorem wit_fetches : core1.dev.fetches (0 : Fin 672) ∧ Guard.always.holds (core1.dev.coreAt (0 : Fin 672)) = true
    ∧ core1.dev.inPeriod (0 : Fin 672) := by
  unfold Dev.fetches Dev.inPeriod; decide +kernel
theorem wit_ScalarResults : core1.dev.fetches (0 : Fin 672) ∧ Guard.always.holds (core1.dev.coreAt (0 : Fin 672)) = true :=
  ⟨wit_fetches.1, wit_fetches.2.1⟩
theorem wit_PredicateResults : core1.dev.fetches (0 : Fin 672) ∧ Guard.always.holds (core1.dev.coreAt (0 : Fin 672)) = true :=
  ⟨wit_fetches.1, wit_fetches.2.1⟩
theorem wit_CounterAndSystemResults : core1.dev.fetches (0 : Fin 672) ∧ Guard.always.holds (core1.dev.coreAt (0 : Fin 672)) = true
    ∧ (core1.dev.atPeriod (0 : Fin 672)).partOfTile (0 : Fin 672) = some 0 ∧ (7 : Fin 16).val < 8 :=
  ⟨wit_fetches.1, wit_fetches.2.1, by decide +kernel⟩
theorem wit_BranchResults : core1.dev.fetches (0 : Fin 672) ∧ Guard.always.holds (core1.dev.coreAt (0 : Fin 672)) = true
    ∧ 8191 < 8192 ∧ (core1.dev.coreAt (0 : Fin 672)).stack.length < 8 := ⟨wit_fetches.1, wit_fetches.2.1, by decide +kernel⟩
theorem wit_BranchResults_ret :
    let s := at_ (running { tile1 with core := { tile1.core with stack := [3] } })
    s.dev.fetches (0 : Fin 672) ∧ Guard.always.holds (s.dev.coreAt (0 : Fin 672)) = true
      ∧ (s.dev.coreAt (0 : Fin 672)).stack = 3 :: [] := by unfold Dev.fetches; decide +kernel
theorem wit_GuardFalseSkips : untimedOf (.ret 0 (.when 0)) = some (0, .when 0) ∧ core1.dev.fetches (0 : Fin 672)
    ∧ (Guard.when 0).holds (core1.dev.coreAt (0 : Fin 672)) = false := ⟨rfl, wit_fetches.1, by decide +kernel⟩

/-- R248: an add wraps modulo 2^32 and the next instruction is the one after it. -/
theorem test_add_wraps : ∃ s', exec (.add 0 .always 0 1 (.imm (-2))) core1 = .next s'
    ∧ (s'.dev.tile 0).core.sreg 0 = 0xFFFFFFFF ∧ (s'.dev.tile 0).core.pc = 1 := by
  refine ⟨_, exec_add .., ?_⟩; decide +kernel
/-- R324: a word of zeros is illegal but at the first place of a bank that holds the single stint-end action. -/
theorem test_illegal : ∃ s', exec (.add 0 .always 0 1 (.imm 1))
      (at_ (running { tile1 with core := { tile1.core with pc := 1 } })) = .next s'
    ∧ (s'.dev.tile 0).core.state = .faulted ∧ (s'.dev.tile 0).core.faultCause = 1 := by
  refine ⟨_, exec_add .., ?_⟩; decide +kernel
/-- A state as UntimedFrame asks for, and its next state runs on. -/
theorem wit_UntimedFrame : untimedOf (.add 0 .always 0 1 (.imm 1)) = some (0, .always) ∧ core1.dev.fetches (0 : Fin 672)
    ∧ ∃ s', exec (.add 0 .always 0 1 (.imm 1)) core1 = .next s' ∧ (s'.dev.tile (0 : Fin 672)).core.state = .running := by
  refine ⟨rfl, wit_fetches.1, _, exec_add .., ?_⟩; decide +kernel

/-- Tile 0 at its last period before a timed action that is due in cycle 2, in cycle `m`. -/
def dueAt (m : Nat) (a : TimedAct) : State :=
  at_ (running { tile1 with core := { tile1.core with cycle := m, release := 2, lastDue := 2, state := .due a 2 } })
theorem wit_LoadResults : (core1.dev.atPeriod (0 : Fin 672)).dueInOrder (0 : Fin 672) (.imm 0)
    ∧ (core1.dev.atPeriod (0 : Fin 672)).dueInOrder (0 : Fin 672) (.imm 1) ∧ memOffset (core1.dev.coreAt (0 : Fin 672)) 8 0 % 8 = 0
    ∧ (Due.imm 0).value (core1.dev.coreAt (0 : Fin 672)) ≤ (core1.dev.coreAt (0 : Fin 672)).cycle
    ∧ (core1.dev.coreAt (0 : Fin 672)).cycle < (Due.imm 1).value (core1.dev.coreAt (0 : Fin 672)) ∧ (14 : Fin 16).val % 2 = 0 := by
  unfold Dev.dueInOrder; decide +kernel
theorem wit_LoadResults_due : let d := (dueAt 2 (.load 8 14 0)).dev
    d.tileRuns (0 : Fin 672) = true ∧ (d.tile (0 : Fin 672)).core.state = .due (.load 8 14 0) 2 ∧ 2 ≤ (d.tile (0 : Fin 672)).core.cycle
      ∧ (d.tile (0 : Fin 672)).core.spare = true
      ∧ (d.seenAt (0 : Fin 672) (d.tile (0 : Fin 672)).core.cycle false).faultySpan (storeAddr (0 : Fin 672) 0) 8 = [] := by
  decide +kernel
theorem wit_StoreResults : core1.dev.faultySpan (storeAddr (0 : Fin 672) 8 / 8 * 8) 8 = [] ∧ core1.dev.integrity.injectState ≠ 1
    ∧ (core1.dev.tile (0 : Fin 672)).eng.wrote = [] ∧ memOffset (core1.dev.coreAt (0 : Fin 672)) 8 0 % 8 = 0 := by decide +kernel
theorem wit_StoreResults_due : let d := (dueAt 2 (.store 4 4 8)).dev
    8 % 4 = 0 ∧ 8 < 2 ^ 21 ∧ d.tileRuns (0 : Fin 672) = true ∧ (d.tile (0 : Fin 672)).core.state = .due (.store 4 4 8) 2
      ∧ 2 ≤ (d.tile (0 : Fin 672)).core.cycle ∧ (d.tile (0 : Fin 672)).core.spare = true
      ∧ d.faultySpan (storeAddr (0 : Fin 672) 8 / 8 * 8) 8 = [] ∧ (d.tile (0 : Fin 672)).eng.wrote = [] := by decide +kernel
/-- R254: st.d writes both registers, the lower one first; the last bytes of the tile store hold them. -/
theorem test_std : ∃ s', exec (.stD 0 .always 4 0 (BitVec.ofInt 16 (-8)) (.imm 0)) core1 = .next s'
    ∧ s'.dev.rawBytes (storeAddr 0 0x1FFFF8) 8 = [4, 0, 0, 0, 5, 0, 0, 0] ∧ (s'.dev.tile 0).core.release = 0 := by
  refine ⟨_, exec_stD .., ?_⟩; decide +kernel
/-- R106, R255: ld.b waits for its due cycle, and then zero-extends. -/
theorem test_ldb : (∃ s', exec (.ldB 0 .always 4 0 0 (.imm 1)) core1 = .next s'
      ∧ (s'.dev.tile 0).core.state = .due (.load 1 4 0) 1 ∧ (s'.dev.tile 0).core.release = 1)
    ∧ ∃ s', exec (.ldB 0 .always 4 0 0 (.imm 0))
      { core1 with dev := { core1.dev with mem := [(storeAddr 0 0, 0xFF)] } } = .next s'
    ∧ (s'.dev.tile 0).core.sreg 4 = 0xFF := by
  refine ⟨⟨_, exec_ldB .., ?_⟩, _, exec_ldB .., ?_⟩ <;> decide +kernel

theorem wit_IssueQueues : (core1.dev.atPeriod (0 : Fin 672)).dueInOrder (0 : Fin 672) (.imm 0)
    ∧ ([(0, 0), (3, 15)] : List (Fin 4 × Fin 16)).length ≤ 2
    ∧ (core1.dev.atPeriod (0 : Fin 672)).faultySpan (imemAddr (0 : Fin 672) ((core1.dev.atPeriod (0 : Fin 672)).tile (0 : Fin 672)).imemActive
        (128 * (511 : Fin 512).val)) 128 = []
    ∧ (((core1.dev.atPeriod (0 : Fin 672)).tile (0 : Fin 672)).eng.queue .mv).length < 16 := by unfold Dev.dueInOrder; decide +kernel
/-- Tile 0 with 16 entries in the MV queue that are not due yet. -/
def full1 : State := at_ (running { tile1 with eng := { tile1.eng with mv := List.replicate 16 ⟨9, [], 0⟩ } })
theorem wit_QueueFullStall : full1.dev.fetches (0 : Fin 672) ∧ (full1.dev.atPeriod (0 : Fin 672)).dueInOrder (0 : Fin 672) (.imm 0)
    ∧ (full1.dev.atPeriod (0 : Fin 672)).faultySpan
        (imemAddr (0 : Fin 672) ((full1.dev.atPeriod (0 : Fin 672)).tile (0 : Fin 672)).imemActive (128 * (0 : Fin 512).val)) 128 = []
    ∧ 16 ≤ (((full1.dev.atPeriod (0 : Fin 672)).tile (0 : Fin 672)).eng.queue .mv).length := by
  unfold Dev.fetches Dev.dueInOrder; decide +kernel
theorem wit_QueueFullStall_stays :
    let s := at_ (running { tile1 with
      core := { tile1.core with state := .stalled .mv ⟨9, [], 0⟩ }, eng := { tile1.eng with mv := List.replicate 16 ⟨9, [], 0⟩ } })
    s.dev.tileRuns (0 : Fin 672) = true ∧ (s.dev.tile (0 : Fin 672)).core.state = .stalled .mv ⟨9, [], 0⟩
      ∧ 16 ≤ ((s.dev.tile (0 : Fin 672)).eng.queue .mv).length
      ∧ (s.dev.tile (0 : Fin 672)).core.release ≤ (s.dev.tile (0 : Fin 672)).core.cycle := by decide +kernel
theorem wit_QueueFullStall_end :
    let s := at_ (running { tile1 with core := { tile1.core with state := .stalled .mv ⟨0, [], 0⟩ } })
    s.dev.tileRuns (0 : Fin 672) = true ∧ (s.dev.tile (0 : Fin 672)).core.state = .stalled .mv ⟨0, [], 0⟩
      ∧ s.dev.freePeriod (0 : Fin 672) = some s.dev ∧ (s.dev.tile (0 : Fin 672)).core.spare = true
      ∧ (s.dev.tile (0 : Fin 672)).core.rest = false ∧ ((s.dev.tile (0 : Fin 672)).eng.queue .mv).length < 16 := by
  refine ⟨?_, ?_, rfl, ?_⟩ <;> decide +kernel
theorem wit_PaceAndStintEnds : core1.dev.fetches (0 : Fin 672) ∧ Guard.always.holds (core1.dev.coreAt (0 : Fin 672)) = true
    ∧ (core1.dev.atPeriod (0 : Fin 672)).dueInOrder (0 : Fin 672) (.imm 0)
    ∧ (core1.dev.atPeriod (0 : Fin 672)).dueInOrder (0 : Fin 672) (.imm 1)
    ∧ ((core1.dev.coreAt (0 : Fin 672)).sreg 1).toNat % 2 ^ 18 ≠ 0 := by
  unfold Dev.fetches Dev.dueInOrder; decide +kernel
theorem wit_PaceAndStintEnds_due : let d := (dueAt 2 (.finish (some (7, 1)))).dev
    d.tileRuns (0 : Fin 672) = true ∧ (d.tile (0 : Fin 672)).core.state = .due (.finish (some (7, 1))) 2
      ∧ 2 ≤ (d.tile (0 : Fin 672)).core.cycle ∧ (d.tile (0 : Fin 672)).core.spare = true := by decide +kernel
theorem wit_WaitResults : (core1.dev.atPeriod (0 : Fin 672)).dueInOrder (0 : Fin 672) (.imm 0)
    ∧ (core1.dev.atPeriod (0 : Fin 672)).dueInOrder (0 : Fin 672) (.imm 1)
    ∧ (Wait.mq 0 0).holds ((core1.dev.atPeriod (0 : Fin 672)).tile (0 : Fin 672)) = true
    ∧ (Wait.mq 0 1).holds ((core1.dev.atPeriod (0 : Fin 672)).tile (0 : Fin 672)) = false
    ∧ (Wait.sig 0 0).holds ((core1.dev.atPeriod (0 : Fin 672)).tile (0 : Fin 672)) = true
    ∧ Wait.mbx.holds ((core1.dev.atPeriod (0 : Fin 672)).tile (0 : Fin 672)) = false := by
  unfold Dev.dueInOrder; decide +kernel
theorem wit_WaitResults_due : let d := (dueAt 2 (.wait (.sig 0 0))).dev
    d.tileRuns (0 : Fin 672) = true ∧ (d.tile (0 : Fin 672)).core.state = .due (.wait (.sig 0 0)) 2
      ∧ 2 ≤ (d.tile (0 : Fin 672)).core.cycle ∧ (d.tile (0 : Fin 672)).core.spare = true := by decide +kernel
theorem wit_WaitResults_end :
    let s := at_ (running { tile1 with core := { tile1.core with state := .waiting .mbx, inbox := [zeros 16] } })
    s.dev.tileRuns (0 : Fin 672) = true ∧ (s.dev.tile (0 : Fin 672)).core.state = .waiting .mbx
      ∧ s.dev.freePeriod (0 : Fin 672) = some s.dev ∧ (s.dev.tile (0 : Fin 672)).core.spare = true
      ∧ (s.dev.tile (0 : Fin 672)).core.rest = false ∧ Wait.mbx.holds (s.dev.tile (0 : Fin 672)) = true
      ∧ Wait.mbx.holds Tile.reset = false := by
  refine ⟨?_, ?_, rfl, ?_⟩ <;> decide +kernel
/-- R257: the difference is read as a signed number. -/
theorem test_count_wraps : (Wait.mq 0 0xFFFFFFFF).holds Tile.reset = true ∧ (Wait.mq 0 0x80000000).holds Tile.reset = false := by
  decide +kernel
theorem wit_OrderFaultStopsCore : timedOf (.pace 0 .always (.imm 0x7FFF)) = some (0, .always, .imm 0x7FFF) ∧ core1.dev.fetches (0 : Fin 672)
    ∧ (core1.dev.atPeriod (0 : Fin 672)).stintCycles ((core1.dev.atPeriod (0 : Fin 672)).owner (0 : Fin 672))
        ≤ (Due.imm 0x7FFF).value (core1.dev.coreAt (0 : Fin 672)) :=
  ⟨rfl, wit_fetches.1, by decide +kernel⟩
theorem wit_OrderFaultStopsCore_early :
    let s := at_ (running { tile1 with core := { tile1.core with lastDue := 1 } })
    s.dev.fetches (0 : Fin 672) ∧ (Due.imm 0).value (s.dev.coreAt (0 : Fin 672)) < (s.dev.coreAt (0 : Fin 672)).lastDue := by
  unfold Dev.fetches; decide +kernel
theorem wit_GuardFalsePaces : timedOf (.stintEnd 0 (.when 3) (.imm 1)) = some (0, .when 3, .imm 1)
    ∧ (Guard.when 3).holds (core1.dev.coreAt (0 : Fin 672)) = false := ⟨rfl, by decide +kernel⟩

/-! ### Clocks, wakes, crossings -/

/-- A tile asleep, or waking with its wake complete at `done`, woken by event 0. -/
def nap1 (gen : GenState) (done : Option Nat) : Tile := { tile1 with
  clock := { tile1.clock with gen := gen }
  core := { tile1.core with state := .napped, napAsk := some (0, 1), wakeCauses := 1, wakeDone := done } }
theorem wit_TileWakesAndRejoins :
    let s := at_ (running (nap1 .napped none))
    s.dev.partOfTile (0 : Fin 672) = some 0 ∧ (s.dev.tile (0 : Fin 672)).core.napAsk = some (0, 1)
      ∧ (s.dev.tile (0 : Fin 672)).core.wakeDone = none
      ∧ (s.dev.tile (0 : Fin 672)).clock.gen = .napped ∧ ((s.dev.tile (0 : Fin 672)).core.wakeCauses &&& 1) ≠ 0 := by decide +kernel
theorem wit_TileWakesAndRejoins_rejoin :
    let s := at_ { running (nap1 .waking (some 4000)) with
      parts := [(0, { part2 with plan := { part2.plan with stintStart := 100 } })] }
    s.dev.partOfTile (0 : Fin 672) = some 0 ∧ (s.dev.tile (0 : Fin 672)).core.napAsk = some (0, 1)
      ∧ (s.dev.tile (0 : Fin 672)).clock.gen = .waking ∧ (s.dev.tile (0 : Fin 672)).clock.locked = true
      ∧ (s.dev.tile (0 : Fin 672)).core.wakeDone = some 4000 ∧ 4000 + 2 ≤ s.dev.time.bc ∧ s.dev.running 0 = true
      ∧ (s.dev.part 0).time.still = 0 ∧ (s.dev.part 0).plan.stintStart = (s.dev.part 0).time.pbc
      ∧ (s.dev.part 0).time.edgeDue = false := by decide +kernel
theorem wit_ClockFaultsEscalate_deficit :
    let s := at_ (running { tile1 with clock := { tile1.clock with deficit := Config.deficitLimit } })
    s.dev.clocked (0 : Fin 672) = true ∧ Config.deficitLimit ≤ (s.dev.tile (0 : Fin 672)).clock.deficit := by decide +kernel
theorem wit_ClockFaultsEscalate_lock : core1.dev.clocked (0 : Fin 672) = true
    ∧ ∀ e ∈ [99999, 99999, 99999, 99999], Config.capacityPeriod (core1.dev.opOfTile (0 : Fin 672)) < 816 * e := by decide +kernel
theorem wit_ClockFaultsEscalate_selfcheck :
    let s := at_ (running (nap1 .waking (some 4124)))
    s.dev.wakeBeat (0 : Fin 672) = some 100 := by decide +kernel
/-- R78: with 16 periods since the last one a stretch of 4/8 Tp is taken; one of 5/8 Tp becomes a gap of one Tp. -/
theorem wit_ClockMonitorTrips : core1.dev.clocked (0 : Fin 672) = true ∧ core1.dev.planned (0 : Fin 672) = true
    ∧ 16 ≤ (core1.dev.tile (0 : Fin 672)).clock.sinceStretch
    ∧ (∃ s', exec (.droop 0 4 0) core1 = .next s' ∧ (s'.dev.tile 0).clock.next = 96000)
    ∧ ∃ s', exec (.droop 0 5 0) core1 = .next s' ∧ (s'.dev.tile 0).clock.next = 192000 ∧ (s'.dev.tile 0).clock.gaps = 1 := by
  refine ⟨?_, ?_, ?_, ⟨_, exec_droop .., ?_⟩, _, exec_droop .., ?_⟩ <;> decide +kernel
theorem wit_ClockMonitorTrips_trips : core1.dev.monitored (0 : Fin 672) = true ∧ core1.dev.clockCfg.jitterLimit < 26
    ∧ 449 < core1.dev.clockCfg.dutyMin ∧ core1.dev.clockCfg.dutyMax < 551 := by decide +kernel
/-- R88: a line on its way through tile 1, from tile 0 to tile 2, which is in no partition's way. -/
def mesh1 : State := at_ { running tile1 with crossings := [(7, ⟨[⟨-2000000, [1], [1], []⟩], [0, 0, 0], 0⟩)] }
theorem wit_CrossingMoves : (mesh1.dev.crossing (1 : Fin 672) (3 : Fin 4)).lines = [⟨-2000000, [1], [1], []⟩]
    ∧ neighbour (1 : Fin 672) 1 = some (2 : Fin 672).val ∧ mesh1.dev.clocked (1 : Fin 672) = true
    ∧ (mesh1.dev.crossing (2 : Fin 672) (entryPort 1)).freed.head? = some longAgo
    ∧ (∃ s', exec (.crossingForward 1 3) mesh1 = .next s' ∧ (s'.dev.crossing 1 3).lines = []
      ∧ (s'.dev.crossing 2 3).lines = [⟨-1536000, [], [1], []⟩]) := by
  refine ⟨?_, ?_, ?_, ?_, _, exec_crossingForward .., ?_⟩ <;> decide +kernel
/-- A line that was written in the present beat, with less than Tp of it left, is not readable before the beat's end. -/
theorem wit_CrossingMoves_late :
    let s : State := { mesh1 with dev := { mesh1.dev with crossings := [(7, ⟨[⟨1500000, [1], [1], []⟩], [0, 0, 0], 0⟩)] } }
    (beatTime : Int) ≤ s.dev.edgeAt (1 : Fin 672) (max (1500000 + s.dev.periodOf 1) longAgo)
      ∧ ∃ s', exec (.crossingForward 1 3) s = .next s' ∧ s'.dev.crossings = s.dev.crossings := by
  refine ⟨?_, _, exec_crossingForward .., ?_⟩ <;> decide +kernel

/-! ### Landings and engines -/

theorem wit_LandingWrites :
    let s := at_ (running { tile1 with landings := [⟨.link, 64, [1, 2, 3, 4, 5, 6, 7, 8], []⟩] })
    s.dev.portWorks (0 : Fin 672) = true
      ∧ (s.dev.tile (0 : Fin 672)).landings.head? = some ⟨.link, 64, [1, 2, 3, 4, 5, 6, 7, 8], []⟩
      ∧ (untilFree (0 : Fin 672) (64 / 128 % 16) 1 64 0 s.dev).2 = true
      ∧ ((untilFree (0 : Fin 672) (64 / 128 % 16) 1 64 0 s.dev).1.tile (0 : Fin 672)).landings
        = [⟨.link, 64, [1, 2, 3, 4, 5, 6, 7, 8], []⟩]
      ∧ (untilFree (0 : Fin 672) (64 / 128 % 16) 1 64 0 s.dev).1.faultySpan (storeAddr (0 : Fin 672) 64 / 8 * 8) (8 + 16) = []
      ∧ (∃ s', exec (.landingWrite 0) s = .next s' ∧ s'.dev.byte (storeAddr 0 65) = 2 ∧ (s'.dev.tile 0).landings = []) := by
  refine ⟨?_, ?_, ?_, ?_, ?_, _, exec_landingWrite .., ?_⟩ <;> decide +kernel
/-- R118: the port writes two lines in a period, of two banks; a core that waits lets no further period begin. -/
theorem wit_LandingWrites_busy :
    let s := at_ (running { tile1 with
      clock := { tile1.clock with next := 1632000, landed := [3, 4] }, landings := [⟨.link, 64, [1, 2, 3, 4, 5, 6, 7, 8], []⟩] })
    s.dev.portWorks (0 : Fin 672) = true ∧ (untilFree (0 : Fin 672) (64 / 128 % 16) 1 64 0 s.dev).2 = false := by decide +kernel

/-- mv.copy of two rows of 256 bytes from line 0 to line 8. -/
def copyDesc : Bytes := descriptor 0x50 0 (0x11 + 2 ^ 15 * 0x11) (tensor 0 8 2 256) 0 0 (tensor 8 8 2 256) []
/-- Tile 0 with one entry in the queue of an engine. -/
def queued (e : Engine) (d : Bytes) : State :=
  at_ { running { tile1 with eng := tile1.eng.setQueue e [⟨0, d, 0⟩] } with mem := [(storeAddr 0 300, 7)] }
/-- Tile 0 in cycle `m`, at the end of which its core waits for the next one. -/
def midCycle (m : Nat) (d : Dev) : Dev := d.updTile 0 (fun x => { x with
  core := { x.core with cycle := m, release := m + 1, spare := false }, eng := { x.eng with ended := true } })
/-- The head entry of MV has been taken, and tile 0 has come to cycle `m`. -/
def moving (m : Nat) (c : Sparse Crossing) (d : Bytes) : Dev :=
  midCycle m (runEntry { (queued .mv d).dev with crossings := c } 0 .mv (fun _ => true))

/-- mv.send of one line to tile 1; mv.land of two lines from port 2; mv.mq, a read of two rows of one line into line 0. -/
def sendDesc : Bytes := descriptor 0x51 0 0x11 (tensor 0 4 1 128) 0 0 0 [5]
def landDesc : Bytes := descriptor 0x52 0 (2 ^ 15 * 0x11) 0 0 0 (tensor 0 4 2 128) [2]
def mqDesc : Bytes := descriptor 0x53 0 (0x11 + 2 ^ 5 * 0x11) (tensor 0 4 2 128) 0 0 0 (leBytes 8 0 ++ leBytes 8 128)
/-- Two lines that lie in a crossing of tile 0. -/
def twoLines : Sparse Crossing := [(2, ⟨[⟨-2000000, [], [1], []⟩, ⟨-100000, [], [2], []⟩], [0, 0], 0⟩)]
/-- A tile whose core is at an instruction, with its period begun, does nothing more without a command. -/
theorem runTile_still {d : Dev} {t : Nat} (h : (d.tile t).core.state = .running) (hr : (d.tile t).core.rest = false) :
    runTile d t = d := by
  unfold runTile runSteps runStep
  simp only [h, hr]; split <;> simp_all
theorem wit_CrossingMoves_send : let d := moving 1 [] sendDesc
    runTile d 0 = d ∧ d.tileRuns (0 : Fin 672) = true ∧ (d.tile (0 : Fin 672)).core.spare = false
      ∧ (∃ f ∈ (d.tile (0 : Fin 672)).eng.acting 2, (outAt d (0 : Fin 672) 2 f).dueSends f 2 ≠ [])
      ∧ d.canBegin (0 : Fin 672) longAgo (longAgo + 192000) := by
  refine ⟨rfl, ?_, ?_, ?_, ?_⟩
  · decide +kernel
  · decide +kernel
  · decide +kernel
  · unfold Dev.canBegin; decide +kernel
/-- R89: the second line was written 100,000 units before the edge, so the period that takes it begins 92,000 after it. -/
theorem wit_CrossingMoves_land : let d := moving 0 twoLines landDesc
    runTile d 0 = d ∧ (d.tile (0 : Fin 672)).core.spare = false
      ∧ (∃ f ∈ (d.tile (0 : Fin 672)).eng.acting 1, (1, (2 : Fin 4).val) ∈ (outAt d (0 : Fin 672) 1 f).lands)
      ∧ d.canBegin (0 : Fin 672) 92000 longAgo
      ∧ (∃ s', exec (.readWait 0 2) (at_ d) = .next s' ∧ (s'.dev.tile 0).clock.began = 92000
        ∧ (s'.dev.tile 0).clock.readWaits = 1 ∧ (s'.dev.tile 0).clock.readWaitPs = 225) := by
  refine ⟨runTile_still (by decide +kernel) (by decide +kernel), ?_, ?_, ?_, _, exec_readWait .., ?_⟩
  · decide +kernel
  · decide +kernel
  · unfold Dev.canBegin; decide +kernel
  · decide +kernel

theorem wit_EnginesTakeWhenDue : engineRow (.vuEw 0) = some (0, .vu, (fun d => d.opcode == 0x20), vuEw)
    ∧ ((runTile core1.dev (0 : Fin 672)).tile (0 : Fin 672)).eng.queue .vu = [] := ⟨rfl, by decide +kernel⟩
/-- The operation of an entry succeeds, its last period lies in the stint, and a test of what it does holds. -/
def fine (r : Except OpFault OpOut) (bound : Nat) (p : OpOut → Bool) : Bool :=
  match r with | .ok o => decide (o.last ≤ bound) && p o | .error _ => false
theorem fine_iff {r : Except OpFault OpOut} {b : Nat} {p : OpOut → Bool} (h : fine r b p = true) :
    ∃ o, r = .ok o ∧ o.last ≤ b ∧ p o = true := by
  cases r with
  | error _ => cases h
  | ok o => simp only [fine, Bool.and_eq_true, decide_eq_true_eq] at h; exact ⟨o, rfl, h⟩
/-- The operation of an entry succeeds, and its last period lies past a bound. -/
def ends (r : Except OpFault OpOut) (bound : Nat) : Bool := match r with | .ok o => bound < o.last | .error _ => false
theorem ends_iff {r : Except OpFault OpOut} {b : Nat} (h : ends r b = true) : ∃ o, r = .ok o ∧ b < o.last := by
  cases r with
  | error _ => cases h
  | ok o => exact ⟨o, rfl, of_decide_eq_true h⟩
/-- Whether the crossings and the memory queue have what an operation needs in its first cycle. -/
def needs (d : Dev) (t : Nat) (o : OpOut) : Bool :=
  (d.landsReady t (d.tile t).core.cycle [o]).isSome && (d.tile t).mq.roomFor (d.tile t).core.cycle o.rows
theorem wit_EnginesTakeWhenDue_takes : let d := (queued .mv copyDesc).dev
    engineRow (.mvCopy 0) = some (0, .mv, (fun d => d.opcode == 0x50), mvCopy)
    ∧ runTile d 0 = d ∧ d.meets (0 : Fin 672) .mv (fun d => d.opcode == 0x50) ⟨0, copyDesc, 0⟩ []
    ∧ d.startable (0 : Fin 672) .mv ⟨0, copyDesc, 0⟩
    ∧ (∃ o, UnitOp.now mvCopy d (0 : Fin 672) .mv ⟨0, copyDesc, 0⟩ = .ok o ∧ o.last ≤ d.endBound (0 : Fin 672) ∧ needs d 0 o = true)
    ∧ ∀ j ∈ occupied .mv (Desc.parse copyDesc).form, j < (d.tile (0 : Fin 672)).eng.freeAt.length := by
  refine ⟨rfl, rfl, ?_, ?_, fine_iff ?_, ?_⟩
  · unfold Dev.meets; decide +kernel
  · unfold Dev.startable; decide +kernel
  · decide +kernel
  · decide +kernel
theorem wit_EnginesTakeWhenDue_line : let d := core1.dev
    (⟨0, 4, zeros 128, []⟩ : LineWrite).data.length = 128 ∧ d.integrity.injectState ≠ 1
      ∧ (d.tile (0 : Fin 672)).eng.wrote = [] := by decide +kernel
theorem wit_CopyResults : let d := (queued .mv copyDesc).dev
    d.faultySpan (storeAddr (0 : Fin 672) 0) (2 ^ 21) = []
    ∧ ∃ o, mvCopy d (0 : Fin 672) (Flight.of .mv ⟨0, copyDesc, 0⟩) (Desc.parse copyDesc) = .ok o ∧ o.last ≤ 100
      ∧ (o.writes.any (fun w => w.line == 10 && w.data.getD 44 0 == 7)) = true := ⟨by decide +kernel, fine_iff (by decide +kernel)⟩

/-- The operation of an entry faults. -/
def faults (r : Except OpFault OpOut) : Option OpFault := match r with | .ok _ => none | .error f => some f
theorem faults_iff {r : Except OpFault OpOut} {f : OpFault} (h : faults r = some f) : r = .error f := by
  cases r with
  | ok _ => cases h
  | error _ => cases h; rfl
/-- A FORM that MV does not have; a format code that stands for no form; different row lengths. -/
def badForm : Bytes := descriptor 0x50 15 (0x11 + 2 ^ 15 * 0x11) (tensor 0 8 2 256) 0 0 (tensor 8 8 2 256) []
def badCode : Bytes := descriptor 0x50 0 (0x1F + 2 ^ 15 * 0x11) (tensor 0 8 2 256) 0 0 (tensor 8 8 2 256) []
def badRows : Bytes := descriptor 0x50 0 (0x11 + 2 ^ 15 * 0x11) (tensor 0 8 2 256) 0 0 (tensor 8 8 2 128) []
theorem wit_EngineFaultsWriteNothing_form : let d := (queued .mv badForm).dev
    runTile d 0 = d ∧ d.meets (0 : Fin 672) .mv (fun d => d.opcode == 0x50) ⟨0, badForm, 0⟩ []
    ∧ (formOk .mv (Desc.parse badForm).form && (Desc.parse badForm).clean) = false := by
  refine ⟨rfl, ?_⟩; unfold Dev.meets; decide +kernel
theorem wit_EngineFaultsWriteNothing_format : let d := (queued .mv badCode).dev
    runTile d 0 = d ∧ d.meets (0 : Fin 672) .mv (fun d => d.opcode == 0x50) ⟨0, badCode, 0⟩ []
    ∧ d.startable (0 : Fin 672) .mv ⟨0, badCode, 0⟩ ∧ UnitOp.now mvCopy d (0 : Fin 672) .mv ⟨0, badCode, 0⟩ = .error .format := by
  refine ⟨rfl, ?_, ?_, faults_iff ?_⟩
  · unfold Dev.meets; decide +kernel
  · unfold Dev.startable; decide +kernel
  · decide +kernel
theorem wit_EngineFaultsWriteNothing_descriptor : let d := (queued .mv badRows).dev
    runTile d 0 = d ∧ d.startable (0 : Fin 672) .mv ⟨0, badRows, 0⟩
    ∧ UnitOp.now mvCopy d (0 : Fin 672) .mv ⟨0, badRows, 0⟩ = .error .descriptor := by
  refine ⟨rfl, ?_, faults_iff ?_⟩
  · unfold Dev.startable; decide +kernel
  · decide +kernel
/-- MV at work until period 9. -/
def busy1 : State := at_ (running { tile1 with
  eng := { tile1.eng.setQueue .mv [⟨0, copyDesc, 0⟩] with freeAt := List.replicate 15 10 } })
theorem wit_EngineFaultsWriteNothing_overlap : runTile busy1.dev 0 = busy1.dev
    ∧ busy1.dev.meets (0 : Fin 672) .mv (fun d => d.opcode == 0x50) ⟨0, copyDesc, 0⟩ []
    ∧ formOk .mv (Desc.parse copyDesc).form = true ∧ (Desc.parse copyDesc).clean = true
    ∧ (occupied .mv (Desc.parse copyDesc).form).any (fun j => 0 < (busy1.dev.tile (0 : Fin 672)).eng.freeAt.getD j 0) = true := by
  refine ⟨rfl, ?_⟩; unfold Dev.meets; decide +kernel
/-- A tile whose stint ends in cycle 4: a copy of four lines ends in cycle 5. -/
def late1 : State := at_ (running { tile1 with
  core := { tile1.core with endDue := some 4 }, eng := tile1.eng.setQueue .mv [⟨0, copyDesc, 0⟩] })
theorem wit_EngineFaultsWriteNothing_late : runTile late1.dev 0 = late1.dev
    ∧ late1.dev.meets (0 : Fin 672) .mv (fun d => d.opcode == 0x50) ⟨0, copyDesc, 0⟩ []
    ∧ late1.dev.startable (0 : Fin 672) .mv ⟨0, copyDesc, 0⟩
    ∧ ∃ o, UnitOp.now mvCopy late1.dev (0 : Fin 672) .mv ⟨0, copyDesc, 0⟩ = .ok o ∧ late1.dev.endBound (0 : Fin 672) < o.last := by
  refine ⟨rfl, ?_, ?_, ends_iff ?_⟩
  · unfold Dev.meets; decide +kernel
  · unfold Dev.startable; decide +kernel
  · decide +kernel

/-- dg.open of slot 0 over one line, and dg.take of slot 0 into line 8. -/
def openDesc : Bytes := descriptor 0x60 0 (2 ^ 15 * 0x11) 0 0 0 (tensor 0 4 1 128) []
def takeDesc : Bytes := descriptor 0x62 0 (2 ^ 15 * 0x11) 0 0 0 (tensor 8 4 1 16) []
/-- A slot over line 0, open in slot 0. -/
def slot1 : DigestSlot := ⟨0, 4, 1, 128, 0x11, 0, 0, 0, 0, 0, false, []⟩
def dig1 (d : Bytes) : State := at_ (running { tile1 with
  digests := some slot1 :: List.replicate 7 none, eng := tile1.eng.setQueue .dg [⟨0, d, 0⟩] })
theorem wit_DigestSlotResults_open : let d := (dig1 openDesc).dev
    runTile d 0 = d ∧ d.meets (0 : Fin 672) .dg (fun x => x.opcode == 0x60) ⟨0, openDesc, 0⟩ []
    ∧ d.startable (0 : Fin 672) .dg ⟨0, openDesc, 0⟩ ∧ (d.tile (0 : Fin 672)).digests.length = 8
    ∧ ∃ o, UnitOp.now dgOpen d (0 : Fin 672) .dg ⟨0, openDesc, 0⟩ = .ok o ∧ o.last ≤ d.endBound (0 : Fin 672) ∧ true = true := by
  refine ⟨rfl, ?_, ?_, ?_, fine_iff (p := fun _ => true) ?_⟩
  · unfold Dev.meets; decide +kernel
  · unfold Dev.startable; decide +kernel
  · decide +kernel
  · decide +kernel
theorem wit_DigestSlotResults_take : let d := (dig1 takeDesc).dev
    runTile d 0 = d ∧ d.meets (0 : Fin 672) .dg (fun x => x.opcode == 0x62) ⟨0, takeDesc, 0⟩ []
    ∧ d.startable (0 : Fin 672) .dg ⟨0, takeDesc, 0⟩ ∧ (d.tile (0 : Fin 672)).core.cycle = 0
    ∧ (d.tile (0 : Fin 672)).digests.getD ((Desc.parse takeDesc).p 0) none = some slot1
    ∧ ∃ o, UnitOp.now dgTake d (0 : Fin 672) .dg ⟨0, takeDesc, 0⟩ = .ok o ∧ o.last ≤ d.endBound (0 : Fin 672)
      ∧ (o.writes.map (fun w => (w.cycle, w.line)) == [(2, 8)]) = true := by
  refine ⟨rfl, ?_, ?_, ?_, ?_, fine_iff ?_⟩
  · unfold Dev.meets; decide +kernel
  · unfold Dev.startable; decide +kernel
  · decide +kernel
  · decide +kernel
  · decide +kernel
/-- A request of 64 bytes. -/
def row1 : MqEntry := ⟨0, .read, 0, 0, 0, 64, 0, [], [], 0, 0, .access, 1, 0, false, 0, false, []⟩
/-- The memory queue of tile 0 holds 64 requests while an operation has a row to post in the next cycle. -/
def fullQueue : Dev := (moving 0 [] mqDesc).updTile 0 (·.updMq (fun q => { q with entries := List.replicate 64 row1 }))
theorem wit_FullWaitEnds : let y := fullQueue.tile (0 : Fin 672)
    y.eng.headDue y.core.cycle = false ∧ y.eng.ended = true ∧ bankPeriods (fullQueue.banksUsed (0 : Fin 672)) ≤ y.core.held + 1
      ∧ y.core.cycle + 1 ≤ y.core.release ∧ fullQueue.cycleStart (0 : Fin 672) (y.core.cycle + 1) < beatTime
      ∧ y.mq.roomFor (y.core.cycle + 1)
        (((y.eng.acting (y.core.cycle + 1)).map (fun f => outAt fullQueue (0 : Fin 672) (y.core.cycle + 1) f)).flatMap (·.rows)) = false
      ∧ (openPeriod fullQueue 0).1.memTotals.fullWaits = 1 := by decide +kernel
theorem wit_FullWaitEnds_edge : let d := moving 0 [] mqDesc
    runTile d 0 = d ∧ d.tileRuns (0 : Fin 672) = true ∧ (d.tile (0 : Fin 672)).core.spare = false
      ∧ (∃ f ∈ (d.tile (0 : Fin 672)).eng.acting 1, f.second = ((0 : Fin 2) == 1)
        ∧ ∃ x ∈ (outAt d (0 : Fin 672) 1 f).rows, x.first = 1)
      ∧ d.canBegin (0 : Fin 672) longAgo longAgo
      ∧ (∃ f, (d.tile (0 : Fin 672)).eng.flights = [f] ∧ f.desc.opcode = 0x53)
      ∧ (∃ s', exec (.mqFullWait 0 0) (at_ d) = .next s' ∧ (s'.dev.tile 0).core.cycle = 1) := by
  refine ⟨rfl, ?_, ?_, ?_, ?_, ⟨_, rfl, ?_⟩, _, exec_mqFullWait .., ?_⟩
  · decide +kernel
  · decide +kernel
  · decide +kernel
  · unfold Dev.canBegin; decide +kernel
  · decide +kernel
  · decide +kernel

/-! ### Numbers -/

/-- Table NF-1: 1 and the largest value of formats, as the spec's tables give them. -/
theorem test_e4m3_max : e4m3.maxCode = 0x7E ∧ (e4m3.decode 0x7F).isNan = true ∧ e5m2.maxCode = 0x7B
    ∧ (e5m2.decode 0x7C).isInf = true := by decide +kernel
theorem wit_FormatsRoundTrip : e2m1 ∈ [fp32, bf16, fp16, e4m3, e5m2, e2m3, e3m2, e2m1] ∧ 7 < 2 ^ e2m1.width
    ∧ (e2m1.decode 7).isNan = false ∧ (e5m2.decode 0x7C).isNan = false := by decide +kernel
theorem wit_RoundingIsNearest : fp16 ∈ [fp32, bf16, fp16, e4m3, e5m2, e2m3, e3m2, e2m1] ∧ 0 < (⟨1, 3⟩ : Mag).d
    ∧ 0 ≤ fp16.maxCode ∧ fp16.gridCode .rne ⟨1, 3⟩ ≤ fp16.maxCode ∧ fp16.gridCode .rz ⟨1, 3⟩ ≤ fp16.maxCode := by decide +kernel
/-- One third in FP16 is 0x3555, rounded either way. -/
theorem test_third : fp16.gridCode .rne ⟨1, 3⟩ = 0x3555 ∧ fp16.gridCode .rz ⟨2, 3⟩ = 0x3955 := by decide +kernel
theorem wit_PartialRecordsJoin : accFits true (AccRec.ofBytes true (zeros 80)).acc = true
    ∧ (AccRec.join true (AccRec.ofBytes true (zeros 80)) (AccRec.ofBytes true (zeros 80))).2 = false := by decide +kernel
/-- Example NF-2: FP32 to BF16 under each mode. -/
theorem test_example_nf2 : (bf16.round .rne false (fp32.decode 0x3F806000)).code = 0x3F80
    ∧ (bf16.round .rz false (fp32.decode 0x3F806000)).code = 0x3F80
    ∧ (bf16.round (.sr 0x2B7C19E4) false (fp32.decode 0x3F806000)).code = 0x3F81
    ∧ (bf16.round (.sr 0x9D047A31) false (fp32.decode 0x3F806000)).code = 0x3F80 := by decide +kernel
/-- Example NF-3: −52.8 and 480 in E4M3. -/
theorem test_example_nf3 : (e4m3.round .rne false (.fin true ⟨528, 10⟩)).code = 0xE5
    ∧ (e4m3.round .rne false (.fin false ⟨480, 1⟩)).code = 0x7E
    ∧ (e4m3.round .rne false (.fin false ⟨480, 1⟩)).saturated = true := by decide +kernel
/-- R518: the state after round 0 for seed 0, t = 0, tensor 0 and counter value 1. -/
theorem test_cbg_round : cbgRound 0 0 0 (cbgLoad 0 0 1) = ⟨0x9C28D58F, 0xAC7CE146, 0, 0x9C28D58F⟩ := by decide +kernel
/-- Example PP-2: the grade and the spare groups as shipped, after restart 1 and after restart 2. -/
theorem test_example_pp2 : Fuses.shipped.grade = 0 ∧ Fuses.shipped.spare = 0
    ∧ { Fuses.shipped with fieldFused := 2 ^ 63 }.grade = 1
    ∧ { Fuses.shipped with fieldFused := 2 ^ 63 }.spare = 2 ^ 81 + 2 ^ 82 + 2 ^ 83
    ∧ { Fuses.shipped with fieldFused := 2 ^ 63 + 2 ^ 12 }.spare = 2 ^ 82 + 2 ^ 83 := by decide +kernel

/-! ### Time -/

/-- What `Dev.accepts` asks of an entry, as a test. -/
def mayWrite (d : Dev) (who : Principal) (ix sub v : Nat) : Bool :=
  d.served && (match dictRow ix sub with
    | some r => r.mode != 0 && r.mode != 4 && d.entryRight who r.writers (dictBase ix).1 (dictBase ix).2 sub
        && decide (v < 2 ^ (8 * r.size)) && decide (r.lo ≤ v) && decide (v ≤ r.hi)
        && d.rangeOk (dictBase ix).1 (dictBase ix).2 sub v
        && (r.mode != 3 || d.rwsOpen (dictBase ix).1 (dictBase ix).2)
    | none => false)
theorem accepts_of {d : Dev} {who : Principal} {ix sub v : Nat} (h : mayWrite d who ix sub v = true) :
    d.accepts who ix sub v := by
  unfold mayWrite at h; unfold Dev.accepts
  cases hr : dictRow ix sub with
  | none => simp [hr] at h
  | some r =>
    simp only [hr, Bool.and_eq_true, Bool.or_eq_true, bne_iff_ne, ne_eq, decide_eq_true_eq] at h
    obtain ⟨h0, ⟨⟨⟨⟨⟨⟨h1, h2⟩, h3⟩, h4⟩, h5⟩, h6⟩, h7⟩, h8⟩ := h
    exact ⟨h0, r, rfl, h1, h2, h3, h4, h5, h6, h7, fun h => h8.resolve_left (fun k => k h)⟩

/-- A ready device in a synchronisation state, with the wrap of BC[19:0] at hand. -/
def sync1 (n : Nat) : State := at_ { ready with time := { ready.time with bc := 3 * 2 ^ 20, sync := n, wrapOpen := true } }
theorem wit_EpochSync : (∀ n : Fin 4, (sync1 n).dev.accepts .board 0x2010 2 5) ∧ (sync1 2).dev.accepts .board 0x2010 6 1
    ∧ (sync1 2).dev.allStopped = true ∧ (sync1 2).dev.time.refclk = true ∧ (sync1 2).dev.time.wrapOpen = true
    ∧ (sync1 2).dev.time.pulse = false :=
  ⟨fun n => accepts_of (by revert n; decide +kernel), accepts_of (by decide +kernel), by decide +kernel⟩
/-- RESYNC while a partition runs. -/
theorem wit_EpochSync_running : core1.dev.accepts .board 0x2010 6 1 ∧ core1.dev.allStopped = false :=
  ⟨accepts_of (by decide +kernel), by decide +kernel⟩
/-- R42: a pulse loads BC from NEXT_EPOCH at an ARMED device; R43: one at edge 2 loses synchronisation at a SYNCED one. -/
theorem test_epoch_edge : (∃ s', exec (.epochEdge 0) (sync1 1) = .next s' ∧ s'.dev.time.bc = 0 ∧ s'.dev.time.sync = 2)
    ∧ ∃ s', exec (.epochEdge 2) (sync1 2) = .next s' ∧ s'.dev.time.sync = 3 ∧ s'.dev.time.bc = 3 * 2 ^ 20 := by
  refine ⟨⟨_, exec_epochEdge .., ?_⟩, ⟨_, exec_epochEdge .., ?_⟩⟩ <;> decide +kernel

theorem wit_RefclkLossIsFatal : core1.dev.halted = false ∧ core1.dev.time.refclk = true ∧ core1.dev.dump.state ≠ 1 ∧ core1.pending = []
    ∧ { core1.dev.time with refclk := false }.refclk = false := by decide +kernel

/-- A partition at a boundary edge of its first stint, its done tree settled or not, slipping or not. -/
def edge1 (done slip : Bool) : State := at_ { running { tile1 with core := { tile1.core with state := .atEnd } } with
  parts := [(0, { part2 with time := { part2.time with edgeDue := true, done2 := done, slipping := slip } })] }
theorem wit_StintBoundaryOrSlip : (edge1 true false).dev.atBoundary (0 : Fin 16) = true
    ∧ ((edge1 true false).dev.part (0 : Fin 16)).plan.plan = some plan1
    ∧ ((edge1 true false).dev.part (0 : Fin 16)).plan.stintIx + 1
        < ((edge1 true false).dev.part (0 : Fin 16)).plan.bodyFirst + ((edge1 true false).dev.part (0 : Fin 16)).plan.step.stints
    ∧ ((edge1 true false).dev.part (0 : Fin 16)).time.stopAsked = [] ∧ (edge1 true false).dev.paced = false
    ∧ (edge1 false true).dev.atBoundary (0 : Fin 16) = true ∧ (edge1 false false).dev.atBoundary (0 : Fin 16) = true := by
  decide +kernel

/-- The plan with one transfer whose deadline is PBC 100, and a link table that opens link 0 and link 1. -/
def plan2 : Plan := { plan1 with transfers := [⟨0, 5, 12, [], 64, 0, 0, 8, 2⟩] }
/-- A partition whose parent is on link 0 and whose child is on link 1, with fence tag 5. -/
def net1 : Net := { Net.reset with routeState := 1, openLinks := 3, treeState := 1, parentLink := 0, childLinks := 2 }
def link1 : LinkState := { LinkState.reset with enable := true, st := 4, peerDev := 9 }
/-- A running partition in that tree, with a notice waiting. -/
def job1 (p : Part) (n : List NoticeIn) : State :=
  at_ { with1 { p with net := net1, plan := { p.plan with plan := some plan2 } } with
    links := [(0, link1), (1, link1)], noticesIn := n }
/-- An instance of the transfer whose deadline is PBC 100, with `n` bytes that have not landed. -/
def part3 (n : Nat) : Part := { part2 with plan := { part2.plan with arrivals := [⟨0, 100, n, false⟩] } }
/-- R57: a transfer that has landed at its deadline holds nothing; one that has not makes the device assert a hold. -/
theorem wit_HoldsFreezeAndResume_deadline : (∀ n ∈ [0, 64], let s := job1 (part3 n) []
    s.dev.planRuns (0 : Fin 16) = true ∧ (s.dev.part (0 : Fin 16)).plan.arrivals = [⟨0, 100, n, false⟩]
      ∧ Arrival.dueAt (s.dev.part (0 : Fin 16)).time.pbc ⟨0, 100, n, false⟩ = true ∧ (s.dev.part (0 : Fin 16)).time.holdPoint = none)
    ∧ (∃ s', exec (.transferDeadline 0) (job1 (part3 0) []) = .next s' ∧ (s'.dev.part 0).time.holdPoint = none)
    ∧ ∃ s', exec (.transferDeadline 0) (job1 (part3 64) []) = .next s' ∧ (s'.dev.part 0).time.holdPoint.isSome = true
      ∧ (s'.dev.part 0).time.lastHoldCause = 1 := by
  refine ⟨by decide +kernel, ⟨_, exec_transferDeadline .., ?_⟩, _, exec_transferDeadline .., ?_⟩ <;> decide +kernel
/-- A hold notice of tag 5, serial 0, origin 9, with hold point `ph`. -/
def hold1 (ph : Nat) : NoticeIn := ⟨1, 1, leBytes 2 5 ++ [0] ++ leBytes 3 9 ++ leBytes 8 ph⟩
theorem wit_HoldsFreezeAndResume_notice : ∀ ph ∈ [101, 100],
    (job1 part2 [hold1 ph]).dev.noticesIn.find? (·.kind == 1) = some (hold1 ph)
    ∧ (job1 part2 [hold1 ph]).dev.partOfTag (bodyFence (hold1 ph).body) = some (0 : Fin 16).val
    ∧ (job1 part2 [hold1 ph]).dev.openFor (0 : Fin 16) (hold1 ph).link = true
    ∧ bodySerial (hold1 ph).body = ((job1 part2 [hold1 ph]).dev.part (0 : Fin 16)).time.serial
    ∧ leAt (hold1 ph).body 3 3 % 2 ^ 20 ∉ ((job1 part2 [hold1 ph]).dev.part (0 : Fin 16)).time.seen
    ∧ holdPh (hold1 ph).body = ph ∧ ((job1 part2 [hold1 ph]).dev.part (0 : Fin 16)).time.pbc = 100
    ∧ ((job1 part2 [hold1 ph]).dev.part (0 : Fin 16)).time.mode = .running
    ∧ ((job1 part2 [hold1 ph]).dev.part (0 : Fin 16)).plan.stopFrom = none
    ∧ ((job1 part2 [hold1 ph]).dev.part (0 : Fin 16)).time.holdPoint = none := by decide +kernel
/-- R62: a hold notice whose hold point has come freezes the partition at once. -/
theorem test_horizonViolation : ∃ s', exec .holdNotice (job1 part2 [hold1 100]) = .next s' ∧ (s'.dev.part 0).time.mode = .frozen
    ∧ (s'.dev.part 0).time.lastHoldCause = 3 := by
  refine ⟨_, exec_holdNotice .., ?_⟩; decide +kernel
theorem wit_HoldsFreezeAndResume_freeze :
    let s := job1 { part2 with time := { part2.time with holdPoint := some 100 } } []
    s.dev.planRuns (0 : Fin 16) = true ∧ (s.dev.part (0 : Fin 16)).time.mode = .running
      ∧ (s.dev.part (0 : Fin 16)).time.holdPoint = some (s.dev.part (0 : Fin 16)).time.pbc
      ∧ (s.dev.part (0 : Fin 16)).plan.stopFrom = none
      ∧ (∃ s', exec (.freeze 0) s = .next s' ∧ (s'.dev.part 0).time.mode = .frozen ∧ (s'.dev.part 0).time.holdCount = 1) := by
  refine ⟨?_, ?_, ?_, ?_, _, exec_freeze .., ?_⟩ <;> decide +kernel
/-- A tree message with the fence tag of partition 0. -/
def tree1 (kind : Nat) (up : Bool) (b : Bytes) : NoticeIn := ⟨if up then 1 else 0, kind, leBytes 2 5 ++ padTo 12 b⟩
theorem treeIn_of {d : Dev} {kind : Nat} {up : Bool} {n : NoticeIn} {k : Nat}
    (h : (d.noticesIn.find? (·.kind == kind) == some n && d.partOfTag (bodyFence n.body) == some k
      && (d.part k).net.treeState == 1 && d.openFor k n.link
      && (if up then bit (d.part k).net.childLinks n.link && decide (n.link < 64) else (d.part k).net.parentLink == n.link)) = true) :
    d.treeIn kind up n k := by
  unfold Dev.treeIn
  cases up <;> simpa [and_assoc] using h
theorem wit_HoldsFreezeAndResume_tree : (job1 part2 [tree1 4 true []]).dev.treeIn 4 true (tree1 4 true []) 0
    ∧ (job1 part2 [tree1 5 false []]).dev.treeIn 5 false (tree1 5 false []) 0
    ∧ byteAt ((tree1 4 true []).body.drop 2) 0 = ((job1 part2 [tree1 4 true []]).dev.part (0 : Fin 16)).time.serial
    ∧ byteAt ((tree1 5 false []).body.drop 2) 0 = ((job1 part2 [tree1 5 false []]).dev.part (0 : Fin 16)).time.serial :=
  ⟨treeIn_of (by decide +kernel), treeIn_of (by decide +kernel), by decide +kernel⟩
theorem wit_HoldsFreezeAndResume_resume :
    let s := job1 { part2 with time := { part2.time with mode := .frozen, holdPoint := some 100, bres := some 4096 } } []
    (s.dev.part (0 : Fin 16)).time.bres = some 4096 ∧ (s.dev.part (0 : Fin 16)).time.mode = .frozen ∧ 4096 ≤ s.dev.time.bc := by
  decide +kernel
theorem wit_HoldsFreezeAndResume_limit :
    let s := job1 { part2 with time := { part2.time with still := 101 } } []
    s.dev.planRuns (0 : Fin 16) = true ∧ (s.dev.part (0 : Fin 16)).plan.plan = some plan2
      ∧ plan2.header.holdLimit < (s.dev.part (0 : Fin 16)).time.still ∧ (s.dev.part (0 : Fin 16)).time.limitRaised = false
      ∧ s.dev.halted = false ∧ s.dev.dump.state ≠ 1 := by decide +kernel

theorem wit_RegionStopResults_votes : (job1 part2 [tree1 7 false [0, 1]]).dev.treeIn 7 false (tree1 7 false [0, 1]) 0
    ∧ (job1 part2 [tree1 6 true [0, 1]]).dev.treeIn 6 true (tree1 6 true [0, 1]) 0
    ∧ (((job1 part2 [tree1 6 true [0, 1]]).dev.part 0).net.vote 0 0).children = [] :=
  ⟨treeIn_of (by decide +kernel), treeIn_of (by decide +kernel), by decide +kernel⟩
/-- A plan of two steps of which the second may switch, decided 16 beats before its region stop. -/
def plan3 : Plan := { plan1 with
  steps := [⟨1, true, false, false, 2, 0, 0, 0⟩, ⟨2, true, true, false, 2, 0, 0, 16⟩] }
def step1 (t : PartTime → PartTime) (p : PlanState → PlanState) : State :=
  at_ { running tile1 with parts := [(0, { part2 with time := t part2.time, plan := p { part2.plan with plan := some plan3 } })] }
theorem wit_RegionStopResults_decision :
    let s := step1 (fun t => { t with pbc := 106 }) (fun p => { p with stepIx := 1 })
    2 ∈ decisionsAhead (plan3.maxDecision / 16 + 2) plan3 1 ((s.dev.part (0 : Fin 16)).plan.stepEnd plan3 106) 106
      ∧ s.dev.planRuns (0 : Fin 16) = true ∧ ((s.dev.part (0 : Fin 16)).net.vote 2 106).own = none
      ∧ (s.dev.part (0 : Fin 16)).plan.planBegan ≤ 106 := by decide +kernel
theorem wit_RegionStopResults_stop :
    let s := step1 id (fun p => { p with stepIx := 1, stopDue := true, came := some 0 })
    s.dev.planRuns (0 : Fin 16) = true ∧ (s.dev.part (0 : Fin 16)).time.mode = .running
      ∧ (s.dev.part (0 : Fin 16)).plan.stopDue = true ∧ (s.dev.part (0 : Fin 16)).time.holdPoint = none
      ∧ (plan3.steps.getD 1 ⟨1, true, false, false, 1, 0, 0, 0⟩).op < 3
      ∧ (plan3.steps.getD 0 ⟨1, true, false, false, 1, 0, 0, 0⟩).switch = false
      ∧ (∃ s', exec (.regionStop 0) s = .next s' ∧ (s'.dev.part 0).time.opCurrent = 2 ∧ (s'.dev.part 0).audit.step = 1) := by
  refine ⟨?_, ?_, ?_, ?_, ?_, ?_, _, exec_regionStop .., ?_⟩ <;> decide +kernel
theorem wit_RegionStopResults_lock :
    let s := step1 (fun t => { t with pbc := 140 }) (fun p => { p with stopFrom := some 100 })
    s.dev.stopBeat (0 : Fin 672) = some 40 ∧ s.dev.tileEnabled (0 : Fin 672) = true ∧ (s.dev.tile (0 : Fin 672)).clock.gen = .on
      ∧ 8 < { (s.dev.tile (0 : Fin 672)).clock with selfCheckTrips := 9 }.selfCheckTrips := by decide +kernel
theorem wit_RegionStopResults_word :
    let s := step1 (fun t => { t with pbc := 156 }) (fun p => { p with stopFrom := some 100 })
    s.dev.planRuns (0 : Fin 16) = true ∧ (s.dev.part (0 : Fin 16)).plan.stopFrom = some 100 ∧ 0 ∈ s.dev.partTiles (0 : Fin 16)
      ∧ s.dev.router.parked = [] ∧ (s.dev.part (0 : Fin 16)).weights.config = none ∧ (s.dev.partTiles (0 : Fin 16)).Nodup := by
  decide +kernel
theorem wit_RegionStopResults_end :
    let s := step1 (fun t => { t with pbc := 163, edgeDue := true }) (fun p => { p with stopFrom := some 100 })
    s.dev.planRuns (0 : Fin 16) = true ∧ (s.dev.part (0 : Fin 16)).time.mode = .running
      ∧ (s.dev.part (0 : Fin 16)).time.edgeDue = true ∧ (s.dev.part (0 : Fin 16)).plan.stopFrom = some 100
      ∧ (s.dev.part (0 : Fin 16)).time.pbc + 1 = 100 + 64 ∧ (s.dev.part (0 : Fin 16)).plan.switching = false := by decide +kernel
/-! ### Memory and scrubs -/

/-- A request of 64 bytes at the start of HBM channel 0, and a ready device where it is under way at tile 0. -/
def req1 (phase : MqPhase) (left : Nat) : MqEntry := ⟨0, .read, 3, 0, 0, 64, 0, [], [], 4200, 4090, phase, left, 0, false, 0, false, []⟩
def mem1 (e : MqEntry) : State :=
  at_ { running { tile1 with mq := { MemQueue.reset with entries := [e] } } with
    channels := [(0, { Channel.reset with frame := 64, slot := 40 })], time := { ready.time with bc := 4104 } }
theorem wit_ChannelSlotResults : ((mem1 (req1 .access 2)).dev.channel (0 : Fin 272)).frame = (mem1 (req1 .access 2)).dev.time.bc / 64
    ∧ 40 < frameSlots 0 ∧ slotBegun 0 40 ((mem1 (req1 .access 2)).dev.time.bc % 64) = true
    ∧ refreshSlots 0 + (mem1 (req1 .access 2)).dev.cpSlots 0 ≤ 40
    ∧ (mem1 (req1 .access 2)).dev.oldestMq (0 : Fin 272) = some (0, req1 .access 2)
    ∧ (mem1 (req1 .access 2)).dev.oldestLanding (0 : Fin 272) = none ∧ 1 < (req1 .access 2).left
    ∧ ((mem1 (req1 .access 2)).dev.tile (0 : Fin 672)).mq.entries = [req1 .access 2]
    ∧ (mem1 (req1 .access 2)).dev.oldestUnit (0 : Fin 272) = none ∧ (mem1 (req1 .access 2)).dev.channelStopped (0 : Fin 272) = false
    ∧ (∃ s', exec (.channelSlot 0) (mem1 (req1 .access 2)) = .next s' ∧ (s'.dev.channel 0).slot = 41
      ∧ (s'.dev.tile 0).mq.entries = [req1 .access 1]) := by
  refine ⟨?_, ?_, ?_, ?_, ?_, ?_, ?_, ?_, ?_, ?_, _, exec_channelSlot .., ?_⟩ <;> decide +kernel
/-- A control-plane read with two slots to go: in a control-plane slot of a running partition, and in any slot of a stopped one. -/
def cp1 (p : Part) (slot : Nat) : State :=
  at_ { with1 p with
    channels := [(0, { Channel.reset with frame := 64, slot := slot })], time := { ready.time with bc := 4104 }
    cp := [⟨5, false, 64, [], 64, 2, false, .host 1⟩] }
theorem wit_ChannelSlotResults_control : ∀ x ∈ [(part2, refreshSlots 0, false), (part1, 40, true)],
    let d := (cp1 x.1 x.2.1).dev
    (d.channel (0 : Fin 272)).slot < frameSlots 0 ∧ slotBegun 0 x.2.1 (d.time.bc % 64) = true ∧ refreshSlots 0 ≤ x.2.1
      ∧ d.channelStopped (0 : Fin 272) = x.2.2 ∧ (x.2.2 = true ∨ x.2.1 < refreshSlots 0 + d.cpSlots 0)
      ∧ d.oldestCp (0 : Fin 272) (d.channelStopped (0 : Fin 272)) = some ⟨5, false, 64, [], 64, 2, false, .host 1⟩ := by
  decide +kernel
theorem test_controlSlot : ∃ s', exec (.channelSlot 0) (cp1 part1 40) = .next s' ∧ s'.dev.cp.map (·.left) = [1] := by
  refine ⟨_, exec_channelSlot .., ?_⟩; decide +kernel
/-- A read of 2,048 bytes in the queue of token-selection unit 0, at the same slot. -/
theorem wit_ChannelSlotResults_unit : let r : UnitReq := ⟨7, 0, 2048, false, none, 32⟩
    let s := (mem1 (req1 .complete 0)).dev
    let d := s.updPart 0 (fun p => { p with serving := { p.serving with memq := [r] } })
    refreshSlots 0 + d.cpSlots 0 ≤ 40 ∧ slotBegun 0 40 (d.time.bc % 64) = true ∧ d.oldestUnit (0 : Fin 272) = some (0, r)
      ∧ d.oldestMq (0 : Fin 272) = none ∧ d.oldestLanding (0 : Fin 272) = none ∧ d.channelStopped (0 : Fin 272) = false ∧ 1 < r.left ∧ (d.part 0).serving.memq = [r] := by decide +kernel
theorem wit_ChannelSlotResults_idle : slotBegun 0 45 ((mem1 (req1 .access 2)).dev.time.bc % 64) = false
    ∧ slotBegun 0 44 ((mem1 (req1 .access 2)).dev.time.bc % 64) = true ∧ frameSlots 0 ≤ 320 := by decide +kernel
theorem wit_ChannelSlotResults_completion : ∀ p ∈ [MqPhase.complete, MqPhase.landing],
    ((mem1 (req1 p 0)).dev.tile (0 : Fin 672)).mq.entries.find? (·.count == (3 : Fin 8).val) = some (req1 p 0)
    ∧ ((mem1 (req1 p 0)).dev.tile (0 : Fin 672)).mq.counts.length = 8
    ∧ (((mem1 (req1 p 0)).dev.tile (0 : Fin 672)).mq.entries.map (·.id)).Nodup := by decide +kernel
theorem wit_ChannelSlotResults_decode :
    (mem1 (req1 .decode 0)).dev.tiles = [(0, { tile1 with mq := { MemQueue.reset with entries := [req1 .decode 0] } })]
    ∧ (req1 .decode 0).left = 0 ∧ channelOf (req1 .decode 0).addr = (0 : Fin 272) ∧ (req1 .decode 0).op ≠ .move := by decide +kernel

/-- A command of function `f` (PARTITION 0, or 0xFF where only the device takes it), and a device it waits at. -/
def cmd (f op part : Nat) (b : Bytes) (flags a0 a1 a2 off : Nat) : Cmd :=
  { id := 1, fn := f, gen := 0, opcode := op, partition := part, flags := flags, len := b.length, tag := 77, arg0 := a0, arg1 := a1
    arg2 := a2, streamOffset := off, seq := 0, accepted := 4000, payload := b, started := false, left := 0, status := 0, detail := 0 }
def withCmd (d : Dev) (c : Cmd) : State := at_ { d with commands := [c] }
theorem commandAt_of {d : Dev} {f op : Nat} {c : Cmd} (h : (!d.halted && d.nextCommand f op == some c && c.permitted && d.takes op
    && decide (c.len ≤ 65536)) = true) : d.commandAt f op c := by
  unfold Dev.commandAt; simpa [and_assoc] using h

/-- SCRUB of the first page of HBM. -/
def scrub1 (n : Nat) : Cmd := cmd 0 0x0500 0xFF (leBytes 8 0 ++ leBytes 8 n ++ leBytes 8 0) 0 0 0 0 0
theorem wit_ScrubAndInjectionResults : (withCmd ready (scrub1 2048)).dev.commandAt (0 : Fin 17) 0x0500 (scrub1 2048)
    ∧ (scrub1 2048).len = 24 ∧ leAt (scrub1 2048).payload 6 2 = 0 ∧ leAt (scrub1 2048).payload 17 7 = 0
    ∧ scrubStatus (withCmd ready (scrub1 2048)).dev none (scrub1 2048).payload = 0
    ∧ scrubStatus (withCmd ready (scrub1 2048)).dev none (scrub1 2047).payload = 1 :=
  ⟨commandAt_of (by decide +kernel), by decide +kernel⟩
theorem wit_ScrubAndInjectionResults_complete :
    let j : ScrubJob := ⟨5, 0xFE, 0, false, 0, 2048, 0, false, [], 1, 0, 0, 0, 0, 0, [], [], []⟩
    ({ ready with scrubs := [j] } : Dev).scrubs.find? (·.active.isEmpty) = some j ∧ ready.deviceFatal = false := by decide +kernel
theorem wit_ScrubAndInjectionResults_arm : (with1 part1).accepts .hostAdmin 0x9090 5 1 ∧ injectRefused (with1 part1) = false
    ∧ (with1 part2).accepts .hostAdmin 0x9090 5 1 ∧ injectRefused (with1 part2) = true :=
  ⟨accepts_of (by decide +kernel), by decide +kernel, accepts_of (by decide +kernel), by decide +kernel⟩

/-! ### Streams and host commands -/

/-- An open stream of the PF with two bytes of an image. -/
def stream1 : ImageStream := ⟨0, [0x44, 0x56], none, [], none⟩
def img1 : Dev := with1 { part1 with plan := { PlanState.reset with streams := [stream1] } }
theorem wit_PlanStreamResults : ∀ off ∈ [2, 3],
    (withCmd img1 (cmd 0 0x0200 0 [0x50, 0x31] 0 0 0 0 off)).dev.commandAt (0 : Fin 17) 0x0200 (cmd 0 0x0200 0 [0x50, 0x31] 0 0 0 0 off)
    ∧ (img1.part 0).plan.streamOf 0 = some stream1 ∧ bit (cmd 0 0x0200 0 [0x50, 0x31] 0 0 0 0 off).flags 0 = false
    ∧ img1.checkImage 0 (stream1.received ++ [0x50, 0x31]) false = .wait := by
  intro off h
  refine ⟨commandAt_of ?_, ?_⟩ <;> revert off <;> decide +kernel
theorem wit_PlanStreamResults_none : (withCmd (with1 part1) (cmd 0 0x0200 0 [1] 0 0 0 0 0)).dev.commandAt (0 : Fin 17) 0x0200
      (cmd 0 0x0200 0 [1] 0 0 0 0 0) ∧ ((with1 part1).part 0).plan.streamOf 0 = none
    ∧ (withCmd img1 (cmd 0 0x0201 0 [] 0 0 0 0 0)).dev.commandAt (0 : Fin 17) 0x0201 (cmd 0 0x0201 0 [] 0 0 0 0 0) :=
  ⟨commandAt_of (by decide +kernel), by decide +kernel, commandAt_of (by decide +kernel)⟩
/-- The same stream once its control part is accepted. -/
def img2 : Dev := with1 { part1 with plan := { PlanState.reset with streams := [{ stream1 with plan := some plan1 }] } }
theorem wit_PlanStreamResults_abort :
    (withCmd img2 (cmd 0 0x0201 0 [] 0 0 0 0 0)).dev.commandAt (0 : Fin 17) 0x0201 (cmd 0 0x0201 0 [] 0 0 0 0 0)
    ∧ (img2.part 0).plan.streamOf 0 = some { stream1 with plan := some plan1 }
    ∧ ImageStream.successor { stream1 with plan := some plan1 } = false ∧ stream1.successor = false ∧ stream1.plan = none :=
  ⟨commandAt_of (by decide +kernel), by decide +kernel⟩
/-- A lost byte is a free value until it is written (R323). -/
theorem test_lostByte : let d := loseRange ready 0 16
    d.byte 3 = Config.lostByte ready.free 3 ∧ d.byte 16 = 0 ∧ (d.store 3 [7]).byte 3 = 7
      ∧ (d.store 3 [7]).byte 4 = Config.lostByte ready.free 4 ∧ (zeroRange d 0 8).byte 7 = 0 := ⟨rfl, rfl, rfl, rfl, rfl⟩
theorem wit_PlanStreamResults_stage :
    let p : Part := { part2 with plan := { part2.plan with successor := some ⟨plan1, [], false⟩, succState := 2, stageOpened := true } }
    ((with1 p).part (0 : Fin 16)).plan.successor = some ⟨plan1, [], false⟩ ∧ ((with1 p).part (0 : Fin 16)).plan.succState = 2
      ∧ ((with1 p).part (0 : Fin 16)).plan.stageOpened = true ∧ (with1 p).planRuns (0 : Fin 16) = true
      ∧ 0 ∈ (with1 p).partTiles (0 : Fin 16) ∧ ((with1 p).tile 0).imemActive ≤ 1 := by decide +kernel

/-- The checks of a host command: none in front; a VF that names another partition; a fatal error; a command too long. -/
theorem wit_HostCommandChecks : hostRow (.partStop 1) = some (1, 0x0210) ∧ ready.halted = false ∧ ready.nextCommand 1 0x0210 = none
    ∧ (let c := cmd 1 0x0210 3 [] 0 0 0 0 0
       (withCmd ready c).dev.nextCommand 1 0x0210 = some c ∧ c.permitted = false)
    ∧ (let c := cmd 1 0x0210 0 [] 0 0 0 0 0
       (withCmd { ready with deviceFatal := true } c).dev.nextCommand 1 0x0210 = some c ∧ c.permitted = true
         ∧ (withCmd { ready with deviceFatal := true } c).dev.takes 0x0210 = false)
    ∧ (let c := { cmd 1 0x0210 0 [] 0 0 0 0 0 with len := 65537 }
       (withCmd ready c).dev.nextCommand 1 0x0210 = some c ∧ c.permitted = true ∧ (withCmd ready c).dev.takes 0x0210 = true
         ∧ 65536 < c.len) := ⟨rfl, by decide +kernel⟩
theorem wit_HostCommandResults_nop : (withCmd ready (cmd 0 1 0 [] 0 0 0 0 0)).dev.commandAt (0 : Fin 17) 0x0001 (cmd 0 1 0 [] 0 0 0 0 0) :=
  commandAt_of (by decide +kernel)
/-- MEM_WRITE of nothing, past the channels of the partition, and of two bytes at the last backed address of HBM channel 0. -/
def write1 (a : Nat) : Cmd := cmd 0 0x0100 0 [1, 2] 0 a 0 0 0
theorem wit_HostCommandResults_write :
    (let c := cmd 0 0x0100 0 [] 0 0 0 0 0; (withCmd (with1 part1) c).dev.commandAt (0 : Fin 17) 0x0100 c)
    ∧ (withCmd (with1 part1) (write1 0x7FEFFFFF)).dev.commandAt (0 : Fin 17) 0x0100 (write1 0x7FEFFFFF)
    ∧ (withCmd (with1 part1) (write1 0x7FEFFFFF)).dev.hostRefusal 0 0x7FEFFFFF 2 = some 6
    ∧ (let d := (withCmd (with1 part1) (write1 0x7FEFFFFE)).dev
       d.commandAt (0 : Fin 17) 0x0100 (write1 0x7FEFFFFE) ∧ (write1 0x7FEFFFFE).payload.length = (write1 0x7FEFFFFE).len
       ∧ d.hostRefusal 0 0x7FEFFFFE 2 = none
       ∧ d.protectedWeights 0 0x7FEFFFFE 2 true = false ∧ d.parkFits 0x7FEFFFFE 2 = true ∧ receivingBatch d 0 0x7FEFFFFE 2 = none
       ∧ partsOf 0x7FEFFFFE 2 = [(0x7FEFFFFE, 2)] ∧ isHbm 0x7FEFFFFE = true) :=
  ⟨commandAt_of (by decide +kernel), commandAt_of (by decide +kernel), by decide +kernel, commandAt_of (by decide +kernel),
    by decide +kernel⟩
theorem wit_HostCommandResults_read : ∀ n ∈ [7, 8, 16777216],
    (withCmd (with1 part1) (cmd 0 0x0101 0 [] 0 0 n 0 0)).dev.commandAt (0 : Fin 17) 0x0101 (cmd 0 0x0101 0 [] 0 0 n 0 0)
    ∧ (with1 part1).windowFits 0 0 n = true ∧ (with1 part1).hostRefusal 0 0 8 = none ∧ partsOf 0 8 = [(0, 8)] := by
  intro n h
  refine ⟨commandAt_of ?_, ?_⟩ <;> revert n <;> decide +kernel
/-- JOB_MAP of one device, LOAD_PARAMS, LINK_MEASURES and ROUTE_TABLE of that job, each in one packet. -/
def map1 : Cmd := cmd 0 0x0202 0 (leBytes 16 1 ++ leBytes 4 7) 3 0 0 0 0
def params1 : Cmd := cmd 0 0x0205 0 (leBytes 8 5) 3 0 0 0 0
def measures1 : Cmd := cmd 0 0x0206 0 (leBytes 16 1) 3 0 0 0 0
def route1 (ranks : Nat) : Cmd := cmd 0 0x0203 0 (leBytes 152 ranks ++ [0xFE]) 3 0 0 0 0
def mapped1 : Dev := with1 { part1 with job := { JobObjects.reset with jobMap := some [7] } }
theorem wit_HostCommandResults_map : (withCmd (with1 part1) map1).dev.commandAt (0 : Fin 17) 0x0202 map1 ∧ map1.payload.length = 16 + 4 * 1
    ∧ leAt map1.payload 0 4 = 1 ∧ leAt map1.payload 4 12 = 0 ∧ (with1 part1).part 0 = part1 ∧ part1.time.mode = .stopped
    ∧ bit map1.flags 0 = true ∧ bit map1.flags 1 = true ∧ map1.streamOffset = 0 :=
  ⟨commandAt_of (by decide +kernel), by decide +kernel⟩
theorem wit_HostCommandResults_job : (withCmd mapped1 params1).dev.commandAt (0 : Fin 17) 0x0205 params1 ∧ params1.payload.length % 8 = 0
    ∧ (withCmd mapped1 measures1).dev.commandAt (0 : Fin 17) 0x0206 measures1
    ∧ leAt measures1.payload 0 4 = ((mapped1.part 0).job.jobMap.getD []).length
    ∧ (∀ n ∈ [1, 2], (withCmd mapped1 (route1 n)).dev.commandAt (0 : Fin 17) 0x0203 (route1 n))
    ∧ mapped1.routeOk 0 (route1 1).payload = true ∧ mapped1.routeOk 0 (route1 2).payload = false :=
  ⟨commandAt_of (by decide +kernel), by decide +kernel, commandAt_of (by decide +kernel), by decide +kernel,
    fun n h => commandAt_of (by revert n; decide +kernel), by decide +kernel⟩
/-- TREE_RECORD of a device alone in its job, and one that names a link the job does not have. -/
def root1 (children : Nat) : Cmd := cmd 0 0x0204 0 (leBytes 8 0xFE ++ leBytes 8 children) 0 0 0 0 0
def routed1 : Dev := with1 { part1 with net := { Net.reset with routeState := 1, route := some (RouteTable.parse (route1 1).payload) } }
theorem wit_HostCommandResults_tree : (∀ n ∈ [0, 1], (withCmd routed1 (root1 n)).dev.commandAt (0 : Fin 17) 0x0204 (root1 n)
      ∧ (root1 n).len = 16) ∧ routed1.treeOk 0 (root1 0).payload = true ∧ routed1.treeOk 0 (root1 1).payload = false :=
  ⟨fun n h => ⟨commandAt_of (by revert n; decide +kernel), by revert n; decide +kernel⟩, by decide +kernel⟩
theorem wit_HostCommandResults_stop : ∀ op ∈ [0x0210, 0x0211],
    (withCmd (with1 part1) (cmd 0 op 0 [] 0 0 0 0 0)).dev.commandAt (0 : Fin 17) op (cmd 0 op 0 [] 0 0 0 0 0)
    ∧ (withCmd (with1 part2) (cmd 0 op 0 [] 0 0 0 0 0)).dev.commandAt (0 : Fin 17) op (cmd 0 op 0 [] 0 0 0 0 0)
    ∧ ((with1 part1).part 0).time.mode = .stopped ∧ ((with1 part2).part 0).time.mode ≠ .stopped := by
  intro op h
  refine ⟨commandAt_of ?_, commandAt_of ?_, ?_⟩ <;> revert op <;> decide +kernel
theorem wit_HostCommandResults_reset :
    let d := with1 { part1 with resetAsked := [9] }
    (d.part (0 : Fin 16)).resetAsked ≠ [] ∧ (d.part (0 : Fin 16)).time.mode = .stopped ∧ d.queuesEmpty (0 : Fin 16) = true
      ∧ (∀ x ∈ (d.part (0 : Fin 16)).plan.streams, x.closing = none) := by
  decide +kernel

/-! ### Function registers -/

/-- A NOP packet as packet number 0, with its header CRC. -/
def packet1 : Bytes :=
  let head := leBytes 2 1 ++ [0xFF, 0] ++ leBytes 4 0 ++ leBytes 8 77 ++ zeros 40
  head ++ leBytes 8 (crc64 head)
theorem wit_FunctionRegisterResults : ready.registersOpen (1 : Fin 17) = true ∧ (ready.fn (1 : Fin 17)).proto ≠ 0
    ∧ (ready.fn (1 : Fin 17)).window = [] ∧ (ready.fn (1 : Fin 17)).produced = (ready.fn (1 : Fin 17)).consumed
    ∧ (1 : BitVec 32).toNat = ((ready.fn (1 : Fin 17)).consumed + 1) % 2 ^ 32 ∧ headerOk packet1 0 = true
    ∧ knownOpcode (leAt packet1 0 2) = true ∧ 8 < ((9 : BitVec 32).toNat + 2 ^ 32 - (ready.fn (1 : Fin 17)).consumed) % 2 ^ 32 := by
  decide +kernel
/-- R585: SQ_DOORBELL hands the packet over, and the NOP waits as a command. -/
theorem test_doorbell : ∃ s', exec (.sqDoorbell 1 1 [packet1]) (at_ ready) = .next s' ∧ s'.dev.commands.map (·.opcode) = [1]
    ∧ s'.dev.commands.map (·.tag) = [77] := by
  refine ⟨_, exec_sqDoorbell .., ?_⟩; decide +kernel
theorem wit_FunctionRegisterResults_rings :
    let x : Ring := { Ring.reset with enable := true, tail := 64, unsignalled := 1, modUs := 1 }
    let d : Dev := { ready with fns := [(1, { ready.fn 1 with
      rings := [x, Ring.reset, Ring.reset, Ring.reset], backlog := [⟨0, 1, [], 0, 0, 0⟩] })] }
    d.registersOpen (1 : Fin 17) = true ∧ hasRing 1 0 = true ∧ hasRing 1 1 = true ∧ (d.fn (1 : Fin 17)).rings.length = 4
      ∧ ((d.fn (1 : Fin 17)).ring (0 : Fin 4)).head ≤ 64 ∧ 64 ≤ ((d.fn (1 : Fin 17)).ring (0 : Fin 4)).tail
      ∧ ((d.fn (1 : Fin 17)).ring (1 : Fin 4)).enable = false ∧ bit (0x0021 : BitVec 32).toNat 0 = true
      ∧ d.ringRefused 1 1 = false ∧ bits (0x0021 : BitVec 32).toNat 1 5 = ((d.fn (1 : Fin 17)).ring (1 : Fin 4)).sizeLog2
      ∧ bits (0x0021 : BitVec 32).toNat 8 5 = ((d.fn (1 : Fin 17)).ring (1 : Fin 4)).vector
      ∧ ((d.fn (1 : Fin 17)).ring (0 : Fin 4)).unsignalledBc + 250 * 1 ≤ d.time.bc ∧ d.canPost 1 0 = true
      ∧ (d.fn (1 : Fin 17)).backlog.find? (·.ring == (0 : Fin 4).val) = some ⟨0, 1, [], 0, 0, 0⟩
      ∧ ((d.fn (1 : Fin 17)).ring (0 : Fin 4)).room (entryLength []) = true := by decide +kernel
/-- R600: function 1 with MSI-X enabled, vector 0 masked or not, and a PBA bit where it is. -/
def msix1 (masked : Nat) : State := at_ { ready with fns := [(1, { ready.fn 1 with msixOn := true, allMasked := false, masked := masked, pba := masked })] }
theorem wit_FunctionRegisterResults_msix : (msix1 1).dev.registersOpen (1 : Fin 17) = true ∧ 0 < vectorCount (1 : Fin 17)
    ∧ ((msix1 1).dev.fn (1 : Fin 17)).vectorMasked 0 = true ∧ ((msix1 0).dev.fn (1 : Fin 17)).vectorMasked 0 = false
    ∧ ((msix1 1).dev.fn (1 : Fin 17)).msixOn = true ∧ ((msix1 1).dev.fn (1 : Fin 17)).allMasked = false
    ∧ bit ((msix1 1).dev.fn (1 : Fin 17)).pba 0 = true
    ∧ (∃ s', exec (.registerWrite (.register 1 (0x8000 + 12) 0)) (msix1 1) = .next s' ∧ (s'.dev.fn 1).pba = 0
      ∧ Sparse.get 0 (s'.dev.fn 1).messages 0 = 1) := by
  refine ⟨?_, ?_, ?_, ?_, ?_, ?_, ?_, _, exec_registerWrite .., ?_⟩ <;> decide +kernel
theorem wit_FunctionRegisterResults_mailbox : bits (0x1000 : BitVec 32).toNat 12 4 = 1 ∧ bits (0x2010 : BitVec 32).toNat 12 4 = 2
    ∧ ready.fwRunning = true ∧ (ready.fn (0 : Fin 17)).mbxFrame = none ∧ ready.router.fwInbox.length < 256 := by decide +kernel
theorem wit_FunctionResetResults : ready.pcie.linkUp = true ∧ ready.fnEnabled (1 : Fin 17) = true ∧ ready.fnEnabled (16 : Fin 17) = true ∧ ready.stage ≠ 0
    ∧ ready.pcie.perst = false ∧ ({ ready with pcie := { ready.pcie with perst := true } } : Dev).pcie.perst = true := by decide +kernel
/-! ### Links -/

/-- A ready device with link 0 as given. -/
def linked (x : LinkState) : State := at_ { ready with links := [(0, x)] }
theorem wit_LinkStateChanges_writes : (linked LinkState.reset).dev.accepts .hostAdmin (0x4100 + (0 : Fin 64)) 1 1
    ∧ (linked link1).dev.accepts .hostAdmin (0x4100 + (0 : Fin 64)) 1 0 ∧ (linked link1).dev.accepts .hostAdmin (0x4100 + (0 : Fin 64)) 13 1
    ∧ (linked link1).dev.linkBusy (0 : Fin 64) = false ∧ ((linked link1).dev.link (0 : Fin 64)).st = 4
    ∧ (∀ e ∈ (linked link1).dev.router.ort, e.link ≠ some (0 : Fin 64).val) ∧ ((linked link1).dev.link (0 : Fin 64)).asm = [] :=
  ⟨accepts_of (by decide +kernel), accepts_of (by decide +kernel), accepts_of (by decide +kernel), by decide +kernel⟩
/-- A training frame of phase `p` that offers versions `v`, from link 3 of device 9, with its equaliser done and frame count `n`. -/
def frame1 (p v n : Nat) : Bytes :=
  let b := leBytes 4 0x52545645 ++ leBytes 1 p ++ leBytes 3 v ++ leBytes 4 9 ++ leBytes 1 3 ++ zeros 1 ++ leBytes 6 0x202020202020
    ++ leBytes 2 32 ++ leBytes 2 32 ++ zeros 8 ++ leBytes 4 n ++ zeros 20
  b ++ leBytes 8 (crc64 b)
/-- A link in phase `p` of its training that has had 63 good frames and offers both versions. -/
def train1 (p : Nat) (tail : Option Nat) : State :=
  linked { link1 with st := 2, phase := p, goodRun := 63, offers := 3, tail := tail, rateAt := 0 }
theorem wit_LinkStateChanges_training : (∀ x ∈ [(1, 2, 0), (2, 2, 0), (2, 2, 1), (2, 2, 2), (3, 4, 0), (4, 4, 0)],
      let f := frame1 x.2.1 x.2.2 1
      let y := (train1 x.1 none).dev.link (0 : Fin 64)
      f.length = 64 ∧ leAt f 0 4 = 0x52545645 ∧ leAt f 56 8 = crc64 (f.take 56) ∧ byteAt f 4 = x.2.1
        ∧ eqDone (32 : Fin 64) = true ∧ eqDone (leAt f 20 2) = true ∧ eqDone (leAt f 22 2) = true ∧ y.rateAt ≤ y.frames
        ∧ y.rateAt < leAt f 32 4 ∧ y.st = 2 ∧ y.phase = x.1 ∧ y.tail = none ∧ 63 ≤ y.goodRun
        ∧ (bit (y.offers &&& byteAt f 5) 1 = true ↔ x.2.2 = 2) ∧ (bit (y.offers &&& byteAt f 5) 0 = true ↔ x.2.2 = 1))
    ∧ ((train1 4 (some 1)).dev.link (0 : Fin 64)).tail = some 1 := by
  refine ⟨fun x h => ?_, ?_⟩
  · revert x; decide +kernel
  · decide +kernel
/-- R342: the highest common version is DLP 2.1. R344: a frame in error, and the last further frame. -/
theorem test_training : (∃ s', exec (.trainingFrame 0 (frame1 2 2 1) ⟨32, 32, []⟩) (train1 2 none) = .next s' ∧ (s'.dev.link 0).dlp = 0x0201
      ∧ (s'.dev.link 0).phase = 3)
    ∧ ∃ s', exec (.trainingFrame 0 (zeros 64) ⟨32, 32, []⟩) (train1 4 (some 1)) = .next s' ∧ (s'.dev.link 0).st = 3 := by
  refine ⟨⟨_, exec_trainingFrame .., ?_⟩, _, exec_trainingFrame .., ?_⟩ <;> decide +kernel
theorem wit_LinkStateChanges_measured :
    let x := ((linked { link1 with st := 3, measuring := true, latCount := 1024, rttCount := 1024, peerSync := 2 }).dev.link (0 : Fin 64))
    x.st = 3 ∧ x.measuring = true ∧ 1024 ≤ x.latCount ∧ 1024 ≤ x.rttCount ∧ x.peerSync = 2 ∧ ready.time.sync = 2
      ∧ ¬ (ready.time.sync = 2 ∧ { x with peerSync := 1 }.peerSync = 2) := by decide +kernel
theorem wit_LinkStateChanges_rest : (∀ n ∈ [1, 2, 5], ((linked { link1 with st := n }).dev.link (0 : Fin 64)).st = n
      ∧ (linked { link1 with st := n }).dev.linkBusy (0 : Fin 64) = false ∧ link1.enable = true)
    ∧ (let d := { (linked { link1 with stall := some 0 }).dev with time := { ready.time with bc := 65536 } }
       (d.link (0 : Fin 64)).stall = some 0 ∧ 0 + 65536 ≤ d.time.bc) := by decide +kernel

/-- An UP link of DLP 1.3 with a flit in each queue: every slot is another one than a reserved slot, and slot 47 headroom. -/
def sends1 (planned : List Flit) (be : List Flit) : State :=
  linked { link1 with dlp := 0x0103, plannedQ := planned, beQ := be :: List.replicate 5 [] }
theorem wit_FlitsSentInTurn : let x := (sends1 [⟨9, []⟩] [⟨9, [1]⟩]).dev.link (0 : Fin 64)
    x.st = 4 ∧ x.replayAt = none ∧ x.missed = 0 ∧ x.held.length < 512 ∧ x.measuring = false ∧ x.freed.length = 6
      ∧ (sends1 [⟨9, []⟩] [⟨9, [1]⟩]).dev.anchorWaits (0 : Fin 64) = false
      ∧ (sends1 [⟨9, []⟩] [⟨9, [1]⟩]).dev.slotAt (0 : Fin 64) (0 : Fin 25) = some 0
      ∧ reservedSlot ((sends1 [⟨9, []⟩] [⟨9, [1]⟩]).dev.plannedSlots (0 : Fin 64)) 0 = false ∧ x.headroom 0 = false
      ∧ (List.range 6).find? (fun u => !(x.beQ.getD u []).isEmpty && decide (0 < x.credits.getD u 0)) = some 0 := by decide +kernel
/-- A running partition whose plan gives link 0 all 88 slots: slot 0 of its frame is reserved. -/
def planned1 : State :=
  at_ { with1 { part2 with
    net := { Net.reset with plannedLinks := 1 }
    time := { part2.time with slotAge := 0, slotBeat := 64 }
    plan := { part2.plan with plan := some { plan1 with links := [⟨0, 1, 0, 88, 0⟩] } } } with
    links := [(0, { link1 with dlp := 0x0104, anchorPbc := true, plannedQ := [⟨9, []⟩] })] }
theorem wit_FlitsSentInTurn_planned : planned1.dev.anchorWaits (0 : Fin 64) = false
    ∧ planned1.dev.slotAt (0 : Fin 64) (0 : Fin 25) = some 0 ∧ reservedSlot (planned1.dev.plannedSlots (0 : Fin 64)) 0 = true
    ∧ (planned1.dev.link (0 : Fin 64)).plannedQ = ⟨9, []⟩ :: [] := by decide +kernel
/-- R351, R386: a flit with nothing to send carries no data. -/
theorem test_flit_idle : ∃ s', exec (.flitTransmit 0 0) (linked link1) = .next s'
    ∧ (s'.dev.link 0).lastTx.length = 256 ∧ byteAt (s'.dev.link 0).lastTx 2 = 0 := by
  refine ⟨_, exec_flitTransmit .., ?_⟩; decide +kernel

/-- A DATA flit with sequence number `n`, and its CRC. -/
def flit1 (n : Nat) : Bytes := leBytes 2 n ++ [1] ++ zeros 245 ++ leBytes 8 (crc64 (leBytes 2 n ++ [1] ++ zeros 245))
theorem flit1_crc (n : Nat) : leAt (flit1 n) 248 8 = crc64 ((flit1 n).take 248) := by
  have hb : (leBytes 2 n ++ [1] ++ zeros 245 : Bytes).length = 248 := by simp
  have := leAt_crc (leBytes 2 n ++ [1] ++ zeros 245) []
  rw [hb, List.append_nil] at this
  rw [flit1, this, List.take_left' hb]
theorem wit_FlitsReceivedInOrder : (∀ n ∈ [0, 1, 32767, 32768, 65535], (flit1 n).length = 256 ∧ byteAt (flit1 n) 2 % 4 = 1
      ∧ byteAt (flit1 n) 8 = 0 ∧ byteAt (flit1 n) 16 = 0
      ∧ (leAt (flit1 n) 0 2 + 2 ^ 16 - ((linked link1).dev.link (0 : Fin 64)).expected) % 2 ^ 16 = n)
    ∧ ((linked link1).dev.link (0 : Fin 64)).badRun < 63 ∧ 63 ≤ ((linked { link1 with badRun := 63 }).dev.link (0 : Fin 64)).badRun := by
  decide +kernel
theorem wit_FlitsReceivedInOrder_timer :
    let d := (linked { link1 with held := [⟨7, ⟨9, []⟩, 0, true⟩], timer := 4000 }).dev
    (d.link (0 : Fin 64)).held = ⟨7, ⟨9, []⟩, 0, true⟩ :: [] ∧ (d.link (0 : Fin 64)).timer + (d.link (0 : Fin 64)).replayTimeout ≤ d.time.bc := by
  decide +kernel
/-- R339, R375: a codeword of 16 errors counts once and fails a flit that shares it; one of 15 is corrected. -/
theorem test_codewords : ∃ s', exec (.flitReceive 0 0 (flit1 0) false [0, 15, 16]) (linked link1) = .next s'
    ∧ (s'.dev.link 0).cnt.cwUncorrectable = 1 ∧ (s'.dev.link 0).cnt.cwCorrected = 1 ∧ (s'.dev.link 0).nakPending = true := by
  refine ⟨_, exec_flitReceive .., ?_⟩; decide +kernel
/-- An outstanding request of tile 0, opened at BC 0. -/
def ort1 (owner : OrtOwner) (again : Option Packet) : OrtEntry := ⟨0, 5, none, owner, 0, 0, 0, 0, again, again.map (fun _ => 0), none⟩
theorem wit_FlitsReceivedInOrder_resp :
    let d := { ready with router := { Router.reset with ort := [ort1 (.tile 0 0 3) none] }, time := { ready.time with bc := 262145 } }
    d.router.ort.find? (fun y => y.die == (0 : Fin 2).val && y.ix == (5 : Fin 2048).val) = some (ort1 (.tile 0 0 3) none)
      ∧ (ort1 (.tile 0 0 3) none).lost = none ∧ (ort1 (.tile 0 0 3) none).opened + d.router.respTimeout < d.time.bc
      ∧ d.answered (ort1 (.tile 0 0 3) none) 262144 = false := by decide +kernel

/-! ### Packets -/

/-- A packet with fence tag 5 from device 9 to device `dest`. -/
def pkt (dest kind vc phase addr : Nat) (b : Bytes) : Packet :=
  { dest := dest, kind := kind, flow := 0, planned := false, vc := vc, src := 9, srcId := 0, addr := addr, fence := 5, len := b.length
    lastRank := 0, mid := dest, phase := phase, rtag := 5, status := 0, xfer := 0, hop := 0, route := 0, payload := b }
def inPkt (p : Packet) (link : Option Nat) : InPacket := ⟨3, link, p.vc, 1, 0, p, 0, false⟩
/-- A job of devices 7 and 9 in partition 0, running, with the route to device 9 over link 0. -/
def fabric1 (r : Router) (x : Tile) : Dev :=
  { with1 { part2 with
      job := { JobObjects.reset with jobMap := some [7, 9] }
      plan := { part2.plan with plan := some plan2 }
      net := { Net.reset with
        routeState := 1, openLinks := 1, plannedLinks := 1
        route := some ⟨2, 0, 0, 1, 2 :: List.replicate 63 0, [0xFE, 0]⟩ } } with
    links := [(0, link1)], router := r, tiles := [(0, x)], time := { ready.time with bc := 70000 } }
theorem wit_PacketsGoOneHop_forward : ∀ p ∈ [pkt 9 1 1 1 0 [1], { pkt 9 1 1 1 0 [1] with fence := 6 }, pkt 9 1 2 1 0 [1], pkt 7 1 1 1 0 [1],
      { pkt 9 1 1 1 0 [1] with lastRank := 2 }],
    let d := fabric1 { Router.reset with ingress := [inPkt p none] } tile1
    d.router.ingress.find? (·.id == 3) = some (inPkt p none) ∧ ¬ (p.phase = 0 ∧ p.mid = d.selfDev)
      ∧ (p.fence = 5 → d.passes (inPkt p none) = true) ∧ (p.fence = 6 → d.passes (inPkt p none) = false) ∧ kindOk p = (p.vc == 1)
      ∧ (p.dest = 9 → d.partOfTag 5 = some 0 ∧ d.rankOf 0 9 = some 1 ∧ d.openFor 0 0 = true) := by decide +kernel
theorem wit_PacketsGoOneHop_send : let q := inPkt (pkt 9 1 1 1 0 [1]) none
    let d := fabric1 { Router.reset with out := [(0, q)] } tile1
    d.router.out.find? (fun o => o.1 == (0 : Fin 64).val && o.2.pkt.vc == (1 : Fin 6).val) = some ((0 : Fin 64).val, q)
      ∧ (d.link (0 : Fin 64)).st = 4 ∧ 0 < (d.link (0 : Fin 64)).credits.getD 1 0 ∧ (d.link (0 : Fin 64)).beQ.length = 6
      ∧ 0 < d.flitsAtLink q (linkDie (0 : Fin 64)) ∧ q.flits ≤ q.handed + d.flitsAtLink q (linkDie (0 : Fin 64)) := by decide +kernel
/-- R126: two of three flits of a packet from the other die have been 6 beats in the bridge. -/
theorem wit_PacketsGoOneHop_bridge : let q : InPacket := { inPkt (pkt 9 1 1 1 0 [1]) (some 40) with flits := 3 }
    let d := fabric1 { Router.reset with out := [(0, q)], bridge := [(3, 69994, 2)] } tile1
    d.flitsAtLink q (linkDie (0 : Fin 64)) = 2 ∧ q.handed + 2 < q.flits := by decide +kernel
theorem wit_PacketsGoOneHop_planned : let p : Packet := { pkt 9 0 0 1 0 [1] with planned := true }
    let x : Posting := ⟨0, 0, 0, .planned 0 p⟩
    let d := fabric1 { Router.reset with posted := [x], plannedIn := [inPkt p none, { inPkt { p with dest := 7 } none with id := 4 }] } tile1
    d.router.posted.find? (fun x => decide (x.due ≤ d.time.bc) && (match x.item with | .planned m _ => m == (0 : Fin 64).val | _ => false))
        = some x ∧ (d.link (0 : Fin 64)).plannedQ.length + p.flits.length ≤ 256
      ∧ d.router.plannedIn.find? (fun q => q.id == 3 && q.pkt.dest != d.selfDev) = some (inPkt p none) ∧ p.hop < 3 ∧ p.planned = true
      ∧ bit (d.part 0).net.plannedLinks (bits p.route (6 * p.hop) 6) = true ∧ d.passes (inPkt p none) = true
      ∧ (inPkt p none).since + 2 ≤ d.time.bc ∧ kindOk p = true ∧ (d.link 0).st = 4
      ∧ d.router.plannedIn.find? (fun q => q.id == 4 && q.pkt.dest == d.selfDev) = some { inPkt { p with dest := 7 } none with id := 4 }
      ∧ d.planOf 0 = some plan2 ∧ p.xfer < plan2.transfers.length ∧ (d.part 0).time.mode ≠ .stopped := by decide +kernel
theorem wit_PacketsGoOneHop_inject : let x : Posting := ⟨0, 0, 0, .packet (pkt 9 2 1 1 0 [1]) 3 0⟩
    let d := fabric1 { Router.reset with posted := [x] } tile1
    d.router.posted.find? (fun x => x.tile == (0 : Fin 672).val && decide (x.due ≤ d.time.bc)
        && (match x.item with | .packet _ _ _ => true | _ => false)) = some x
      ∧ (∀ e ∈ d.router.ort, e.die = tileNd (0 : Fin 672) → e.ix ≠ 0) := by decide +kernel
theorem wit_PacketsGoOneHop_stale : let q := inPkt (pkt 9 1 1 1 0 [1]) (some 0)
    let d := fabric1 { Router.reset with ingress := [q] } tile1
    (d.router.ingress ++ d.router.sink ++ d.router.out.map (·.2)).find? (·.id == 3) = some q ∧ q.buf < 6 ∧ q.since + 65536 ≤ d.time.bc
      ∧ (let e : Dev := { ready with links := [(0, { link1 with anchorPbc := true })] }
         e.anchorWaits (0 : Fin 64) = true ∧ e.time.bc % 64 = 0) := by decide +kernel

/-- The fabric with packet 3 at its sink. -/
def sink1 (p : Packet) (link : Option Nat) (x : Tile) : Dev := fabric1 { Router.reset with sink := [inPkt p link] } x
theorem wit_PacketsServedAtSink_write : ∀ kind ∈ [1, 2], let p := pkt 7 kind 1 1 0x7FEFFFFF [1]
    let d := sink1 p none tile1
    d.partOfTag p.fence = some 0 ∧ d.sunk 3 kind = some (inPkt p none) ∧ d.reach 0 p.addr 1 = true ∧ d.reach 0 (p.addr + 1) 1 = false
      ∧ weightRefused d 0 p.addr 1 = false ∧ d.parkFits p.addr 1 = true ∧ receivingBatch d 0 p.addr 1 = none
      ∧ partsOf p.addr 1 = [(p.addr, 1)] ∧ isHbm p.addr = true := by decide +kernel
/-- R424, R379: a write of one byte waits for its channel; a READ past the memory of its partition is answered with status 3; a NOTICE
is delivered and acknowledged; a SIGNAL of this device counts at once. -/
theorem test_sink : (∃ s', exec (.writeC 3) (at_ (sink1 (pkt 7 2 1 1 0x7FEFFFFF [1]) none tile1)) = .next s'
      ∧ s'.dev.cp.map (·.addr) = [0x7FEFFFFF] ∧ s'.dev.router.writes.map (·.left) = [1])
    ∧ (∃ s', exec (.read 3) (at_ (sink1 { pkt 7 3 1 1 0x7FEFFFF9 [] with len := 8 } none tile1)) = .next s'
      ∧ s'.dev.router.ingress.map (fun q => (q.pkt.kind, q.pkt.status, q.pkt.dest)) = [(4, 3, 9)])
    ∧ (∃ s', exec (.notice 3) (at_ (sink1 (pkt 7 5 1 1 0 (zeros 16)) none tile1)) = .next s'
      ∧ (s'.dev.tile 0).core.inbox = [zeros 16] ∧ s'.dev.router.ingress.map (·.pkt.status) = [0])
    ∧ ∃ s', exec (.signal 3) (at_ (sink1 (pkt 7 6 5 1 0 (leBytes 6 0 ++ leBytes 2 0 ++ [15])) none tile1)) = .next s'
      ∧ (s'.dev.tile 0).signals.getD 15 0 = 1 := by
  refine ⟨⟨_, exec_writeC .., ?_⟩, ⟨_, exec_read .., ?_⟩, ⟨_, exec_notice .., ?_⟩, _, exec_signal .., ?_⟩ <;> decide +kernel
theorem wit_PacketsServedAtSink_read : ∀ a ∈ [0x7FEFFFF8, 0x7FEFFFF9], let p : Packet := { pkt 7 3 1 1 a [] with len := 8 }
    let d := sink1 p none tile1
    d.sunk 3 3 = some (inPkt p none) ∧ d.reach 0 a 8 = decide (a = 0x7FEFFFF8) ∧ partsOf a p.len = [(a, p.len)] ∧ isHbm a = true := by decide +kernel
theorem wit_PacketsServedAtSink_notices : ∀ a ∈ [0xFFFF, 0], let p := pkt 7 5 1 1 a (zeros 16)
    let d := sink1 p none tile1
    d.sunk 3 5 = some (inPkt p none) ∧ (a = 0 → d.partOfTile (p.addr % 2 ^ 16) = some 0 ∧ d.tileEnabled (p.addr % 2 ^ 16) = true) := by
  decide +kernel
theorem wit_PacketsServedAtSink_signal : ∀ l ∈ [none, some 0], let p := pkt 7 6 5 1 0 (leBytes 6 0 ++ leBytes 2 0 ++ [15])
    let d := sink1 p l tile1
    d.sunk 3 6 = some (inPkt p l) ∧ d.partOfTile (leAt p.payload 6 2) = some 0 ∧ byteAt p.payload 8 < 16
      ∧ (d.tile (leAt p.payload 6 2)).signals.length = 16 ∧ (d.router.holds.filter (·.die == linkDie 0)).length < 512 := by decide +kernel
theorem wit_PacketsServedAtSink_response : ∀ st ∈ [0, 3], let p : Packet := { pkt 7 4 3 1 0 [] with status := st }
    let d := fabric1 { Router.reset with sink := [inPkt p none], ort := [ort1 (.tile 0 0 3) none] } tile1
    d.sunk 3 4 = some (inPkt p none) ∧ d.router.ort.find? (fun e => e.die * 2048 + e.ix == p.rtag) = some (ort1 (.tile 0 0 3) none)
      ∧ (ort1 (.tile 0 0 3) none).owner = .tile 0 0 3 ∧ p.payload = [] ∧ (d.tile 0).signals.length = 16 := by decide +kernel
theorem wit_PacketsServedAtSink_rest :
    let w : RemoteWrite := ⟨3, 0, 2304, 8, 0, none, none⟩
    let h : HeldSignal := ⟨3, 0, 0, 2304, 0, 0, 15, 0⟩
    let d := fabric1 { Router.reset with writes := [w], holds := [h], ort := [ort1 (.notice 0 0 3) (some (pkt 9 5 1 1 0 (zeros 16)))] } tile1
    let d := d.updPart 0 (fun p => { p with net := { p.net with recvPaths := [(2304, 0)] } })
    let d := { d with router := { d.router with sink := [inPkt (pkt 7 7 4 1 0 [1]) none] } }
    d.sunk 3 7 = some (inPkt (pkt 7 7 4 1 0 [1]) none)
      ∧ d.router.writes.find? (·.id == 3) = some w ∧ w.left = 0 ∧ d.router.writes.find? (·.path == w.path) = some w
      ∧ (d.part w.part).net.recvPaths = [(w.path, 0)] ∧ d.router.holds.find? (·.id == 3) = some h ∧ h.j < 16 ∧ (d.tile h.tile).signals.length = 16
      ∧ (Sparse.get 0 (d.part h.part).net.recvPaths h.path + 2 ^ 48 - h.s % 2 ^ 48) % 2 ^ 48 < 2 ^ 47
      ∧ d.router.ort.find? (fun y => y.die == (0 : Fin 2).val && y.ix == (5 : Fin 2048).val)
          = some (ort1 (.notice 0 0 3) (some (pkt 9 5 1 1 0 (zeros 16))))
      ∧ (ort1 (.notice 0 0 3) (some (pkt 9 5 1 1 0 (zeros 16)))).retryAt = some 0 ∧ 0 ≤ d.time.bc := by decide +kernel

theorem wit_FenceTagsGuardLinks : (with1 part1).accepts .hostAdmin (0x3040 + 0x100 * (0 : Fin 16)) 1 (6 : BitVec 16).toNat
    ∧ (with1 part1).accepts .hostAdmin (0x3040 + 0x100 * (0 : Fin 16)) 1 (0 : BitVec 16).toNat
    ∧ ((with1 part1).part (0 : Fin 16)).time.mode = .stopped ∧ ((with1 part2).part (0 : Fin 16)).time.mode ≠ .stopped
    ∧ (6 : BitVec 16).toNat ≠ ((with1 part1).part (0 : Fin 16)).fenceTag
    ∧ (∀ j : Fin 16, j ≠ 0 → ((with1 part1).part (j : Fin 16)).fenceTag ≠ (6 : BitVec 16).toNat) :=
  ⟨accepts_of (by decide +kernel), accepts_of (by decide +kernel), by decide +kernel⟩
theorem wit_FenceTagsGuardLinks_refused :
    let d : Dev := { ready with parts := [(0, part1), (1, { Part.reset with fenceTag := 6 })], router := { Router.reset with cooling := [(8, 0)] } }
    d.accepts .hostAdmin (0x3040 + 0x100 * (0 : Fin 16)) 1 (6 : BitVec 16).toNat ∧ (d.part (1 : Fin 16)).fenceTag = (6 : BitVec 16).toNat
      ∧ d.accepts .hostAdmin (0x3040 + 0x100 * (0 : Fin 16)) 1 (8 : BitVec 16).toNat
      ∧ (∃ e ∈ d.router.cooling, e.1 = (8 : BitVec 16).toNat) :=
  ⟨accepts_of (by decide +kernel), by decide +kernel, accepts_of (by decide +kernel), by decide +kernel⟩
theorem wit_FenceTagsGuardLinks_recheck : ((fabric1 Router.reset tile1).link (0 : Fin 64)).st = 4
    ∧ ((fabric1 Router.reset tile1).part (0 : Fin 16)).net.route = some ⟨2, 0, 0, 1, 2 :: List.replicate 63 0, [0xFE, 0]⟩ := by
  decide +kernel
/-! ### Barriers and bows -/

/-- The job of a running partition at its crown, with child link 1 and parity 0, and a barrier in round 3. -/
def crown1 (b : Barrier) (n : List NoticeIn) (posted : List Posting) : Dev :=
  { (job1 part2 n).dev.updPart 0 (fun p => { p with net := { net1 with parentLink := 0xFE, barriers := [(2, b)] } }) with
    router := { Router.reset with posted := posted } }
/-- Round 3 with one of two entries made, by tile 5, and the child's report in or not. -/
def round3 (children : List Nat) : Barrier := ⟨3, .reset, ⟨1, some 2, some 0, [5], children, false, []⟩, []⟩
def entry1 (round e : Nat) : Posting := ⟨0, 0, 0, .barrier 2 round e 0⟩
theorem wit_BarriersCountAndComplete_tile : ∀ x ∈ [(3, 2), (3, 3), (4, 1), (5, 2)], let p := entry1 x.1 x.2
    let d := crown1 (round3 [1]) [] [p]
    d.router.posted.find? (fun x => x.tile == (0 : Fin 672).val && decide (x.due ≤ d.time.bc)
        && (match x.item with | .barrier _ _ _ _ => true | _ => false)) = some p
      ∧ (d.barrier 0 2).n = 3 ∧ (d.barrier 0 2).after = 4 ∧ ((d.barrier 0 2).slot 3).count + 1 = 2
      ∧ (d.part 0).net.isCrown = true ∧ (∀ l ∈ linksOf (d.part 0).net.childLinks, l ∈ ((d.barrier 0 2).slot 3).children)
      ∧ ((d.barrier 0 2).slot (d.barrier 0 2).after).e = none := by decide +kernel
/-- R412, R417: the second of two entries completes round 3 at a crown whose child has reported. -/
theorem test_barrier : ∃ s', exec (.barrierEntry 0) (at_ (crown1 (round3 [1]) [] [entry1 3 2])) = .next s'
    ∧ (s'.dev.barrier 0 2).n = 4 ∧ s'.dev.sync.rounds = 1 := by
  refine ⟨_, exec_barrierEntry .., ?_⟩; decide +kernel
/-- BARRIER_ENTER of barrier 2, round 3, with E of 2; E of 0; and BARRIER_WATCH of round 4. -/
def enter1 (op e round : Nat) : Cmd := cmd 0 op 0 [] 0 (2 + 2 ^ 8 * round + 2 ^ 16 * e) 0 0 0
theorem wit_BarriersCountAndComplete_host : (∀ e ∈ [2, 0, 1024, 1025], { crown1 (round3 [1]) [] [] with commands := [enter1 0x0221 e 3] }.commandAt (0 : Fin 17) 0x0221
      (enter1 0x0221 e 3) ∧ (enter1 0x0221 e 3).arg0 % 256 = 2 ∧ bits (enter1 0x0221 e 3).arg0 16 11 = e
      ∧ bits (enter1 0x0221 e 3).arg0 8 8 = 3) ∧ 2 < plan2.header.barrierIds
    ∧ { crown1 (round3 [1]) [] [] with commands := [enter1 0x0222 0 4] }.commandAt (0 : Fin 17) 0x0222 (enter1 0x0222 0 4) :=
  ⟨fun e h => ⟨commandAt_of (by revert e; decide +kernel), by revert e; decide +kernel⟩, by decide +kernel, commandAt_of (by decide +kernel)⟩
/-- BAR_REPORT of the child, BAR_DONE of the parent. -/
theorem wit_BarriersCountAndComplete_tree : (∀ b ∈ [(3, 0), (3, 1), (5, 0)], let n := tree1 2 true [2, BitVec.ofNat 8 b.1, BitVec.ofNat 8 b.2]
      (crown1 (round3 []) [n] []).treeIn 2 true n 0 ∧ byteAt n.body 2 = 2 ∧ byteAt n.body 3 = b.1 ∧ byteAt n.body 4 = b.2)
    ∧ (let n := tree1 3 false [2, 3, 0]
       let d := (job1 part2 [n]).dev.updPart 0 (fun p => { p with net := { net1 with barriers := [(2, round3 [1])] } })
       d.treeIn 3 false n 0 ∧ byteAt n.body 3 = (d.barrier 0 2).n ∧ n.link < 64) :=
  ⟨fun b h => ⟨treeIn_of (by revert b; decide +kernel), by revert b; decide +kernel⟩, treeIn_of (by decide +kernel), by decide +kernel⟩

/-- A stopped partition that has loaded a plan, in the tree of a job, with a bow. -/
def bow1 (parent : Nat) (w : Bow) (n : List NoticeIn) : Dev :=
  { (job1 part1 n).dev.updPart 0 (fun p => { p with
      plan := { PlanState.reset with state := 2, plan := some plan2 }, net := { net1 with parentLink := parent, bow := w } }) with
    commands := [cmd 0 0x0220 0 [] 0 0 0 0 0] }
theorem wit_BowsStartOrAbort_start : (∀ w ∈ [Bow.reset, { Bow.reset with state := 1 }],
      (bow1 0xFE w []).commandAt (0 : Fin 17) 0x0220 (cmd 0 0x0220 0 [] 0 0 0 0 0))
    ∧ bowTest (bow1 0xFE Bow.reset []) 0 = 0 ∧ bowTest (bow1 0 Bow.reset []) 0 ≠ 0
    ∧ linksOf ((bow1 0xFE Bow.reset []).part 0).net.childLinks ≠ []
    ∧ plan2.header.rank = plan2.header.crownRank :=
  ⟨fun w h => commandAt_of (by revert w; decide +kernel), by decide +kernel⟩
/-- A bow under way with serial 0: ACK_BY at BC 4000. -/
def bow2 : Bow := { Bow.reset with state := 1, ackBy := 4000 }
theorem wit_BowsStartOrAbort_tree : (let n := tree1 8 false []; (bow1 0 Bow.reset [n]).treeIn 8 false n 0 ∧ n.link < 64)
    ∧ (∀ b ∈ [[0, 0], [0, 1], [1, 0]], let n := tree1 9 true b
       (bow1 0xFE bow2 [n]).treeIn 9 true n 0 ∧ (bow1 0xFE bow2 [n]).bowCurrent 0 (n.body.drop 2) = (b.getD 0 0 == 0))
    ∧ (∀ b ∈ [[0], [0, 0, 0, 0, 1, 0x10], [1]], let n := tree1 10 false b
       (bow1 0 bow2 [n]).treeIn 10 false n 0 ∧ (bow1 0 bow2 [n]).bowCurrent 0 (n.body.drop 2) = (b.getD 0 0 == 0))
    ∧ (let n := tree1 10 false [0, 0, 0, 0, 1, 0x10]; leAt (n.body.drop 2) 4 8 = 4097)
    ∧ (∀ b ∈ [[0], [1]], let n := tree1 11 false b
       (bow1 0 bow2 [n]).treeIn 11 false n 0 ∧ (bow1 0 bow2 [n]).bowCurrent 0 (n.body.drop 2) = (b.getD 0 0 == 0)) :=
  ⟨⟨treeIn_of (by decide +kernel), by decide +kernel⟩,
   fun b h => ⟨treeIn_of (by revert b; decide +kernel), by revert b; decide +kernel⟩,
   fun b h => ⟨treeIn_of (by revert b; decide +kernel), by revert b; decide +kernel⟩, by decide +kernel,
   fun b h => ⟨treeIn_of (by revert b; decide +kernel), by revert b; decide +kernel⟩⟩
theorem wit_BowsStartOrAbort_deadline : let d := bow1 0xFE bow2 []
    (∃ l ∈ linksOf (d.part 0).net.childLinks, (d.part 0).net.bow.oks.any (·.1 == l) = false ∧ bit (d.part 0).net.bow.failLinks l = false)
      ∧ (d.part 0).net.bow.state = 1 ∧ (d.part 0).net.bow.failed = false ∧ (d.part 0).net.bow.bc0 = none
      ∧ (d.part 0).net.bow.ackBy ≤ d.time.bc := by decide +kernel
theorem wit_BowsStartOrAbort_edge : let d := bow1 0 { bow2 with state := 2, bc0 := some 4096 } []
    (d.part 0).net.bow.bc0 = some 4096 ∧ (d.part 0).net.bow.state ≠ 3 ∧ (d.part 0).net.bow.state ≠ 4 ∧ 4096 ≤ d.time.bc
      ∧ (d.part 0).plan.state = 2 ∧ d.selfDev ≠ 0xFFFFF := by decide +kernel
/-- R438, R440: at BC0 the plan starts at PBC 0. -/
theorem test_bow_edge : ∃ s', exec (.bowStartEdge 0) (at_ (bow1 0 { bow2 with state := 2, bc0 := some 4096 } [])) = .next s'
    ∧ (s'.dev.part 0).time.mode = .running ∧ (s'.dev.part 0).time.pbc = 0 ∧ (s'.dev.part 0).plan.state = 3 := by
  refine ⟨_, exec_bowStartEdge .., ?_⟩; decide +kernel

/-! ### Serving -/

/-- A configuration of one decode slot over HBM channel 0, without drafts and batts. -/
def sv (n v : Nat) : Bytes := leBytes n v
def config1 : Bytes :=
  sv 8 0 ++ sv 4 2 ++ sv 1 1 ++ sv 1 0 ++ sv 1 0 ++ sv 1 1 ++ sv 2 1 ++ sv 2 1 ++ sv 2 1 ++ sv 2 1 ++ sv 2 8 ++ sv 1 0 ++ sv 1 0
    ++ sv 4 64 ++ sv 4 1 ++ sv 4 0 ++ sv 4 0 ++ sv 4 0 ++ sv 16 1 ++ sv 8 0x10000 ++ sv 8 0x20000 ++ sv 6 0 ++ sv 2 1 ++ sv 8 0
    ++ sv 4 4 ++ zeros 60 ++ sv 8 0
def cfg1 : ServeConfig := ServeConfig.parse config1
def served1 (p : Part) (v : Serving) (c : Cmd) : Dev :=
  { with1 { p with plan := { p.plan with plan := some plan1 }, serving := v } with commands := [c] }
def loaded1 : Part := { part1 with plan := { PlanState.reset with state := 2 } }
def config2 (b : Bytes) : Cmd := cmd 0 0x0300 0 b 0 0 0 0 0
theorem wit_ServingCommandResults_config : (∀ p ∈ [part1, loaded1, { part1 with plan := { PlanState.reset with state := 3, succState := 1 } }],
      (served1 p Serving.reset (config2 config1)).commandAt (0 : Fin 17) 0x0300 (config2 config1)) ∧ (config2 config1).len = 168
    ∧ cfg1.inRange config1 = true ∧ (served1 loaded1 Serving.reset (config2 config1)).configOk 0 cfg1 = true ∧ cfg1.fitsPlan plan1 = true
    ∧ cfg1.slices = 1 ∧ (ServeConfig.parse (zeros 22 ++ sv 2 1 ++ zeros 144)).inRange (zeros 22 ++ sv 2 1 ++ zeros 144) = false := by
  refine ⟨fun p h => commandAt_of ?_, ?_⟩
  · revert p; decide +kernel
  · decide +kernel
/-- GRAMMAR_WRITE of one byte at the last place of the store, past it, and into a committed slot. -/
def gwrite1 (off : Nat) : Cmd := cmd 0 0x0301 0 (sv 4 0 ++ sv 4 off ++ [1]) 0 0 0 0 0
def slotted1 : Serving := { Serving.reset with slots := some (0, 8) :: List.replicate 15 none }
theorem wit_ServingCommandResults_write : (∀ off ∈ [8388607, 8388608, 0], (served1 loaded1 slotted1 (gwrite1 off)).commandAt (0 : Fin 17) 0x0301 (gwrite1 off)
      ∧ leAt (gwrite1 off).payload 4 4 = off) ∧ slotted1.touchesSlot 0 1 none = true ∧ slotted1.touchesSlot 8388607 1 none = false :=
  ⟨fun off h => ⟨commandAt_of (by revert off; decide +kernel), by revert off; decide +kernel⟩, by decide +kernel⟩
/-- A token list of the grammar store: vocabulary 2, one token. -/
def list1 : Bytes := sv 4 2 ++ zeros 16 ++ sv 1 1 ++ zeros 11 ++ sv 4 1
def gcommit1 (off len : Nat) : Cmd := cmd 0 0x0302 0 (sv 4 1 ++ sv 4 off ++ sv 4 len) 0 0 0 0 0
theorem wit_ServingCommandResults_commit : (∀ x ∈ [(0, 0), (8, 0), (8, 8388601), (8, 8388600)],
      (served1 loaded1 slotted1 (gcommit1 x.1 x.2)).commandAt (0 : Fin 17) 0x0302 (gcommit1 x.1 x.2)
      ∧ leAt (gcommit1 x.1 x.2).payload 4 4 = x.1 ∧ leAt (gcommit1 x.1 x.2).payload 8 4 = x.2)
    ∧ slotted1.slotInUse 1 = false ∧ slotted1.touchesSlot 8 8388600 (some 1) = false ∧ (Gram.mk slotted1 8).wellFormed 8388600 = false :=
  ⟨fun x h => ⟨commandAt_of (by revert x; decide +kernel), by revert x; decide +kernel⟩, by decide +kernel⟩
/-- A request record: handle, an input of `n` tokens at address 0, one token to make, greedy, top-p 1. -/
def record1 (h n : Nat) (grammar : Nat) : Bytes :=
  sv 8 h ++ sv 8 0 ++ sv 4 n ++ sv 4 1 ++ sv 8 0 ++ sv 1 0 ++ sv 1 grammar ++ sv 2 0 ++ sv 4 0 ++ sv 4 0x3F800000 ++ sv 4 0
    ++ sv 4 0xFFFFFFFF ++ sv 4 0xFFFFFFFF ++ sv 4 0xFFFFFFFF ++ sv 4 0xFFFFFFFF
def req2 (op : Nat) (h n g : Nat) : Cmd := cmd 0 op 0 (record1 h n g) 0 0 0 0 0
/-- A sequence of handle 4 in DECODE, a batt of handle 6, and a queue of `n` CANCELs. -/
def seq1 (st : SeqState) : Seq :=
  ⟨4, st, 1, 0, 0, 1, false, 1, ⟨none, 0, []⟩, ⟨0, 0, 0, 0, 0, 0, [], 1⟩, [0], 0, 0, 0, false, 9, 0, false⟩
def batt1 (pinned : Bool) : Batt := ⟨6, 1, 0, ⟨none, 0, []⟩, 0, 1, some 5000, [], pinned⟩
def unit1 (n : Nat) (pinned : Bool) : Serving :=
  { Serving.reset with cfg := some { cfg1 with battSlots := 1 }, queue := List.replicate n (.cancel 4 0), seqs := [(0, seq1 .decode)], batts := [batt1 pinned] }
theorem wit_ServingCommandResults_request : (∀ x ∈ [(1, 63), (1, 64), (4, 1)], let c := req2 0x0303 x.1 x.2 0xFF
      (served1 part2 (unit1 256 false) c).commandAt (0 : Fin 17) 0x0303 c ∧ c.len = 64 ∧ leAt c.payload 0 8 = x.1 ∧ leAt c.payload 16 4 = x.2
      ∧ (served1 part2 (unit1 256 false) c).recordOk 0 cfg1 c.payload false = true ∧ (unit1 256 false).handleUsed x.1 = (x.1 == 4))
    ∧ (unit1 256 false).queue.length = 256 ∧ (unit1 255 false).queue.length = 255 ∧ cfg1.maxPos = 64 :=
  ⟨fun x h => ⟨commandAt_of (by revert x; decide +kernel), by revert x; decide +kernel⟩, by decide +kernel⟩
theorem wit_ServingCommandResults_resume : (∀ x ∈ [(6, 61), (6, 62), (7, 1)], let c := req2 0x0304 x.1 x.2 0xFE
      (served1 part2 (unit1 0 false) c).commandAt (0 : Fin 17) 0x0304 c ∧ c.len = 64
      ∧ (served1 part2 (unit1 0 false) c).recordOk 0 cfg1 c.payload true = true
      ∧ (x.1 = 6 → (unit1 0 false).battOf 6 = some (batt1 false)) ∧ (x.1 = 7 → (unit1 0 false).battOf 7 = none))
    ∧ (∃ e, (batt1 true).expiry = some e ∧ ¬ e ≤ 4000) ∧ (unit1 0 true).battOf 6 = some (batt1 true) :=
  ⟨fun x h => ⟨commandAt_of (by revert x; decide +kernel), by revert x; decide +kernel⟩, ⟨5000, by decide +kernel⟩, by decide +kernel⟩
theorem wit_ServingCommandResults_park : (∀ x ∈ [(4, 0), (4, 2 ^ 48 - 1), (4, 2 ^ 48), (5, 1)], let c := cmd 0 0x0305 0 (sv 8 x.1 ++ sv 8 x.2) 0 0 0 0 0
      (served1 part2 (unit1 0 false) c).commandAt (0 : Fin 17) 0x0305 c ∧ c.len = 16 ∧ leAt c.payload 8 8 = x.2
      ∧ ((unit1 0 false).seqOf x.1).isSome = (x.1 == 4))
    ∧ (∀ h ∈ [4, 5], let c := cmd 0 0x0306 0 (sv 8 h) 0 0 0 0 0
      (served1 part2 (unit1 0 false) c).commandAt (0 : Fin 17) 0x0306 c ∧ c.len = 8 ∧ (unit1 0 false).handleUsed h = (h == 4))
    ∧ (let c := cmd 0 0x0306 0 (sv 8 4) 0 0 0 0 0
       (served1 part2 Serving.reset c).commandAt (0 : Fin 17) 0x0306 c ∧ Serving.reset.cfg = none) :=
  ⟨fun x h => ⟨commandAt_of (by revert x; decide +kernel), by revert x; decide +kernel⟩,
   fun x h => ⟨commandAt_of (by revert x; decide +kernel), by revert x; decide +kernel⟩, commandAt_of (by decide +kernel), rfl⟩

/-- A partition at a trigger: PBC 0, or PBC of its pass. -/
def pass1 (v : Serving) (pbc : Nat) : Dev := with1 { part2 with
  time := { part2.time with pbc := pbc }, serving := v }
def run1 : Pass := ⟨.initial, 4000, 0, 0⟩
theorem wit_ServingPassResults : (unit1 0 false).cfg = some { cfg1 with battSlots := 1 } ∧ (pass1 (unit1 0 false) 0).atTrigger (0 : Fin 16) 0 = true
    ∧ (pass1 (unit1 0 false) 94).servingTrigger (0 : Fin 16) 0 = true ∧ cfg1.g = 0 ∧ (unit1 0 false).running = none
    ∧ (pass1 { unit1 0 false with running := some run1 } 94).servingTrigger (0 : Fin 16) 0 = true := by decide +kernel
theorem wit_ServingPassResults_draft : let v := { unit1 0 false with cfg := some { cfg1 with g := 1, passAt := [4, 8] } }
    (pass1 v 94).servingTrigger (0 : Fin 16) (1 - 1) = true := by decide +kernel
theorem wit_ServingPassResults_complete : let v := { unit1 0 false with running := some run1 }
    ((pass1 v 94).part (0 : Fin 16)).serving.running = some run1 ∧ v.unitDone none = true ∧ v.waiting = []
      ∧ { v with memq := [⟨7, 0, 2048, false, none, 32⟩] }.unitDone none = false ∧ cfg1.signalJ < 16 ∧ run1.kind ≠ .final
      ∧ 0 ∈ (pass1 v 94).mapTiles (0 : Fin 16) cfg1 ∧ ((pass1 v 94).tile 0).signals.length = 16 := by decide +kernel
theorem wit_ServingPassResults_moves : ∀ st ∈ [SeqState.parking, .resuming, .ending],
    let v := { unit1 0 false with seqs := [(0, seq1 st)], batts := [{ batt1 true with handle := 4 }] }
    Sparse.find v.seqs (0 : Fin 512) = some (seq1 st) ∧ v.battOf (seq1 st).handle = some { batt1 true with handle := 4 }
      ∧ ceilDiv (seq1 st).len 64 ≤ (seq1 st).pages.length ∧ (seq1 st).cancelled = false ∧ v.unitDone (some 0) = true := by decide +kernel
/-! ### Weights -/

/-- WCONFIG of one region of 2,048 bytes for each batch, at `a` and after it, with manifest areas at 0x100000 and 0x900000. -/
def wcfg1 (a flags : Nat) : Bytes :=
  sv 1 1 ++ sv 3 flags ++ sv 4 0 ++ sv 16 1 ++ sv 8 0x100000 ++ sv 6 0x900000 ++ zeros 26
    ++ sv 8 a ++ sv 8 2048 ++ sv 8 (a + 2048) ++ sv 8 2048
def wcmd (op : Nat) (b : Bytes) : Cmd := cmd 0 op 0 b 0 0 0 0 0
def wdev (p : Part) (w : Weights) (c : Cmd) : Dev := { with1 { p with weights := w } with commands := [c] }
theorem wit_WeightCommandResults_config : (∀ x ∈ [(0, 0), (0, 2), (1, 0)], (wdev part1 Weights.reset (wcmd 0x0400 (wcfg1 x.1 x.2))).commandAt (0 : Fin 17) 0x0400
      (wcmd 0x0400 (wcfg1 x.1 x.2)) ∧ (wcmd 0x0400 (wcfg1 x.1 x.2)).len = 64 + 32 * byteAt (wcfg1 x.1 x.2) 0
      ∧ byteAt (wcfg1 x.1 x.2) 1 = x.2 ∧ (x.1 % 2048 = 0 ↔ x.1 = 0))
    ∧ leAt (wcfg1 0 0) 2 2 = 0 ∧ leAt (wcfg1 0 0) 30 2 = 0 ∧ (∀ y ∈ slice (wcfg1 0 0) 38 26, y = 0)
    ∧ (∀ i, i < 2 * 1 → leAt (wcfg1 0 0) (64 + 16 * i + 6) 2 = 0) ∧ (∀ y ∈ Weights.reset.batches, y.state = 0)
    ∧ (∀ l ∈ (List.range 2).map (configRegions (wcfg1 0 0) 1), ∀ r ∈ l,
        (wdev part1 Weights.reset (wcmd 0x0400 (wcfg1 0 0))).ownMemory 0 r.1 r.2 false = true ∧ r.1 % 2048 = 0 ∧ r.2 % 2048 = 0)
    ∧ (∀ r ∈ [(0x100000, manifestArea), (0x900000, manifestArea)],
        (wdev part1 Weights.reset (wcmd 0x0400 (wcfg1 0 0))).ownMemory 0 r.1 r.2 true = true ∧ r.1 % 2048 = 0)
    ∧ disjointRanges (((List.range 2).map (configRegions (wcfg1 0 0) 1)).flatten ++ [(0x100000, manifestArea), (0x900000, manifestArea)]) = true :=
  ⟨fun x h => ⟨commandAt_of (by revert x; decide +kernel), by revert x; decide +kernel⟩, by decide +kernel⟩
/-- The configuration in force, and batches in the states given; batch 0 holds one chunk of 2,048 bytes, open at `next`. -/
def wc1 : WConfig := ⟨1, false, 0, 1, [0x100000, 0x900000], [[(0, 2048)], [(2048, 2048)]]⟩
def manifest1 : Bytes := sv 4 0x57565045 ++ sv 4 1 ++ sv 4 1 ++ sv 4 288 ++ zeros 72 ++ sv 1 1 ++ zeros 39 ++ sv 8 0 ++ sv 8 0 ++ zeros 48
def batch1 (st : Nat) (next : Nat) : Batch := ⟨st, manifest1, zeros 48, 0, [], [⟨0, next, shaStart, false⟩]⟩
def chunked1 (st next : Nat) : Batch := { batch1 st next with manifest := manifest1.take 132 ++ sv 4 2048 ++ manifest1.drop 136 }
def weights1 (x y : Batch) : Weights := { Weights.reset with config := some wc1, batches := [x, y] }
def wman1 (off n : Nat) : Cmd := wcmd 0x0401 (sv 4 0 ++ sv 4 off ++ sv 12 0 ++ sv 4 288 ++ zeros (n - 16))
theorem wit_WeightCommandResults_manifest : (∀ x ∈ [(0, 16), (0, 288), (1, 16)], let c := wman1 x.1 x.2
      (wdev part1 (weights1 Batch.reset Batch.reset) c).commandAt (0 : Fin 17) 0x0401 c ∧ 9 ≤ c.len ∧ byteAt c.payload 0 ≤ 1
      ∧ leAt c.payload 1 3 = 0 ∧ leAt c.payload 4 4 = x.1 ∧ (c.payload.drop 8).length = x.2 ∧ leAt (c.payload.drop 8) 12 4 = 288
      ∧ (wdev part1 Weights.reset c).commandAt (0 : Fin 17) 0x0401 c)
    ∧ (weights1 Batch.reset Batch.reset).batches.length = 2 ∧ ((weights1 Batch.reset Batch.reset).batch 0).manifest.length = 0
    ∧ Weights.reset.config = none :=
  ⟨fun x h => ⟨commandAt_of (by revert x; decide +kernel), by revert x; decide +kernel, by revert x; decide +kernel,
    by revert x; decide +kernel, by revert x; decide +kernel, by revert x; decide +kernel, by revert x; decide +kernel,
    commandAt_of (by revert x; decide +kernel)⟩, by decide +kernel⟩
/-- WDATA of eight bytes of chunk `i` at offset `off`. -/
def wdata1 (i off : Nat) : Cmd := wcmd 0x0402 (sv 4 0 ++ sv 4 i ++ sv 4 off ++ sv 4 0 ++ zeros 8)
theorem wit_WeightCommandResults_data : (∀ x ∈ [(0, 1016), (0, 2040), (0, 2048), (1, 0)], let c := wdata1 x.1 x.2
      (wdev part1 (weights1 (chunked1 1 x.2) Batch.reset) c).commandAt (0 : Fin 17) 0x0402 c ∧ 24 ≤ c.len ∧ leAt c.payload 4 4 = x.1
      ∧ leAt c.payload 8 4 = x.2 ∧ leAt c.payload 12 4 = 0 ∧ (chunked1 1 x.2).chunks.find? (·.chunk == 0) = some ⟨0, x.2, shaStart, false⟩)
    ∧ (chunked1 1 0).chunkCount = 1 ∧ (manifestChunk (chunked1 1 0).manifest 0).len = 2048
    ∧ partsOf (chunkAddr (wdev part1 (weights1 (chunked1 1 0) Batch.reset) (wdata1 0 0)) 0 0 0 + 2040) 8 = [(2040, 8)]
    ∧ isStore 2040 = false :=
  ⟨fun x h => ⟨commandAt_of (by revert x; decide +kernel), by revert x; decide +kernel⟩, by decide +kernel⟩
/-- WMIRROR of batch 0 to this device, one region of 2,048 bytes, one flow, one chunk, with the digest of the batch or another. -/
def wmir1 (digest : Nat) : Cmd :=
  wcmd 0x0403 (sv 1 0 ++ sv 1 0 ++ sv 1 1 ++ sv 1 1 ++ sv 4 7 ++ sv 4 0 ++ sv 4 1 ++ sv 48 digest ++ sv 8 0 ++ sv 8 2048)
theorem wit_WeightCommandResults_mirror : (∀ g ∈ [0, 1], (wdev part1 (weights1 (chunked1 2 0) Batch.reset) (wmir1 g)).commandAt (0 : Fin 17) 0x0403 (wmir1 g)
      ∧ (wmir1 g).len = 64 + 16 * byteAt (wmir1 g).payload 3 ∧ (slice (wmir1 g).payload 16 48 = (chunked1 2 0).digest ↔ g = 0))
    ∧ leAt (wmir1 0).payload 4 4 = 7 ∧ leAt (wmir1 0).payload 12 4 = 1
    ∧ (∀ i, i < 1 → (manifestChunk (chunked1 2 0).manifest i).region < 1
        ∧ (manifestChunk (chunked1 2 0).manifest i).off + (manifestChunk (chunked1 2 0).manifest i).len ≤ 2048)
    ∧ maySend (wdev part1 (weights1 (chunked1 2 0) Batch.reset) (wmir1 0)) 0 7 = true
    ∧ maySend (wdev part1 (weights1 (chunked1 2 0) Batch.reset) (wmir1 0)) 0 8 = false
    ∧ (weights1 (chunked1 2 0) Batch.reset).mirrors = [] :=
  ⟨fun x h => ⟨commandAt_of (by revert x; decide +kernel), by revert x; decide +kernel, by revert x; decide +kernel⟩, by decide +kernel⟩
/-- WCLEAR and WDISARM of batch 0, and WARM at PBC `pw`. -/
def warm1 (pw : Nat) : Cmd := wcmd 0x0405 (sv 8 0 ++ sv 8 pw)
theorem wit_WeightCommandResults_states : (∀ x ∈ [(0x0404, 1), (0x0404, 2), (0x0404, 3), (0x0406, 3), (0x0406, 2)], let c := wcmd x.1 (sv 1 0)
      (wdev part1 (weights1 (chunked1 x.2 0) Batch.reset) c).commandAt (0 : Fin 17) x.1 c ∧ c.len = 1 ∧ byteAt c.payload 0 ≤ 1
      ∧ ((weights1 (chunked1 x.2 0) Batch.reset).batch 0).state = x.2) :=
  fun x h => ⟨commandAt_of (by revert x; decide +kernel), by revert x; decide +kernel⟩
/-- A key, and a manifest that names it. -/
def key1 : Bytes := leBytes 96 1
def named1 (st : Nat) : Batch := { chunked1 st 0 with manifest := manifest1.take 40 ++ sha384 key1 ++ manifest1.drop 88 }
theorem wit_WeightCommandResults_warm : (∀ x ∈ [262243, 262244], (wdev part2 (weights1 (named1 2) Batch.reset) (warm1 x)).commandAt (0 : Fin 17) 0x0405 (warm1 x)
      ∧ (warm1 x).len = 16 ∧ leAt (warm1 x).payload 1 7 = 0 ∧ leAt (warm1 x).payload 8 8 = x)
    ∧ (wdev part1 (weights1 (named1 2) Batch.reset) (warm1 0)).commandAt (0 : Fin 17) 0x0405 (warm1 0)
    ∧ (weights1 (named1 2) Batch.reset).keyOf (named1 2).manifest = none
    ∧ { weights1 (named1 2) Batch.reset with keys := [key1] }.keyOf (named1 2).manifest ≠ none
    ∧ (with1 part2).weightTotals.warmLead = 262144 ∧ part2.time.pbc = 100 :=
  ⟨fun x h => ⟨commandAt_of (by revert x; decide +kernel), by revert x; decide +kernel⟩, commandAt_of (by decide +kernel), by decide +kernel⟩
theorem wit_WeightCommandResults_key : (with1 part1).accepts .hostAdmin (0x3080 + 0x100 * (0 : Fin 16)) ((15 : Fin 16) + 1) (0 : BitVec 768).toNat
    ∧ ((with1 part1).part (0 : Fin 16)).weights.keys.length = 16 ∧ ((with1 part1).part (0 : Fin 16)).weights.batches.length = 2 :=
  ⟨accepts_of (by decide +kernel), by decide +kernel⟩

/-! ### Assignment, grants, management -/

theorem wit_AssignmentResults_groups : (∀ m ∈ [3, 0, 2 ^ 83], (with1 part1).accepts .hostAdmin (0x30B0 + 0x100 * (0 : Fin 16)) 1 (BitVec.ofNat 88 m).toNat
      ∧ (BitVec.ofNat 88 m).toNat < 2 ^ 84) ∧ ((with1 part1).part (0 : Fin 16)).time.mode = .stopped
    ∧ (∀ g, g < 84 → (with1 part1).groupEnabled g = true ∧ g ∉ (with1 part1).fusing ∧ ∀ j : Fin 16, j ≠ 0 → bit ((with1 part1).part j).groups g = false)
    ∧ (with1 loaded1).accepts .hostAdmin (0x30B0 + 0x100 * (0 : Fin 16)) 1 (0 : BitVec 88).toNat :=
  ⟨fun m h => ⟨accepts_of (by revert m; decide +kernel), by revert m; decide +kernel⟩, by decide +kernel, by decide +kernel,
    accepts_of (by decide +kernel)⟩
theorem wit_AssignmentResults_taken :
    let d : Dev := { ready with parts := [(0, part1), (1, { Part.reset with groups := 2, hbm := 2, cap := 2 })] }
    d.accepts .hostAdmin (0x30B0 + 0x100 * (0 : Fin 16)) 1 (2 : BitVec 88).toNat ∧ bit (d.part (1 : Fin 16)).groups 1 = true
      ∧ d.accepts .hostAdmin (0x3020 + 0x100 * (0 : Fin 16)) 1 (2 : BitVec 256).toNat ∧ bit (d.part 1).hbm 1 = true
      ∧ d.accepts .hostAdmin (0x3020 + 0x100 * (0 : Fin 16)) 2 (2 : BitVec 16).toNat ∧ bit (d.part 1).cap 1 = true :=
  ⟨accepts_of (by decide +kernel), by decide +kernel, accepts_of (by decide +kernel), by decide +kernel, accepts_of (by decide +kernel),
    by decide +kernel⟩
theorem wit_AssignmentResults_channels : (with1 part1).accepts .hostAdmin (0x3020 + 0x100 * (0 : Fin 16)) 1 (1 : BitVec 256).toNat
    ∧ (with1 part1).accepts .hostAdmin (0x3020 + 0x100 * (0 : Fin 16)) 2 (0x8000 : BitVec 16).toNat
    ∧ (∀ j : Fin 16, j ≠ 0 → ((with1 part1).part j).hbm = 0 ∧ ((with1 part1).part j).cap = 0) :=
  ⟨accepts_of (by decide +kernel), accepts_of (by decide +kernel), by decide +kernel⟩
theorem wit_AssignmentResults_clearing : ∀ m ∈ [0, 2 ^ 83], let d : Dev := { ready with power := { Power.reset with clearingGroups := m } }
    bit d.power.clearingGroups 83 = decide (m = 2 ^ 83) := by decide +kernel
theorem wit_AssignmentResults_fuse : (∀ p ∈ [part1, part2, { part1 with groups := 0 }], (with1 p).accepts .hostAdmin 0x1030 10 (0 : BitVec 8).toNat)
    ∧ bit (with1 part1).fuses.fieldFused 0 = false ∧ bit (with1 part1).fuses.factoryBad 0 = false ∧ 0 ∉ (with1 part1).fusing
    ∧ (with1 { part1 with groups := 0 }).partOfGroup 0 = none ∧ (with1 part1).partOfGroup 0 = some 0 ∧ (with1 part2).partOfGroup 0 = some 0
    ∧ (0 : Fin 84).val ∈ ({ ready with fusing := [0] } : Dev).fusing := by
  refine ⟨fun p h => accepts_of ?_, ?_⟩
  · revert p; decide +kernel
  · decide +kernel
/-- R574: the fuse of a named group is blown, and no other. -/
theorem test_fuse : ∃ s', exec (.fieldFuseProgram 5) (at_ { ready with fusing := [5] }) = .next s' ∧ s'.otp.fieldFused = 32 := by
  refine ⟨_, exec_fieldFuseProgram .., ?_⟩; decide +kernel

theorem wit_GrantAndRecordResults : (∀ v : Bool, (with1 part2).accepts .hostAdmin (0x30B0 + 0x100 * (0 : Fin 16)) 2 (boolNat v))
    ∧ ready.time.bc % 4096 = 0 ∧ ready.power.evaluatedAt ≠ some ready.time.bc ∧ ready.halted = false ∧ ready.fwRunning = true
    ∧ (∀ j : Fin 16, ((with1 part2).part j).power.boostPriority < 16) :=
  ⟨fun v => accepts_of (by revert v; decide +kernel), by decide +kernel⟩
theorem wit_GrantAndRecordResults_thermal : (ready.power.thermal 60 0 60).thermalState = 0 ∧ (ready.power.thermal 98 0 60).thermalState ≠ 0
    ∧ 0 ≤ ready.pool 2400 ∧ ready.pool 2401 < 0 := by decide +kernel
theorem wit_GrantAndRecordResults_fall : let d := with1 { part2 with power := { PartPower.reset with grantBit := true, withdrawnAt := some 4032 } }
    (d.part (0 : Fin 16)).power.withdrawnAt = some 4032 ∧ 4032 + 64 ≤ d.time.bc := by decide +kernel
theorem wit_GrantAndRecordResults_record : let r : DueRecord := ⟨0, 0, 0, 0, 5, 0, 1, 0, true, [], [], [], 0, 1, [], false⟩
    let d := with1 { part2 with audit := { Audit.reset with due := [r] } }
    (d.part (0 : Fin 16)).audit.due = r :: [] ∧ d.fnEnabled ((0 : Fin 16) + 1) = true ∧ (d.fn 1).backlogBytes + 4096 ≤ 2 ^ 20 := by
  decide +kernel
theorem wit_GrantAndRecordResults_cbg : ready.served = true ∧ ready.entryRight .hostAdmin 15 0x9080 0 5 = true := by decide +kernel

/-- A READ of SYNC_STATE by the board manager, a WRITE to it (which is read only), and a frame of another major version. -/
def oap1 (op version : Nat) : Bytes :=
  leBytes 2 0x414F ++ leBytes 1 version ++ leBytes 1 op ++ leBytes 4 9 ++ leBytes 2 1 ++ leBytes 2 32 ++ zeros 12
    ++ leBytes 2 0x2010 ++ leBytes 1 1 ++ zeros 5
/-- A source at a link-local address. -/
def src1 : Bytes := [0xFE, 0x80] ++ zeros 16
theorem wit_ManagementAnswers : ready.served = true ∧ ready.mgmt.waiting = [] ∧ pathFrame ready (.port src1 false (oap1 1 0x10)) = some (oap1 1 0x10)
    ∧ (∀ o ∈ [1, 2, 3], frameOpcode (oap1 o 0x10) = o ∧ pathDiscards (.port src1 false (oap1 o 0x10)) (oap1 o 0x10) = false
        ∧ frameItems (oap1 o 0x10) = some [⟨0x2010, 1, 0, []⟩])
    ∧ byteAt (oap1 1 0x10) 2 / 16 = 1 ∧ byteAt (oap1 1 0x20) 2 / 16 ≠ 1 ∧ frameItems (oap1 4 0x10) = none
    ∧ ready.keptFor (.port src1 false (oap1 1 0x10)) (oap1 1 0x10) = none
    ∧ (writeItem ready .board 0x2010 1 0 []).1 ≠ 0 := by decide +kernel
theorem wit_ManagementAnswers_source : linkLocalSource src1 = true ∧ linkLocalSource (zeros 18) = false := by decide +kernel
theorem wit_ManagementAnswers_waits : frameOpcode (oap1 2 0x10) = 2 ∧ { ready with fwRunning := false }.served = false ∧ ready.stage ≠ 0
    ∧ ready.mgmt.enable = true ∧ ready.mgmt.waiting.length < 32 := by decide +kernel
theorem wit_ManagementAnswers_kept : let d : Dev := { ready with mgmt := { ready.mgmt with kept := [⟨src1, 9, 0, []⟩] } }
    d.keptFor (.port src1 false (oap1 1 0x10)) (oap1 1 0x10) = some ⟨src1, 9, 0, []⟩ := by decide +kernel
theorem wit_ManagementAnswers_write : (writeItem ready .board 0x2010 2 5 (leBytes 8 5)).1 = 0 := by decide +kernel
theorem wit_ManagementAnswers_rest : (with1 part1).accepts .board 0x2000 1 (0xFFFFF : BitVec 32).toNat
    ∧ (∀ j : Fin 16, ((with1 part1).part j).time.mode = .stopped)
    ∧ ready.accepts .board 0x6001 10 (0 : BitVec 144).toNat ∧ clearSub (dictBase (0x6010 : BitVec 16).toNat).1 ≠ 0
    ∧ ready.accepts .hostAdmin (0x6010 : BitVec 16).toNat (clearSub (dictBase (0x6010 : BitVec 16).toNat).1) 1
    ∧ (let d := { ready with time := { ready.time with bc := 2 ^ 28 } }
       d.time.bc % 2 ^ 28 = 0 ∧ d.mgmt.lastEval ≠ d.time.bc ∧ d.mgmt.advice = 0) :=
  ⟨accepts_of (by decide +kernel), by decide +kernel, accepts_of (by decide +kernel), by decide +kernel, accepts_of (by decide +kernel),
    by decide +kernel⟩
/-- R643, R644: an entry of class `c` in handling. -/
def log1 (c : Nat) : LogEntry := ⟨1, c, 17, 554, 0, 0, none, false, false, false, false, none, 0, none, 0, []⟩
def failing1 (c : Nat) : Dev := { ready with log := { ErrLog.reset with entries := [log1 c], queue := [1], lastSeq := 1 } }
theorem wit_ErrorsLeadToDump : ∀ c ∈ [0, 3], (failing1 c).served = true ∧ (failing1 c).dump.state ≠ 1 ∧ (failing1 c).log.headerEntry = none
    ∧ (failing1 c).log.handling = some (log1 c) ∧ (failing1 c).memTrained = true ∧ (failing1 c).fnEnabled 0 = true
    ∧ ((failing1 c).fn 0).backlogBytes + entryLength (log1 c).toBytes ≤ 2 ^ 20 := by decide +kernel
theorem wit_ErrorsLeadToDump_dump : let d : Dev := { failing1 3 with deviceFatal := true, dump := { Dump.reset with state := 1, trigger := some (log1 3) } }
    d.deviceFatal = true ∧ d.fwRunning = true ∧ d.halted = false ∧ d.dump.state = 1 ∧ d.served = true ∧ d.dump.trigger = some (log1 3)
      ∧ d.dump.fromHeader = false ∧ ready.accepts .hostAdmin 0x6013 0x23 1 :=
  ⟨rfl, rfl, rfl, rfl, rfl, rfl, rfl, accepts_of (by decide +kernel)⟩
theorem wit_ErrorsLeadToDump_fetch : ∀ x ∈ [(0, 1), (1, 1), (2, 1), (0, 4096), (0, 4097)], let c := cmd 0 0x0600 0xFF [] 0 (x.1 + 2 ^ 8 * x.2) 0 0 0
    (withCmd ready c).dev.commandAt (0 : Fin 17) 0x0600 c ∧ c.arg0 % 256 = x.1 ∧ bits c.arg0 8 32 = x.2
      ∧ (withCmd ready c).dev.windowFits 0 0 (4096 * x.2) = decide (x.2 ≤ 4096) := by
  intro x h
  refine ⟨commandAt_of ?_, ?_⟩ <;> revert x <;> decide +kernel

/-! ### Start-up, and the machine -/

/-- A device of stage `n`. -/
def staged1 (n : Nat) : Dev := { ready with stage := n, links := (List.range 64).map (fun l => (l, link1)) }
theorem wit_StartUpAndResetResults : ready.registersOpen 0 = true ∧ (∀ n ∈ [0, 3, 4, 5, 6, 7], (staged1 n).stage = n)
    ∧ (∀ l : Fin 64, ((staged1 6).link (l : Fin 64)).st = 4)
    ∧ (∀ x ∈ [(3, 0), (0, 0), (0, 1)], let c := cmd 0 0x0010 0xFF [1] x.1 0 0 0 x.2
       (withCmd (staged1 2) c).dev.commandAt (0 : Fin 17) 0x0010 c)
    ∧ streamTake (staged1 2) 0xFF (cmd 0 0x0010 0xFF [1] 3 0 0 0 0) = some [1]
    ∧ streamTake (staged1 2) 0xFF (cmd 0 0x0010 0xFF [1] 0 0 0 0 1) = none
    ∧ (∀ b ∈ [[], [0]], let c := cmd 0 0x0011 0xFF b 0 0 0 0 0; (withCmd (staged1 2) c).dev.commandAt (0 : Fin 17) 0x0011 c) := by
  refine ⟨by decide +kernel, by decide +kernel, by decide +kernel, fun x h => commandAt_of ?_, by decide +kernel, by decide +kernel,
    fun b h => commandAt_of ?_⟩
  · revert x; decide +kernel
  · revert b; decide +kernel
/-- R341: the end of MEM_TRAIN enables a link, but not one whose LINK_ENABLE was written 0. -/
theorem test_memTrain : ∃ s', exec (.memTrainDone true [some 16] [])
      (at_ { ready with stage := 5, links := [(3, { LinkState.reset with written := true })] }) = .next s'
    ∧ s'.dev.stage = 6 ∧ (s'.dev.link 2).enable = true ∧ (s'.dev.link 3).enable = false := by
  refine ⟨_, exec_memTrainDone .., ?_⟩; decide +kernel
/-- R602, R603: the reset key takes a running device back to stage RESET; the boot ROM then waits for firmware. -/
theorem test_reset_key : ∃ s', exec (.deviceResetKey 0 0xD2A7) (at_ (with1 part2)) = .next s' ∧ s'.dev.stage = 0
    ∧ (s'.dev.part 0).time.mode = .stopped ∧ s'.dev.fwRunning = false := by
  refine ⟨_, exec_deviceResetKey .., ?_⟩; decide +kernel
/-- R605, Example PP-2: the boot ROM of a device as shipped enables 80 groups of grade A640 and waits for firmware. -/
theorem test_boot : ∃ s', exec (.bootRom 3) State.reset = .next s' ∧ s'.dev.stage = 2 ∧ s'.dev.grade = 0
    ∧ ((List.range 84).filter (fun g => !s'.dev.groupEnabled g)) = [7, 30, 51, 66] ∧ s'.dev.boot.sledSlot = 3 := by
  refine ⟨_, exec_bootRom .., ?_⟩; decide +kernel

/-- A step with nothing waiting, and one with a command in front. -/
theorem wit_StepRunsFront : (at_ ready).pending = [] ∧ ready.mgmt.waiting = [] ∧ { at_ ready with pending := [.epochWrap] }.pending = .epochWrap :: [] ∧ ready.stage ≠ 0
    ∧ State.reset.dev.stage = 0 := by decide +kernel
theorem wit_FusesAreKept : (∃ s', step State.reset = .next s') ∧ State.reset.fuseInv
    ∧ (∀ g, State.reset.pending.head? ≠ some (.fieldFuseProgram g)) :=
  ⟨⟨_, rfl⟩, ⟨rfl, by decide +kernel⟩, fun g => by simp [State.reset]⟩
/-- R36: BC counts one beat on an empty queue, out of reset only. -/
theorem test_tick : (∃ s', step (at_ ready) = .next s' ∧ s'.dev.time.bc = 4097) 
    ∧ ∃ s', step State.reset = .next s' ∧ s'.dev.time.bc = 0 := by
  refine ⟨⟨_, rfl, ?_⟩, ⟨_, rfl, ?_⟩⟩ <;> decide +kernel

/-- R666, R668: a land of lane 1 of link 17, and the first data land of capacity channel 6. -/
theorem test_lands : Land.use ⟨.sw, 6, 53⟩ = .link 17 1 true true ∧ Land.use ⟨.sw, 32, 28⟩ = .capacity 6 (.dq 0) := by decide +kernel

/-! ### The bridge, and the standards' examples -/

/-- R397: of a packet of 17 flits that came in on die 1 and waits for link 0 of die 0, 16 flits enter the bridge and free
their buffers of virtual channel 1 at link 40. -/
theorem test_bridge :
    let q : InPacket := { inPkt (pkt 9 1 1 1 0 [1]) (some 40) with flits := 17 }
    let d := crossBridge { ready with router := { Router.reset with out := [(0, q)] } }
    d.router.bridge = [(3, 4096, 16)] ∧ (d.link 40).freed = [0, 16, 0, 0, 0, 0] ∧ ((finishPacket d q).link 40).freed.getD 1 0 = 17 := by
  decide +kernel
/-- R620, R621: a frame that reaches the port before FW_INIT waits, a 33rd is discarded, and the oldest is served once firmware runs. -/
theorem test_portHolds :
    let early : Dev := { ready with fwRunning := false, stage := 3 }
    let d := oapRead early (.port src1 false (oap1 1 0x10))
    let full : Dev := { early with mgmt := { early.mgmt with waiting := List.replicate 32 (src1, false, oap1 1 0x10) } }
    d.mgmt.waiting.length = 1 ∧ d.mgmt.sent = none ∧ (oapRead full (.port src1 false (oap1 1 0x10))).mgmt.discards = 1
      ∧ (oapServeNext { d with fwRunning := true }).mgmt.waiting = [] ∧ (oapServeNext { d with fwRunning := true }).mgmt.requests = 1 := by
  decide +kernel
/-- The digest of "abc" as FIPS 180-4's examples give it. -/
theorem test_sha384 : beNat (sha384 [0x61, 0x62, 0x63])
    = 0xcb00753f45a35e8bb5a03d699ac65007272c32ab0eded1631a8b605a43ff5bed8086072ba1e7cc2358baeca134c825a7 := by decide +kernel
/-- The P-384 signature of "sample" with SHA-384 in RFC 6979, A.2.6, and the same with another digest. -/
theorem test_ecdsa :
    let key := leBytes 48 0xEC3A4E415B4E19A4568618029F427FA5DA9A8BC4AE92E02E06AAE5286B300C64DEF8F0EA9055866064A254515480BC13
      ++ leBytes 48 0x8015D9B72D7D57244EA8EF9AC0C621896708A59367F9DFB9F54CA84B3F1C9DB1288B231C3AE0D4FE7344FD2533264720
    let sig := leBytes 48 0x94EDBB92A5ECB8AAD4736E56C691916B3F88140666CE9FA73D64C4EA95AD133C81A648152E44ACF96E36DD1E80FABE46
      ++ leBytes 48 0x99EF4AEB15F178CEA1FE40DB2603138F130E740A19624526203B6351D0A3A94FA329C145786E679E7B82C71A38628AC8
    ecdsaVerify key (sha384 [0x73, 0x61, 0x6D, 0x70, 0x6C, 0x65]) sig = true
      ∧ ecdsaVerify key (sha384 [0x61, 0x62, 0x63]) sig = false := by decide +kernel

end Sys2Proof.Tests
end

section
/-!
Operations that leave the timebase as it is: the rings of the host interface, tree messages, the failures of a bow, and the
measurements of links.
-/
namespace Sys2Proof.Machine

/-! ### Host rings and tree messages -/

@[simp] theorem Dev.post_time (d : Dev) (a : Nat) (b : Bytes) : (d.post a b).time = d.time := rfl

@[simp] theorem signalRing_time (d : Dev) (f r : Nat) : (signalRing d f r).time = d.time := by
  unfold signalRing
  split
  · rfl
  · simp [signalVector]

@[simp] theorem writeEntry_time (d : Dev) (f r kind : Nat) (b : Bytes) : (writeEntry d f r kind b).time = d.time := by
  simp [writeEntry, apply_ite Dev.time]

@[simp] theorem dropEntry_time (d : Dev) (f r kind : Nat) : (dropEntry d f r kind).time = d.time := by
  simp [dropEntry, apply_ite Dev.time]

@[simp] theorem pushEntry_time (d : Dev) (f r kind : Nat) (b : Bytes) : (pushEntry d f r kind b).time = d.time := by
  simp [pushEntry, apply_ite Dev.time]

@[simp] theorem pushEvent_time (d : Dev) (f kind : Nat) (b : Bytes) : (pushEvent d f kind b).time = d.time :=
  pushEntry_time ..

@[simp] theorem sendTree_time (d : Dev) (l kind fence : Nat) (b : Bytes) : (sendTree d l kind fence b).time = d.time := by
  simp [sendTree, apply_ite Dev.time]

/-- A fold whose steps leave the timebase as it is leaves it so. -/
theorem foldl_time {β : Type} (f : Dev → β → Dev) (l : List β) (d : Dev) (hf : ∀ a b, (f a b).time = a.time) :
    (l.foldl f d).time = d.time :=
  foldl_keeps (fun x : Dev => x.time = d.time) f l d rfl (fun a b h => (hf a b).trans h)

@[simp] theorem toChildren_time (d : Dev) (k kind : Nat) (b : Bytes) : (toChildren d k kind b).time = d.time :=
  foldl_time _ _ _ (fun _ _ => sendTree_time ..)

@[simp] theorem toParent_time (d : Dev) (k kind : Nat) (b : Bytes) : (toParent d k kind b).time = d.time :=
  sendTree_time ..

/-! ### The bow -/

@[simp] theorem Dev.updBow_time (d : Dev) (k : Nat) (f : Bow → Bow) : (d.updBow k f).time = d.time := rfl

@[simp] theorem bowAbort_time (d : Dev) (k dev cause : Nat) : (bowAbort d k dev cause).time = d.time := by
  simp [bowAbort]

@[simp] theorem bowFail_time (d : Dev) (k dev cause count : Nat) : (bowFail d k dev cause count).time = d.time := by
  simp [bowFail, apply_ite Dev.time]

@[simp] theorem bowRetest_time (d : Dev) : (bowRetest d).time = d.time :=
  foldl_time _ _ _ (fun a k => by simp [apply_ite Dev.time])

/-! ### What an epoch edge starts afresh -/

@[simp] theorem epochReset_time (d : Dev) : (epochReset d).time = d.time := rfl

@[simp] theorem remeasureAll_time (d : Dev) : (remeasureAll d).time = d.time :=
  foldl_time _ _ _ (fun a l => by simp [apply_ite Dev.time])

end Sys2Proof.Machine
end

section
/-!
Accepted writes of the object dictionary: what passes the checks of R610 to R616 is applied, here to the entries of the
timebase.
-/
namespace Sys2Proof.Machine

/-- A write that firmware accepts passes every check before its effect, so the entry's own rule decides. -/
theorem entryWrite_of_accepts {d : Dev} {who : Principal} {ix sub v : Nat} (h : d.accepts who ix sub v) :
    entryWrite d who ix sub v = (applyEntry d who (dictBase ix).1 (dictBase ix).2 sub v).2 := by
  obtain ⟨hserved, r, hrow, hread, hconst, hright, hsize, hlo, hhi, hrange, hrws⟩ := h
  have hv : leNat (leBytes r.size v) = v := by
    rw [leNat_leBytes, show 256 = 2 ^ 8 from rfl, ← Nat.pow_mul, Nat.mod_eq_of_lt hsize]
  have hopen : ¬ (r.mode = 3 ∧ ¬ d.rwsOpen (dictBase ix).1 (dictBase ix).2 = true) := fun ⟨hm, hn⟩ => hn (hrws hm)
  simp only [entryWrite, writeItem, hserved, hrow, hread, hconst, hright, hv, hrange, Nat.not_lt.2 hlo, Nat.not_lt.2 hhi,
    length_leBytes, hopen, Bool.not_true, Bool.false_eq_true, ne_eq, not_true_eq_false, or_self, if_false]

theorem applyEntry_nextEpoch (d : Dev) (who : Principal) (v : Nat) :
    applyEntry d who 0x2010 0 2 v = nextEpochWrite d v := rfl

theorem applyEntry_resync (d : Dev) (who : Principal) : applyEntry d who 0x2010 0 6 1 = resync d := rfl

/-- The range of NEXT_EPOCH, 44 bits (Table BT-2). -/
theorem nextEpoch_le_of_accepts {d : Dev} {who : Principal} {v : Nat} (h : d.accepts who 0x2010 2 v) :
    v ≤ 0x0FFFFFFFFFFF := by
  obtain ⟨_, r, hrow, _, _, _, _, _, hhi, _⟩ := h
  have hr : some r = some ⟨2, 2, 5, 8, 1, 15, 12, 0, 17592186044415⟩ := hrow.symm
  cases hr
  exact hhi

/-- An accepted write of NEXT_EPOCH has the effect that the synchronisation state gives it (R43). -/
theorem exec_nextEpochWrite_of_accepts {s : State} {who : Principal} {v : BitVec 64}
    (h : s.dev.accepts who 0x2010 2 v.toNat) :
    exec (.nextEpochWrite who v) s = .next { s with dev := (nextEpochWrite s.dev v.toNat).2 } := by
  rw [exec_nextEpochWrite, entryWrite_of_accepts h]
  rfl

/-- An accepted write of RESYNC is left to R44. -/
theorem exec_resync_of_accepts {s : State} {who : Principal} (h : s.dev.accepts who 0x2010 6 1) :
    exec (.resync who) s = .next { s with dev := (resync s.dev).2 } := by
  rw [exec_resync, entryWrite_of_accepts h]
  rfl

end Sys2Proof.Machine
end

section
/-!
The synchronisation state: what a write of NEXT_EPOCH, a RESYNC, a pulse on SYNC_N and a wrap of BC do in each state
(R40 to R44).
-/
namespace Sys2Proof.Machine

/-! ### Writes of NEXT_EPOCH (R43) and RESYNC (R44) -/

section
variable {d : Dev} {v : Nat} (hv : v ≤ 0x0FFFFFFFFFFF)
include hv

theorem nextEpochWrite_unsynced (h : d.time.sync = 0) :
    (nextEpochWrite d v).2.time = { d.time with nextEpoch := v, sync := 1 } := by
  simp [nextEpochWrite, Nat.not_lt.2 hv, h]

theorem nextEpochWrite_armed (h : d.time.sync = 1) :
    (nextEpochWrite d v).2.time = { d.time with nextEpoch := v } := by
  simp [nextEpochWrite, Nat.not_lt.2 hv, h]

theorem nextEpochWrite_synced (h : d.time.sync = 2) :
    (nextEpochWrite d v).2.time = { d.time with nextEpoch := v, expected := some v } := by
  simp [nextEpochWrite, Nat.not_lt.2 hv, h]

end

theorem nextEpochWrite_lost {d : Dev} {v : Nat} (h : 3 ≤ d.time.sync) : nextEpochWrite d v = (false, d) := by
  obtain ⟨n, hn⟩ := Nat.exists_eq_add_of_le' h
  simp [nextEpochWrite, hn]

theorem resync_allStopped {d : Dev} (h : d.allStopped = true) :
    (resync d).2.time = { d.time with sync := 0, mismatches := 0, missed := 0, expected := none } := by
  unfold Dev.allStopped at h
  simp [resync, h]

theorem resync_notStopped {d : Dev} (h : d.allStopped = false) : resync d = (false, d) := by
  unfold Dev.allStopped at h
  simp [resync, h]

/-! ### The pulse and the wrap -/

theorem boolNat_not (c : Bool) : boolNat (!c) = if c then 0 else 1 := by
  cases c <;> rfl

/-- A pulse whose fall is first sampled `edges` REFCLK edges after the beat edge lies on the wrap of BC[19:0]. -/
def Timebase.onWrap (b : Timebase) (edges : Nat) : Bool := edges == 0 && b.bc % 2 ^ 20 == 0

/-- A pulse is no mismatched epoch edge: it lies on the wrap, and BC counts the epoch that is expected (R41, R43). -/
def Timebase.matched (b : Timebase) (edges : Nat) : Bool :=
  b.onWrap edges && (match b.expected with | some e => e == b.bc / 2 ^ 20 | none => true)

/-- The timebase with the pulse noted: a pulse on the wrap closes it (R42). -/
def Timebase.pulsed (b : Timebase) (edges : Nat) : Timebase :=
  { b with pulse := b.onWrap edges, wrapOpen := if b.onWrap edges then false else b.wrapOpen }

theorem Timebase.onWrap_of_matched {b : Timebase} {edges : Nat} (h : b.matched edges = true) : b.onWrap edges = true :=
  (Bool.and_eq_true_iff.1 h).1

theorem Timebase.pulsed_of_matched {b : Timebase} {edges : Nat} (h : b.matched edges = true) :
    b.pulsed edges = { b with pulse := true, wrapOpen := false } := by
  simp [pulsed, onWrap_of_matched h]

section
variable {d : Dev} (edges : Nat) (hclk : d.time.refclk = true)
include hclk

theorem epochEdge_unsynced (h : d.time.sync = 0) : epochEdge d edges = d := by
  simp [epochEdge, hclk, h]

/-- The load of R40. -/
theorem epochEdge_armed (h : d.time.sync = 1) : (epochEdge d edges).time =
    { d.time with bc := d.time.nextEpoch * 2 ^ 20, sync := 2, expected := none, pulse := true, wrapOpen := false } := by
  simp [epochEdge, hclk, h]

/-- In SYNCED the pulse is judged: one that matches leaves the state, any other loses synchronisation (R41). -/
theorem epochEdge_synced (h : d.time.sync = 2) : epochEdge d edges =
    if d.time.matched edges then d.updBase (fun b => { b.pulsed edges with expected := none })
    else bowRetest (raise (d.updBase (fun b =>
      { b.pulsed edges with sync := 3, expected := none, mismatches := b.mismatches + 1 })) 0 1 41 none none (zeros 16)) := by
  simp only [epochEdge, hclk, h, Bool.not_true, Bool.false_eq_true, if_false]
  rfl

theorem epochEdge_synced_matched (h : d.time.sync = 2) (hm : d.time.matched edges = true) :
    (epochEdge d edges).time = { d.time.pulsed edges with expected := none } := by
  simp [epochEdge_synced edges hclk h, hm]

theorem epochEdge_synced_mismatched (h : d.time.sync = 2) (hm : d.time.matched edges = false) :
    (epochEdge d edges).time =
      { d.time.pulsed edges with sync := 3, expected := none, mismatches := d.time.mismatches + 1 } := by
  simp [epochEdge_synced edges hclk h, hm]

/-- In LOST a mismatched pulse is counted and does nothing else (R41, R43). -/
theorem epochEdge_lost (h : d.time.sync = 3) : (epochEdge d edges).time =
    { d.time.pulsed edges with mismatches := d.time.mismatches + boolNat (!d.time.matched edges) } := by
  simp only [epochEdge, hclk, h, Bool.not_true, Bool.false_eq_true, if_false]
  rfl

end

/-- A wrap of BC[19:0] without a pulse is counted, in SYNCED and in LOST (R42). -/
theorem epochWrap_missed {d : Dev} (hw : d.time.wrapOpen = true) (hp : d.time.pulse = false)
    (hs : d.time.sync = 2 ∨ d.time.sync = 3) :
    (epochWrap d).time = { d.time with missed := d.time.missed + 1, wrapOpen := false } := by
  simp [epochWrap, hw, hp, hs]

/-- Settles O33: each command leaves the timebase that the lemma of its synchronisation state gives. -/
theorem epochSync : Obligations.EpochSync := by
  unfold Obligations.EpochSync
  intro s who v edges b becomes onWrap good
  have hgood : good = b.matched edges := rfl
  refine ⟨fun hacc => ?_, fun hacc => ?_, fun hclk => ?_, fun hw hp hs => ?_⟩
  · have hv := nextEpoch_le_of_accepts hacc
    have hexec := exec_nextEpochWrite_of_accepts hacc
    exact ⟨fun h => ⟨_, hexec, nextEpochWrite_unsynced hv h⟩, fun h => ⟨_, hexec, nextEpochWrite_armed hv h⟩,
      fun h => ⟨_, hexec, nextEpochWrite_synced hv h⟩,
      fun h => ⟨_, hexec, congrArg (fun x : Bool × Dev => x.2.time) (nextEpochWrite_lost h)⟩⟩
  · have hexec := exec_resync_of_accepts hacc
    refine ⟨fun h => ⟨_, hexec, resync_allStopped h⟩, fun h => ?_⟩
    rw [hexec, resync_notStopped h]
  · have hexec := exec_epochEdge edges s
    rw [hgood]
    refine ⟨fun h => ⟨_, hexec, ?_⟩, fun h => ⟨_, hexec, epochEdge_armed edges hclk h⟩, fun h hm => ⟨_, hexec, ?_⟩,
      fun h hm => ⟨_, hexec, ?_⟩, fun h => ⟨_, hexec, ?_⟩⟩
    · rw [epochEdge_unsynced edges hclk h]
    · rw [epochEdge_synced_matched edges hclk h hm, Timebase.pulsed_of_matched hm]
    · rw [epochEdge_synced_mismatched edges hclk h hm]
      exact ⟨rfl, rfl, rfl⟩
    · rw [epochEdge_lost edges hclk h, boolNat_not]
      exact ⟨h, rfl⟩
  · exact ⟨_, exec_epochWrap s, epochWrap_missed hw hp hs⟩

end Sys2Proof.Machine
end

section
/-!
The control core stalled on a full queue (R110): how an issue comes to stall, what each step of a stalled tile is, and what
QUEUE_FULL_STALL does once the head entry is taken.
-/
namespace Sys2Proof.Machine

/-! ### The queues of the engines -/

@[simp] theorem Engines.queue_setQueue (x : Engines) (e : Engine) (q : List QEntry) : (x.setQueue e q).queue e = q := by
  cases e <;> rfl

/-- Counting a stall leaves every queue. -/
@[simp] theorem Engines.queue_stallCount (x : Engines) (e : Engine) (n : Nat) :
    ({ x with queueFullStalls := n } : Engines).queue e = x.queue e := by
  cases e <;> rfl

/-- What an issue leaves in its tile when it places its entry (R106). -/
@[simp] theorem placeEntry_tile (d : Dev) (t : Nat) (e : Engine) (q : QEntry) :
    (placeEntry d t e q).tile t = { d.tile t with
      eng := (d.tile t).eng.setQueue e ((d.tile t).eng.queue e ++ [q])
      core := { (d.tile t).core.next with release := q.due, state := .running, spare := false } } := by
  simp [placeEntry]

@[simp] theorem placeEntry_tileRuns (d : Dev) (t u : Nat) (e : Engine) (q : QEntry) :
    (placeEntry d t e q).tileRuns u = d.tileRuns u := rfl

/-! ### The issue that stalls -/

/-- The device when an issue finds its queue full: the core stands on its instruction with the entry, and the stall is
counted at the tile and for the device (R110). -/
def Dev.stallOn (d : Dev) (t : Nat) (e : Engine) (q : QEntry) : Dev :=
  (d.updTile t (fun x => { x with
    core := { x.core with state := .stalled e q }
    eng := { x.eng with queueFullStalls := x.eng.queueFullStalls + 1 } })).updTileTotals
      (fun x => { x with queueFullStalls := x.queueFullStalls + 1 })

@[simp] theorem Dev.stallOn_tile (d : Dev) (t : Nat) (e : Engine) (q : QEntry) :
    (d.stallOn t e q).tile t = { d.tile t with
      core := { (d.tile t).core with state := .stalled e q }
      eng := { (d.tile t).eng with queueFullStalls := (d.tile t).eng.queueFullStalls + 1 } } := by
  simp [Dev.stallOn]

@[simp] theorem Dev.stallOn_tileTotals (d : Dev) (t : Nat) (e : Engine) (q : QEntry) :
    (d.stallOn t e q).tileTotals = { d.tileTotals with queueFullStalls := d.tileTotals.queueFullStalls + 1 } := rfl

/-- A timed action takes its period and notes its due cycle; the rest of its tile is as the core came to it. -/
@[simp] theorem Dev.atDue_tile (d : Dev) (t : Nat) (due : Due) : (d.atDue t due).tile t = { (d.atPeriod t).tile t with
    core := { d.coreAt t with spare := false, lastDue := due.value (d.coreAt t) } } := by
  simp [Dev.atDue, Dev.coreAt]

@[simp] theorem Dev.atDue_tileTotals (d : Dev) (t : Nat) (due : Due) :
    (d.atDue t due).tileTotals = (d.atPeriod t).tileTotals := by
  simp [Dev.atDue, Dev.takePeriod]

@[simp] theorem Dev.atDue_faults (d : Dev) (t : Nat) (due : Due) : (d.atDue t due).faults = (d.atPeriod t).faults := by
  simp [Dev.atDue]

@[simp] theorem Dev.atDue_mem (d : Dev) (t : Nat) (due : Due) : (d.atDue t due).mem = (d.atPeriod t).mem := by
  simp [Dev.atDue]

@[simp] theorem Dev.atDue_lost (d : Dev) (t : Nat) (due : Due) : (d.atDue t due).lost = (d.atPeriod t).lost := by
  simp [Dev.atDue]

/-- A base adjustment reads scalar registers only (R181), so neither the period nor the due cycle matters to it. -/
theorem adjustBase_withDue (c : Core) (b : Bool) (n : Nat) :
    adjustBase { c with spare := b, lastDue := n } = adjustBase c := rfl

/-- An issue that fetches its descriptor and finds 16 entries stalls on the entry that it would place (R110, R180, R181). -/
theorem issueOp_full (d : Dev) (t : Nat) (g : Guard) (e : Engine) (slot : Fin 512) (adj : List (Fin 4 × Fin 16)) (due : Due)
    (hf : d.fetches t) (hg : g.holds (d.coreAt t) = true) (ho : (d.atPeriod t).dueInOrder t due) (ha : adj.length ≤ 2)
    (hd : (d.atPeriod t).faultySpan (imemAddr t ((d.atPeriod t).tile t).imemActive (128 * slot.val)) 128 = [])
    (hq : 16 ≤ (((d.atPeriod t).tile t).eng.queue e).length) :
    issueOp d t g e slot adj due = (d.atDue t due).stallOn t e ⟨due.value (d.coreAt t), adj.foldl (adjustBase (d.coreAt t))
      ((d.atPeriod t).rawBytes (imemAddr t ((d.atPeriod t).tile t).imemActive (128 * slot.val)) 128), slot.val⟩ := by
  have hclean : (d.atDue t due).faultySpan
      (imemAddr t ((d.atDue t due).tile t).imemActive (128 * slot.val)) 128 = [] := by
    rw [Dev.atDue_tile, Dev.faultySpan_congr _ _ (d.atDue_faults t due)]
    exact hd
  have hbytes := (Dev.bytesAt_clean _ _ _ hclean).trans
    (Dev.rawBytes_congr _ _ (d.atDue_mem t due) (d.atDue_lost t due) _ _)
  rw [issueOp, timed_inOrder _ _ _ _ _ hf ho hg]
  simp only [Nat.not_lt.2 ha, if_false, fetchCheck_clean _ _ _ hclean, hbytes]
  simp only [Dev.atDue_tile, hq, if_true, adjustBase_withDue]
  rfl

/-! ### The steps of a stalled tile -/

/-- While the queue is full, a stalled tile whose release cycle is reached waits for the engine. -/
theorem runStep_stalled_full {d : Dev} {t : Nat} {e : Engine} {q : QEntry} (hr : d.tileRuns t = true)
    (hs : (d.tile t).core.state = .stalled e q) (hq : 16 ≤ ((d.tile t).eng.queue e).length)
    (hc : (d.tile t).core.release ≤ (d.tile t).core.cycle) : runStep d t = (d, false) := by
  simp [runStep, hr, hs, Nat.not_lt.2 hq, hc]

/-- The core of a running tile is stalled on an entry for which its engine's queue has room again. -/
def Dev.canPlace (d : Dev) (t : Nat) (e : Engine) (q : QEntry) : Prop :=
  d.tileRuns t = true ∧ (d.tile t).core.state = .stalled e q ∧ ((d.tile t).eng.queue e).length < 16

/-- The stalled issue places its entry in a period that the core has not used. -/
theorem runStep_canPlace_spare {d : Dev} {t : Nat} {e : Engine} {q : QEntry} (h : d.canPlace t e q)
    (hp : (d.tile t).core.spare = true) : runStep d t = (placeEntry d t e q, true) := by
  obtain ⟨hr, hs, hq⟩ := h
  simp [runStep, hr, hs, hq, hp]

/-- A stalled issue whose period is used comes to the next. -/
theorem runStep_canPlace_used {d : Dev} {t : Nat} {e : Engine} {q : QEntry} (h : d.canPlace t e q)
    (hp : (d.tile t).core.spare = false) : runStep d t = openPeriod d t := by
  obtain ⟨hr, hs, hq⟩ := h
  simp [runStep, hr, hs, hq, hp]

/-- A tile that has placed its entry is to execute its next instruction: it runs no further. -/
theorem runStep_placeEntry {d : Dev} {t : Nat} (e : Engine) (q : QEntry) (hr : d.tileRuns t = true)
    (hrest : (d.tile t).core.rest = false) : runStep (placeEntry d t e q) t = (placeEntry d t e q, false) := by
  simp [runStep, hr, Core.next, hrest]

/-! ### The run of a stalled tile -/

/-- A step that does something is the first of the steps that follow. -/
theorem runSteps_succ {step : Dev → Nat → Dev × Bool} {t : Nat} {d d' : Dev} (n : Nat) (h : step d t = (d', true)) :
    runSteps step t (n + 1) d = runSteps step t n d' := by
  simp [runSteps, h]

/-- A free period is the present one, not used yet, or the next, which opens in the present beat. -/
theorem Dev.freePeriod_cases {d d' : Dev} {t : Nat} (h : d.freePeriod t = some d') :
    ((d.tile t).core.spare = true ∧ d' = d) ∨ ((d.tile t).core.spare = false ∧ openPeriod d t = (d', true)) := by
  unfold Dev.freePeriod at h
  split at h
  case isTrue hp => exact .inl ⟨hp, (Option.some.inj h).symm⟩
  case isFalse hp =>
    split at h
    case isTrue ho => exact .inr ⟨eq_false_of_ne_true hp, Prod.ext (Option.some.inj h) ho⟩
    case isFalse => cases h

/-- From a period that the core has not used, a run of a stalled tile with room in its queue places the entry and ends. -/
theorem runSteps_canPlace_spare {d : Dev} {t : Nat} {e : Engine} {q : QEntry} (n : Nat) (h : d.canPlace t e q)
    (hp : (d.tile t).core.spare = true) (hrest : (d.tile t).core.rest = false) :
    runSteps runStep t (n + 1) d = placeEntry d t e q := by
  rw [runSteps_succ n (runStep_canPlace_spare h hp), runSteps_still _ _ _ _ (runStep_placeEntry e q h.1 hrest)]

/-- A stalled tile with room in its queue comes to its free period and places its entry there (R110). -/
theorem runTile_canPlace {d d' : Dev} {t : Nat} {e : Engine} {q : QEntry} (h : d.canPlace t e q)
    (hfree : d.freePeriod t = some d') (h' : d'.canPlace t e q) (hp' : (d'.tile t).core.spare = true)
    (hrest' : (d'.tile t).core.rest = false) : runTile d t = placeEntry d' t e q := by
  unfold runTile
  obtain ⟨-, rfl⟩ | ⟨hp, hopen⟩ := Dev.freePeriod_cases hfree
  · exact runSteps_canPlace_spare 63 h' hp' hrest'
  · rw [runSteps_succ 63 ((runStep_canPlace_used h hp).trans hopen)]
    exact runSteps_canPlace_spare 62 h' hp' hrest'

/-- QUEUE_FULL_STALL runs the tile whose core is stalled on the engine that it names. -/
theorem exec_queueFullStall_stalled {s : State} {t : Fin 672} {e : Engine} {q : QEntry}
    (hs : (s.dev.tile t).core.state = .stalled e q) :
    exec (.queueFullStall t e) s = .next { s with dev := runTile s.dev t } := by
  rw [exec_queueFullStall]
  simp [runWhere, hs]

/-- Settles O14: the issue stalls by `issueOp_full`; a stalled tile stands still while its queue is full
(`runStep_stalled_full`) and places its entry once there is room (`runTile_canPlace`). -/
theorem queueFullStall : Obligations.QueueFullStall := by
  unfold Obligations.QueueFullStall
  refine ⟨?_, fun s t e q hr hs => ⟨fun hq hc => ?_, fun d hfree hr' hs' hp' hrest' hq hq' => ?_⟩⟩
  · intro s t g e slot adj due d c at_ hf hg ho ha hd hq
    refine ⟨_, exec_issue t g e slot adj due s, ?_⟩
    rw [issueOp_full s.dev t g e slot adj due hf hg ho ha hd hq]
    simp only [Dev.stallOn_tile, Dev.stallOn_tileTotals, Dev.atDue_tile, Dev.atDue_tileTotals, Engines.queue_stallCount]
    exact ⟨rfl, rfl, rfl, rfl, rfl, rfl⟩
  · rw [exec_queueFullStall_stalled hs, runTile, runSteps_still _ _ _ _ (runStep_stalled_full hr hs hq hc)]
  · refine ⟨_, exec_queueFullStall_stalled hs, ?_⟩
    rw [runTile_canPlace ⟨hr, hs, hq⟩ hfree ⟨hr', hs', hq'⟩ hp' hrest']
    simp only [placeEntry_tile, Engines.queue_setQueue, true_and, and_true]
    rfl

end Sys2Proof.Machine
end

section
/-!
Counts that reach a target (R257), and timed actions whose guard is false (R251).
-/
namespace Sys2Proof.Machine

/-! ### Counts and targets -/

/-- A difference below 2^31 is one whose sign bit is 0 (R257). -/
theorem reached_iff (count target : BitVec 32) : reached count target = true ↔ 0 ≤ (count - target).toInt := by
  rw [reached, decide_eq_true_iff, BitVec.toInt_pos_iff]
  omega

/-- Settles O17: both kinds of wait test their count by `reached`. -/
theorem countReached : Obligations.CountReached := by
  unfold Obligations.CountReached
  exact fun _ _ _ _ => ⟨reached_iff _ _, reached_iff _ _⟩

/-! ### What a fetch leaves of the tiles -/

@[simp] theorem countTileCorrected_tile (d : Dev) (t n u : Nat) (imem : Bool) :
    (countTileCorrected d t n imem).tile u = d.tile u := by
  unfold countTileCorrected
  split
  · rfl
  · extract_lets c d'
    split
    · exact raise_tile_at ..
    · rfl

/-- A fetch that succeeds may count corrected words (R533), and leaves every tile. -/
theorem fetchCheck_some_tile {d d' r : Dev} {t off n : Nat} (h : fetchCheck d t off n = (some d', r)) (u : Nat) :
    d'.tile u = d.tile u := by
  unfold fetchCheck at h
  extract_lets a ws loc lost counted end0 at h
  split at h
  · cases h
  · split at h
    · cases h
    · obtain ⟨hcounted, -⟩ := Prod.mk.inj h
      rw [← Option.some.inj hcounted]
      unfold counted
      split
      · rfl
      · exact countTileCorrected_tile ..

/-- Two instructions do the same where their bodies do the same with the core that comes to the instruction, its period
taken. -/
theorem instruction_congr {d : Dev} {t : Nat} {body body' : Dev → Dev}
    (h : ∀ e, (e.tile t).core = { d.coreAt t with spare := false } → body e = body' e) :
    instruction d t body = instruction d t body' := by
  unfold instruction
  extract_lets r begun pc
  split
  case isTrue => rfl
  case isFalse =>
    split
    case isTrue => rfl
    case isFalse =>
      split
      next e r' hfetch =>
        refine h e ?_
        rw [fetchCheck_some_tile hfetch t]
        exact Dev.regs_takePeriod d t
      next => rfl

/-! ### Guards of timed actions -/

/-- A guard reads the predicates only (R246). -/
theorem guard_holds_congr (g : Guard) {c c' : Core} (h : c.p = c'.p) : g.holds c = g.holds c' := by
  cases g with
  | always => rfl
  | _ => simp only [Guard.holds, h]

/-- With a false guard the body of a timed action does not matter: what is done is pace, order faults included (R251). -/
theorem timed_eq_paceOp {d : Dev} {t : Nat} {g : Guard} (due : Due) (body : Dev → Nat → Dev)
    (hg : g.holds (d.coreAt t) = false) : timed d t g due body = paceOp d t .always due := by
  unfold paceOp timed
  refine instruction_congr fun e he => ?_
  have hskip (n : Nat) : g.holds { (e.tile t).core with lastDue := n } = false :=
    (guard_holds_congr g (by rw [he])).trans hg
  have hpace (c : Core) : Guard.always.holds c = true := rfl
  simp [hskip, hpace]

/-- Every instruction with a due cycle is a timed action with its guard (Table CC-2). -/
theorem exec_of_timedOf {i : Instr} {t : Fin 672} {g : Guard} {due : Due} (h : timedOf i = some (t, g, due)) :
    ∃ body, ∀ s, exec i s = .next { s with dev := timed s.dev t g due body } := by
  unfold timedOf at h
  split at h
  case h_16 => cases h
  all_goals
    cases h
    simp only [exec_ldB, exec_ldH, exec_ldW, exec_ldD, exec_stB, exec_stH, exec_stW, exec_stD, exec_issue, exec_pace,
      exec_waitMq, exec_waitSig, exec_waitMbx, exec_stintEnd, exec_stintNap, loadOp, storeOp, accessOp, issueOp, paceOp,
      waitOp, stintEndOp, stintNapOp]
    exact ⟨_, fun _ => rfl⟩

/-- Settles O19: each timed instruction is a timed action (`exec_of_timedOf`), and with a false guard that is pace
(`timed_eq_paceOp`). -/
theorem guardFalsePaces : Obligations.GuardFalsePaces := by
  unfold Obligations.GuardFalsePaces
  intro s t i g due hi hg
  obtain ⟨body, hexec⟩ := exec_of_timedOf hi
  rw [hexec, exec_pace, timed_eq_paceOp due body hg]

end Sys2Proof.Machine
end

section
/-!
The fabric: bits of a mask, packets a device has finished with, writes of a partition's fence tag (R401, R405), and the
recheck of a link against the loaded route tables (R402).
-/
namespace Sys2Proof

/-- A bit reads back what was set. -/
@[simp] theorem bit_setBit (v i : Nat) (b : Bool) : bit (setBit v i b) i = b := by
  have hpos : 0 < 2 ^ i := Nat.two_pow_pos i
  unfold setBit
  split
  case isTrue h => exact eq_of_beq h
  case isFalse h =>
    cases b with
    | true =>
      have hoff : ¬ v / 2 ^ i % 2 = 1 := by simpa [bit] using h
      rw [if_pos rfl, bit, Nat.add_div_right v hpos]
      exact beq_iff_eq.2 (by omega)
    | false =>
      have hon : v / 2 ^ i % 2 = 1 := by simpa [bit] using h
      have hdiv : (v - 2 ^ i) / 2 ^ i = v / 2 ^ i - 1 := by simpa using Nat.sub_mul_div v (2 ^ i) 1
      rw [if_neg Bool.false_ne_true, bit, hdiv]
      exact beq_eq_false_iff_ne.2 (by omega)

end Sys2Proof

namespace Sys2Proof.Machine

/-- A part of the state that no step of a fold changes comes out of the fold as it went in. -/
theorem foldl_unchanged {α β γ : Type} (view : α → γ) (f : α → β → α) (l : List β) (a : α)
    (hf : ∀ a b, view (f a b) = view a) : view (l.foldl f a) = view a :=
  foldl_keeps (fun x => view x = view a) f l a rfl (fun x b h => (hf x b).trans h)

/-! ### Finished packets -/

/-- Buffers are freed at a link: what does not read the links is left. -/
theorem freeFlits_unchanged {γ : Type} (view : Dev → γ) (hlink : ∀ d l f, view (Dev.updLink d l f) = view d)
    (d : Dev) (q : InPacket) (n : Nat) : view (freeFlits d q n) = view d := by
  unfold freeFlits
  split
  · split
    · exact hlink ..
    · rfl
  · rfl

/-- Finishing with packets changes links and the router's packet lists only. -/
theorem finishPackets_unchanged {γ : Type} (view : Dev → γ) (hlink : ∀ d l f, view (Dev.updLink d l f) = view d)
    (hremove : ∀ d id, view (Dev.updRouter d (·.remove id)) = view d) (l : List InPacket) (d : Dev) :
    view (l.foldl finishPacket d) = view d :=
  foldl_unchanged view finishPacket l d
    fun a q => (hremove (freeBuffers a q) q.id).trans (freeFlits_unchanged view hlink ..)

section
variable (l : List InPacket) (d : Dev)

@[simp] theorem finishPackets_part (k : Nat) : (l.foldl finishPacket d).part k = d.part k :=
  finishPackets_unchanged (·.part k) (fun _ _ _ => rfl) (fun _ _ => rfl) l d
@[simp] theorem finishPackets_time : (l.foldl finishPacket d).time = d.time :=
  finishPackets_unchanged (·.time) (fun _ _ _ => rfl) (fun _ _ => rfl) l d
@[simp] theorem finishPackets_posted : (l.foldl finishPacket d).router.posted = d.router.posted :=
  finishPackets_unchanged (·.router.posted) (fun _ _ _ => rfl) (fun _ _ => rfl) l d
@[simp] theorem finishPackets_ort : (l.foldl finishPacket d).router.ort = d.router.ort :=
  finishPackets_unchanged (·.router.ort) (fun _ _ _ => rfl) (fun _ _ => rfl) l d
@[simp] theorem finishPackets_cooling : (l.foldl finishPacket d).router.cooling = d.router.cooling :=
  finishPackets_unchanged (·.router.cooling) (fun _ _ _ => rfl) (fun _ _ => rfl) l d
end

@[simp] theorem foldl_updLink_part (l : List Nat) (f : LinkState → LinkState) (d : Dev) (k : Nat) :
    (l.foldl (fun s x => s.updLink x f) d).part k = d.part k :=
  foldl_unchanged (fun s : Dev => s.part k) (fun s x => s.updLink x f) l d (fun _ _ => rfl)
@[simp] theorem foldl_updLink_router (l : List Nat) (f : LinkState → LinkState) (d : Dev) :
    (l.foldl (fun s x => s.updLink x f) d).router = d.router :=
  foldl_unchanged Dev.router (fun s x => s.updLink x f) l d (fun _ _ => rfl)

/-! ### Fence tags -/

/-- A tag is taken, for partition `k`: another partition holds it, or it cools (R401). -/
def Dev.tagTaken (d : Dev) (k : Fin 16) (tag : Nat) : Prop :=
  (∃ j : Fin 16, j ≠ k ∧ (d.part j).fenceTag = tag) ∨ ∃ e ∈ d.router.cooling, e.1 = tag

/-- The model's search for a taken tag. -/
theorem Dev.tagTaken_iff (d : Dev) (k : Fin 16) (tag : Nat) : d.tagTaken k tag ↔
    ((List.range 16).any (fun j => j != k && (d.part j).fenceTag == tag)
      || d.router.cooling.any (·.1 == tag)) = true := by
  simp [Dev.tagTaken, Fin.exists_iff, Fin.ext_iff, and_left_comm]

theorem Dev.not_tagTaken {d : Dev} {k : Fin 16} {tag : Nat} (hheld : ∀ j : Fin 16, j ≠ k → (d.part j).fenceTag ≠ tag)
    (hcool : ∀ e ∈ d.router.cooling, e.1 ≠ tag) : ¬ d.tagTaken k tag := by
  rintro (⟨j, hj, h⟩ | ⟨e, he, h⟩)
  · exact hheld j hj h
  · exact hcool e he h

section
variable {d : Dev} {k : Fin 16} {tag : Nat}

theorem fenceTagWrite_running (h : (d.part k).time.mode ≠ .stopped) : fenceTagWrite d k tag = (false, d) :=
  if_pos (.inl h)

theorem fenceTagWrite_taken (h0 : tag ≠ 0) (h : d.tagTaken k tag) : fenceTagWrite d k tag = (false, d) := by
  unfold fenceTagWrite
  extract_lets p
  split
  · rfl
  · exact if_pos ⟨h0, (d.tagTaken_iff k tag).1 h⟩

/-- The effects of a change that R401 and R405 name outside links and packets. -/
theorem fenceTagWrite_changed (hstop : (d.part k).time.mode = .stopped) (hle : tag ≤ 0xFFFE)
    (hfree : tag ≠ 0 → ¬ d.tagTaken k tag) (hnew : tag ≠ (d.part k).fenceTag) :
    let e := (fenceTagWrite d k tag).2
    (e.part k).fenceTag = tag ∧ e.router.posted = d.router.posted.filter (·.part != k.val)
      ∧ e.router.ort = d.router.ort.filter (·.part != k.val)
      ∧ e.router.cooling = (if (d.part k).fenceTag = 0 then d.router.cooling
          else d.router.cooling ++ [((d.part k).fenceTag, d.time.bc)])
      ∧ (e.part k).weights.mirrors = [] := by
  have hopen : ¬ ((d.part k).time.mode ≠ .stopped ∨ 0xFFFE < tag ∨ 16 ≤ k.val) := by
    rintro (h | h | h)
    · exact h hstop
    · omega
    · omega
  have hfree' : ¬ (tag ≠ 0 ∧ _) := fun h => hfree h.1 ((d.tagTaken_iff k tag).2 h.2)
  unfold fenceTagWrite
  rw [if_neg hopen, if_neg hfree', if_neg hnew]
  extract_lets old renamed gone waiting finished cooled unmirrored unqueued e
  have hpart : e.part k = unmirrored.part k :=
    (foldl_updLink_part _ _ unqueued k).trans (by unfold unqueued; split <;> rfl)
  have hrouter : e.router = cooled.router :=
    (foldl_updLink_router _ _ unqueued).trans (by unfold unqueued; split <;> rfl)
  rw [hpart, hrouter]
  simp [unmirrored, cooled, finished, renamed, old, Dev.updWeights]

end

/-! ### Writes of FENCE_TAG -/

theorem dictBase_fenceTag (k : Fin 16) : dictBase (0x3040 + 0x100 * k) = (0x3040, k.val) := by
  simp only [dictBase]
  rw [if_neg (by omega), if_neg (by omega), if_pos (by omega), Prod.mk.injEq]
  omega

theorem applyEntry_fenceTag (d : Dev) (who : Principal) (k v : Nat) :
    applyEntry d who 0x3040 k 1 v = fenceTagWrite d k v := rfl

/-- A write whose rule would leave the state as it is leaves it so, whether or not a check before the rule refuses it. -/
theorem entryWrite_unchanged {d : Dev} {who : Principal} {ix sub v : Nat}
    (h : ∀ w, (applyEntry d who (dictBase ix).1 (dictBase ix).2 sub w).2 = d) : entryWrite d who ix sub v = d := by
  unfold entryWrite
  split
  · rfl
  · split
    · rfl
    next r hrow => simp [writeItem, hrow, h, apply_ite Prod.snd]

/-- FENCE_TAG of a partition that is not stopped keeps its value. -/
theorem exec_fenceTagWrite_running {s : State} {k : Fin 16} (who : Principal) (tag : BitVec 16)
    (h : (s.dev.part k).time.mode ≠ .stopped) : exec (.fenceTagWrite who k tag) s = .next s := by
  have hkept : entryWrite s.dev who (0x3040 + 0x100 * k) 1 tag.toNat = s.dev :=
    entryWrite_unchanged fun w => by rw [dictBase_fenceTag, applyEntry_fenceTag, fenceTagWrite_running h]
  rw [exec_fenceTagWrite, hkept]

/-- An accepted write of FENCE_TAG is left to R401. -/
theorem exec_fenceTagWrite_of_accepts {s : State} {who : Principal} {k : Fin 16} {tag : BitVec 16}
    (h : s.dev.accepts who (0x3040 + 0x100 * k) 1 tag.toNat) :
    exec (.fenceTagWrite who k tag) s = .next { s with dev := (fenceTagWrite s.dev k tag.toNat).2 } := by
  rw [exec_fenceTagWrite, entryWrite_of_accepts h, dictBase_fenceTag, applyEntry_fenceTag]

/-! ### Rechecks of a link -/

/-- A route table opens link `l`, whose peer has rank `rank` in the job if any (R402). -/
def RouteTable.opens (rt : RouteTable) (l : Nat) (rank : Option Nat) : Bool :=
  bit rt.openLinks l && rt.linkRank.getD l 0 != 0 && (match rank with
    | some r => r != rt.thisRank
    | none => false)

theorem RouteTable.opens_iff (rt : RouteTable) (l : Nat) (rank : Option Nat) : rt.opens l rank = true ↔
    bit rt.openLinks l = true ∧ rt.linkRank.getD l 0 ≠ 0 ∧ ∃ r, rank = some r ∧ r ≠ rt.thisRank := by
  cases rank <;> simp [RouteTable.opens, and_assoc]

/-- What the recheck of link `l` to device `peer` makes of a partition (R402). -/
def Part.recheck (l peer : Nat) (p : Part) : Part :=
  match p.net.route with
  | none => p
  | some rt =>
    let ok := rt.opens l ((p.job.jobMap.getD []).findIdx? (· == peer))
    { p with net := { p.net with openLinks := setBit p.net.openLinks l ok } }

theorem Part.recheck_none {p : Part} (l peer : Nat) (h : p.net.route = none) : p.recheck l peer = p := by
  rw [Part.recheck, h]

theorem Part.recheck_some {p : Part} {rt : RouteTable} (l peer : Nat) (h : p.net.route = some rt) :
    p.recheck l peer = { p with net := { p.net with
      openLinks := setBit p.net.openLinks l (rt.opens l ((p.job.jobMap.getD []).findIdx? (· == peer))) } } := by
  rw [Part.recheck, h]

/-- A fold over distinct partitions whose step changes partition `j` by `g`, as long as `P` holds, changes those of the list. -/
theorem foldl_part_distinct {P : Dev → Prop} {f : Dev → Nat → Dev} {g : Part → Part} (hkeep : ∀ a j, P a → P (f a j))
    (hpart : ∀ a j k, P a → (f a j).part k = if k = j then g (a.part k) else a.part k) (k : Nat) :
    ∀ (l : List Nat) (d : Dev), l.Nodup → P d → (l.foldl f d).part k = if k ∈ l then g (d.part k) else d.part k
  | [], _, _, _ => rfl
  | j :: l, d, hnodup, hd => by
    obtain ⟨hj, hl⟩ := List.nodup_cons.1 hnodup
    rw [List.foldl_cons, foldl_part_distinct hkeep hpart k l _ hl (hkeep d j hd), hpart d j k hd]
    by_cases hkj : k = j
    · subst hkj
      simp [hj]
    · simp [hkj]

/-- A recheck of an UP link checks it against the table of every partition. -/
theorem linkRecheck_part {d : Dev} (l : Fin 64) (k : Fin 16) (hup : (d.link l).st = 4) :
    (linkRecheck d l).part k = (d.part k).recheck l (d.link l).peerDev := by
  unfold linkRecheck
  rw [if_neg (by omega), foldl_part_distinct (P := fun a => a.link l = d.link l)
    (g := Part.recheck l (d.link l).peerDev) ?_ ?_ k _ d List.nodup_range rfl, if_pos (List.mem_range.2 k.isLt)]
  · intro a j ha
    split
    · exact ha
    · exact ha
  · intro a j i ha
    split
    next hnone =>
      split
      next hij => rw [hij, Part.recheck_none _ _ hnone]
      next => rfl
    next rt hrt =>
      rw [Dev.part_updNet]
      split
      next hij =>
        rw [hij, Part.recheck_some _ _ hrt, ha]
        rfl
      next => rfl

/-- Settles O50: FENCE_TAG keeps its value in a partition that runs and where the tag is taken, changes elsewhere
(`fenceTagWrite_changed`), and a recheck opens a link by each partition's own table (`linkRecheck_part`). -/
theorem fenceTagsGuardLinks : Obligations.FenceTagsGuardLinks := by
  unfold Obligations.FenceTagsGuardLinks
  intro s k who tag p r
  refine ⟨exec_fenceTagWrite_running who tag, fun hacc hstop hle => ⟨fun h0 htaken => ?_, fun hfree hnew => ?_⟩,
    ⟨_, exec_tagCooldownExpiry tag s, rfl, rfl⟩, fun l rt hup hrt => ⟨_, exec_linkRecheck l s, ?_⟩⟩
  · rw [exec_fenceTagWrite_of_accepts hacc, fenceTagWrite_taken h0 htaken]
  · have hnot (h0 : tag.toNat ≠ 0) : ¬ s.dev.tagTaken k tag.toNat := by
      obtain ⟨hheld, hcool⟩ := hfree.resolve_left h0
      exact Dev.not_tagTaken hheld hcool
    exact ⟨_, exec_fenceTagWrite_of_accepts hacc, fenceTagWrite_changed hstop hle hnot hnew⟩
  · rw [linkRecheck_part l k hup, Part.recheck_some _ _ hrt, bit_setBit]
    exact rt.opens_iff l _

end Sys2Proof.Machine
end
